-- ==== Sys2Proof/Word.lean ====
section
/-!
DEFINITION. The word types of the companion: bytes, the 32-bit register word (R56) and the 64-bit quantity
that two adjacent registers make (R58).
-/
namespace Sys2Proof

/-- One byte of a record, frame, image or host buffer. -/
abbrev Byte := BitVec 8

/-- One register (R56). -/
abbrev Word := BitVec 32

/-- A 64-bit quantity (R58). -/
abbrev DWord := BitVec 64

end Sys2Proof
end

