-- ==== Sys2Proof/Syntax.lean ====
section
/-!
DEFINITION. The commands of the companion, one for each row of the table of operations and events. An operand that
comes from outside the companion (a host write's value, a frame, a level at a ball, the outcome of an analog or
cryptographic unit whose inner working the spec does not give) is an argument of its command.
-/
namespace Sys2Proof

/-- A flit as it arrives on a Reed port (R651): the port, the header fields, and whether its CRC matches and its TYPE is one of
R652. -/
structure FlitHdr where
  port : Fin 4
  good : Bool
  lseq : BitVec 16
  ack : BitVec 16
  src : BitVec 6
  dst : BitVec 6
  bcast : Bool
  hops : BitVec 8
  bseq : BitVec 32
deriving DecidableEq, Repr


/-- What a boot step's work found (R755): whether it succeeded, whether the MAGIC and CRC of each ledger copy hold (B2), the
image read from flash (B3), the repair records written (B4), the engines that passed their slots (B6: TE0 to TE3, SH0, SH1), and
the DETAIL of a failed step (R764). -/
structure BootStep where
  ok : Bool
  copyA : Bool
  copyB : Bool
  image : List Byte
  repairs : List (BitVec 32)
  engines : BitVec 6
  detail : BitVec 16
deriving DecidableEq, Repr

/-- A word that the scrub found and corrected (R47, R740): its macro and row, and the page and source that report it. -/
structure ScrubRow where
  macro_ : BitVec 11
  row : BitVec 10
  page : Fin 28
  src : Fin 32
deriving DecidableEq, Repr

/-- One command for each row of the table. -/
inductive Instr where
  /-- POWER_ON_RESET (R751): PORST_N low or VDD_AON below range resets every block, including the always-on domain, and sets the fatal latch. -/
  | powerOnReset
  /-- WRST_N_ASSERT (R751): WRST_N held low for at least 1 µs starts a warm reset of the core domain, every register and every key. -/
  | wrstNAssert
  /-- BOOT_WRST (R752): A PF0 write to BOOT_WRST advances or cancels the 0xC3-then-0x3C sequence; the second key starts a warm reset. -/
  | bootWrst (key : BitVec 8)
  /-- SUPPLY_MONITOR_TRIP (R803): A monitored rail falls below its threshold and causes a power-on reset, a core power-good fall or a PLL unlock. -/
  | supplyMonitorTrip (rail : Fin 5)
  /-- CORE_LOSS (R18): Core power-good, reset or clock monitor reports loss of the core domain; the always-on domain forces the safe state. -/
  | coreLoss
  /-- BOOT_STEP_DONE (R755): A boot step completes; the sequencer updates the ledger and starts the next step. -/
  | bootStepDone (b : BootStep)
  /-- BOOT_STEP_TIMEOUT (R755): A boot step passes its Max and fails. -/
  | bootStepTimeout
  /-- CLRVAR (R757): BOOT_CMD.CLRVAR clears the boot variants from the next attempt onwards. -/
  | clrvar
  /-- HOST_PERST (R790): HOST_PERST_N low, hot reset or link down resets host configuration space and discards open transactions. -/
  | hostPerst
  /-- PF0_FLR (R790): A function-level reset of PF0 resets its configuration and MSI-X state and discards open transactions. -/
  | pf0Flr
  /-- PF1_FLR (R790): A function-level reset of PF1 resets its configuration and MSI-X state and stops ring writes. -/
  | pf1Flr
  /-- D3HOT_ENTRY (R790): A function entering D3hot stops BAR decode and bus mastering. -/
  | d3hotEntry (f : Fin 4)
  /-- REG_WRITE (R812): A write to a register with no row of its own acts field by field: RW at once, RWT and ROL by transaction state, unmapped or refused writes set faults. -/
  | regWrite (off : BitVec 26) (v : BitVec 32) (full : Bool) (mem : List Byte)
  /-- TXN_BEGIN (R84): GLB_TXN_CTRL BEGIN opens a transaction, clears staging, increments GLB_TXN_ID and starts the open timer. -/
  | txnBegin
  /-- TXN_COMMIT (R90): GLB_TXN_CTRL COMMIT samples the boundary and enters CHECKING. -/
  | txnCommit (ecc : Bool)
  /-- TXN_ABORT (R97): GLB_TXN_CTRL ABORT discards staging with LAST ABORTED. -/
  | txnAbort
  /-- TXN_OPEN_TIMEOUT (R89): The open timer expires before COMMIT; staging is discarded with LAST TIMEOUT. -/
  | txnOpenTimeout
  /-- TXN_CHECKS_DONE (R90): CHECKING ends: on a failure staging is discarded; otherwise the transaction goes to ARMED or APPLYING. -/
  | txnChecksDone (images : List (Fin 6 × List Byte))
  /-- TXN_ARMED_EXPIRY (R97): The armed limit expires before the boundary; staging is discarded with LAST EXPIRED. -/
  | txnArmedExpiry
  /-- TXN_APPLY (R92): At the apply instant every block applies its staged entries before its next work item. -/
  | txnApply
  /-- TXN_APPLY_ACKED (R92): The last block acknowledges; the transaction returns to IDLE with LAST DONE. -/
  | txnApplyAcked
  /-- APPLY_INCOMPLETE (R95): The acknowledgement bound expires; APPLY_INCOMPLETE forces the safe state and the transaction ends INCOMPLETE. -/
  | applyIncomplete (late : List (Fin 28))
  /-- CONTEXT_EMPTY (R343): An unloading context holds no job any more, reaches EMPTY and frees its remaining space. -/
  | contextEmpty (c : Fin 16)
  /-- GLB_LOCK (R79): A write of GLB_LOCK.LOCKED locks ROL fields now, or once the running transaction ends. -/
  | glbLock
  /-- BLK_RST (R67): _CTRL.BLK_RST resets a block's engine or port state; on TE pages it also clears EN. -/
  | blkRst (p : Fin 28)
  /-- INJ_ARM (R547): _INJ.ARM creates an expected-injection entry, or is refused. -/
  | injArm (p : Fin 28) (src : BitVec 5) (chan : BitVec 16)
  /-- FAULT_ACK (R526): A W1C of a _FLT bit acknowledges the source and sets its level to none. -/
  | faultAck (p : Fin 28) (mask : BitVec 32)
  /-- FAULT_OCCURRENCE (R523): A fault report arrives at the FCU and is suppressed, consumed, or given a level and its reaction. -/
  | faultOccurrence (p : Fin 28) (src : Fin 32) (chan : BitVec 16) (stream : Option (Fin 64)) (unit : BitVec 16) (ref : BitVec 64) (inj : Bool)
  /-- INJ_WINDOW_EXPIRY (R550): An injection window ends with no consumed report; CHECKER_SILENT is raised. -/
  | injWindowExpiry (p : Fin 28) (src : BitVec 5) (chan : BitVec 16)
  /-- INJ_NOTXN (R548): An armed checker checks no transaction within 100 ms; its entry is removed. -/
  | injNotxn (p : Fin 28) (src : BitVec 5) (chan : BitVec 16)
  /-- SSC_REL (R538): A write to SSC_REL advances or cancels the 0xA5-then-0x5A release; the second key releases the safe state when R537 holds. -/
  | sscRel (key : BitVec 8)
  /-- SAFEN_RB (R534): The SAFE_N ball differs from its driven level for more than 20 ns. -/
  | safenRb
  /-- CICADA_RB (R536): A CICADA ball differs from its driven level for more than 20 ns. -/
  | cicadaRb (level : Bool)
  /-- RESTART_LINE_TIMEOUT (R545): 10 µs after a RESTART demand, the stream-OK line falls if HOLD has not yet been entered. -/
  | restartLineTimeout
  /-- RESTART_TO (R546): The restart timer expires before the restart is reported complete; RESTART_TO forces the safe state. -/
  | restartTo
  /-- TAP_RING_WRITE (R133): A Memory Write TLP to a tap ring is applied at the cursor, starts or continues a candidate, or is a framing failure. -/
  | tapRingWrite (p : Fin 2) (off : BitVec 24) (d : List Byte) (ok : Bool)
  /-- TAP_RING_READ (R132): A Memory Read to BAR0 completes with UR and sets RING_RD. -/
  | tapRingRead (p : Fin 2)
  /-- TAP_STATUS_WRITE (R132): A Memory Write to the status page is discarded and sets RING_RD. -/
  | tapStatusWrite (p : Fin 2)
  /-- PART_TO (R159): A record stays partial for 200 µs outside backpressure and is dropped as a framing failure. -/
  | partTo (p : Fin 2)
  /-- BP_LONG (R180): A backpressure episode exceeds BPLIM × 10 µs. -/
  | bpLong (p : Fin 2)
  /-- TAP_LINK_DOWN (R153): The tap link goes down; a partial record is dropped and a port in RUN enters RESYNC. -/
  | tapLinkDown (p : Fin 2)
  /-- TAP_LINK_UP (R153): The tap link comes up; LINKUP sets and no state changes. -/
  | tapLinkUp (p : Fin 2)
  /-- TAP_FLR (R790): A tap function reset drops the partial record and enters RESYNC, keeping held records. -/
  | tapFlr (p : Fin 2)
  /-- FLUSH (R157): TAP_CTRL.FLUSH drops a partial record and enters RESYNC. -/
  | flush (p : Fin 2)
  /-- QUIESCE_SET (R158): Setting TAP_CTRL.QUIESCE drops any partial record and enters QUIESCED. -/
  | quiesceSet (p : Fin 2)
  /-- QUIESCE_CLEAR (R153): Once both quiesce requests are clear, the port enters RESYNC. -/
  | quiesceClear (p : Fin 2)
  /-- BEGIN_RESULT (R168): Dispatch of BEGIN_RESULT opens a result with slot, bank, bucket token, seed and SAR draw, or is refused. -/
  | beginResult (i : Fin 64)
  /-- BANK_WAIT_TIMEOUT (R398): A BEGIN_RESULT held for a bank for 100 µs is handled as an ingress overrun. -/
  | bankWaitTimeout (i : Fin 64)
  /-- END_RESULT (R169): Dispatch of END_RESULT closes the result and checks NREC. -/
  | endResult (i : Fin 64)
  /-- TENSOR (R171): Dispatch of a TENSOR part fills its tensor and may trigger job groups. -/
  | tensor (i : Fin 64)
  /-- KV_APPEND (R145): Dispatch of KV_APPEND copies the position's key and value segments into the KV copy. -/
  | kvAppend (i : Fin 64)
  /-- ACC32 (R146): Dispatch of an ACC32 part fills the accumulator tensor of an exact-class site. -/
  | acc32 (i : Fin 64)
  /-- INPUT_BIND (R147): Dispatch of INPUT_BIND hands the origin entries to the VDU. -/
  | inputBind (i : Fin 64)
  /-- ACTION (R148): Dispatch of an ACTION record hands its setpoints to the AEU and adds an ACT check. -/
  | actionRec (i : Fin 64)
  /-- RETRACT (R173): Dispatch of RETRACT closes the result, forms RETRACTED, aborts checks, abandons semaphores and removes KV positions. -/
  | retract (i : Fin 64)
  /-- CMD_BEGIN (R563): Dispatch of CMD_BEGIN opens a command entry, or raises CMD_PROTO. -/
  | cmdBegin (i : Fin 64)
  /-- CMD_END (R563): Dispatch of CMD_END closes a command entry, or raises CMD_PROTO or CMD_ERR. -/
  | cmdEnd (i : Fin 64)
  /-- READY (R574): Dispatch of READY in WAIT_READY is checked against count, re-hash kind, chunk count and digest; otherwise it is discarded. -/
  | readyRec (p : Fin 2)
  /-- WEIGHT_CHUNK (R181): Dispatch of WEIGHT_CHUNK hashes the chunk against the manifest and passes it to the PST, or rejects it. -/
  | weightChunk (p : Fin 2)
  /-- PAD (R149): Dispatch of a PAD record is ignored. -/
  | pad (p : Fin 2)
  /-- TAP_SCLR (R187): TAP_SCLR.CLR clears the selected stream's counters and TAP_SPEAK. -/
  | tapSclr (p : Fin 2) (i : Fin 64)
  /-- TAP_CLR (R188): TAP_CLR.CLR clears the port counters and TAP_BPMAX. -/
  | tapClr (p : Fin 2)
  /-- KEYUP_COMPLETE (R226): Every matrix of a context has its vectors installed; the context's streams are admitted. -/
  | keyupComplete (c : Fin 16)
  /-- KEYUP_TO (R227): Key-up has not completed PST_KUPTO seconds after apply. -/
  | keyupTo (c : Fin 16)
  /-- ABORT_KEYUP (R227): PST_CCMD.ABORT_KEYUP unloads a context that is in key-up. -/
  | abortKeyup (c : Fin 16)
  /-- REKEY_ALL (R234): PST_CCMD.REKEY_ALL queues every matrix of the context for priority re-key. -/
  | rekeyAll (c : Fin 16)
  /-- REKEY_REQUEST (R232): A matrix reaches 0.9 × PST_EPOCH and requests a re-key from the MNA. -/
  | rekeyRequest (c : Fin 16) (site : BitVec 16)
  /-- REKEY_LATE (R232): A matrix reaches PST_EPOCH uninstalled; its request becomes an epoch-limit request. -/
  | rekeyLate (c : Fin 16) (site : BitVec 16)
  /-- REKEY_EXPIRED (R232): A matrix reaches 2 × PST_EPOCH; its checks end NOT DONE. -/
  | rekeyExpired (c : Fin 16) (site : BitVec 16)
  /-- MATRIX_INSTALL (R230): New vectors are encoded and installed, and GEN increments. -/
  | matrixInstall (c : Fin 16) (site : BitVec 16)
  /-- PST_CLR (R239): PST_CLR.CLR clears the re-key, window-loss and saturation counters. -/
  | pstClr
  /-- JOB_START (R290): A queued job starts after its predecessor's DONE and LDPs, clearing windows, flags and status. -/
  | jobStart (q : Fin 48)
  /-- LDP (R298): LDP starts a copy of projection data into scratch. -/
  | ldp (q : Fin 48)
  /-- LDP_LAND (R298): LDP data has landed and been authenticated; its local flag increments. -/
  | ldpLand (q : Fin 48) (fails : Fin 3) (site : BitVec 16)
  /-- PRY (R299): PRY adds signed outputs to the windows and sets NOTDONE on a saturated element. -/
  | pry (q : Fin 48)
  /-- DTX_PROJ (R300): DTX PROJ subtracts p·x with spill remainders from the windows. -/
  | dtxProj (q : Fin 48)
  /-- DTX_SQSUM (R300): DTX SQSUM adds Σa² to a window. -/
  | dtxSqsum (q : Fin 48)
  /-- DTX_SUM (R300): DTX SUM adds Σa to a window. -/
  | dtxSum (q : Fin 48)
  /-- DTX_DOT (R300): DTX DOT adds Σab to a window. -/
  | dtxDot (q : Fin 48)
  /-- CMPB (R301): CMPB evaluates B̂ for each window and sets FAILED on an excess. -/
  | cmpb (q : Fin 48)
  /-- RESX_ACC (R302): RESX ACC adds the weighted accumulators modulo both Mersenne primes. -/
  | resxAcc (q : Fin 48)
  /-- RESX_INPUT (R302): RESX INPUT subtracts Σq·x modulo both primes. -/
  | resxInput (q : Fin 48)
  /-- RESX_CMP (R302): RESX CMP sets FAILED unless both residues are 0. -/
  | resxCmp (q : Fin 48)
  /-- ELM (R303): ELM recomputes an elementwise function and judges every output element. -/
  | elm (q : Fin 48)
  /-- RTE_SELECT (R304): RTE SELECT judges the router selection and registers it for R253. -/
  | rteSelect (q : Fin 48)
  /-- RTE_GATE (R304): RTE GATE judges the gates under the gate rule. -/
  | rteGate (q : Fin 48)
  /-- TOKSLICE (R304): RTE TOKSLICE scores a slice of logits into a partial. -/
  | tokslice (q : Fin 48)
  /-- TOKJOIN (R304): RTE TOKJOIN joins the partials and judges the delivered token. -/
  | tokjoin (q : Fin 48)
  /-- ENV_CHECK (R305): ENV CHECK judges an attention output against the hull. -/
  | envCheck (q : Fin 48)
  /-- ENV_ADDROW (R305): ENV ADDROW folds V rows into the pending hull. -/
  | envAddrow (q : Fin 48)
  /-- ENV_COMMIT (R305): ENV COMMIT folds V rows into the committed hull. -/
  | envCommit (q : Fin 48)
  /-- ENV_REBUILD (R305): ENV REBUILD rebuilds the pending hull after a retraction. -/
  | envRebuild (q : Fin 48)
  /-- ENV_RECOMP (R305): ENV RECOMP runs SAR fallback over up to 64 positions and judges the head on LASTP. -/
  | envRecomp (q : Fin 48)
  /-- XFS (R306): XFS projects a moved vector under the transfer key and sends XVAL to the peer. -/
  | xfs (q : Fin 48)
  /-- XFC (R668): XFC projects the received vector and compares it with the peer's windows. -/
  | xfc (q : Fin 48)
  /-- XFER_TO (R306): An XFC's wait for the peer's XVAL passes the site timeout; NOTDONE is set. -/
  | xferTo (q : Fin 48)
  /-- SIG (R307): SIG adds CNT to a local flag, or sends a signal to a local or remote semaphore. -/
  | sig (q : Fin 48)
  /-- WAI (R308): WAI registers the queue as a waiter on a semaphore or flag. -/
  | wai (q : Fin 48)
  /-- DONE (R309): DONE ends the job, reports its outcome to the VDU slot and signals the join semaphore. -/
  | jobDone (q : Fin 48)
  /-- TE_CLOCK_GATE (R322): After 16 idle cycles the engine's domain is gated. -/
  | teClockGate (e : Fin 4)
  /-- SPARE_HANDOVER_DONE (R34): Every queue of a handing engine has moved; it enters SPARE_TEST, or OFF. -/
  | spareHandoverDone (e : Fin 4)
  /-- TE_SELFTEST_DONE (R316): A tally self-test slot ends in pass or in STEST_FAIL and OUT. -/
  | teSelftestDone (e : Fin 4) (pass : Bool) (phase : BitVec 3) (us : Nat)
  /-- TAKEOVER_COPY_DONE (R320): The faulted engine's state has been copied; the taking engine becomes ACTIVE. -/
  | takeoverCopyDone (e : Fin 4) (lostQ : List (Fin 48)) (lostSt : List (Fin 64))
  /-- TE_CLR (R327): TE_CLR.CLR clears the engine's counters. -/
  | teClr (e : Fin 4)
  /-- SEM_SIGNAL (R400): A signal arrives at a semaphore and is applied, saturated, or discarded by ownership. -/
  | semSignal (src : BitVec 4) (dev : BitVec 6) (c : Fin 16) (n : BitVec 14) (cnt : BitVec 8)
  /-- DEADLOCK (R416): The deadlock timer reaches 65,536 fabric cycles; heads are snapshotted and released. -/
  | deadlock
  /-- SEM_INIT (R411): SEM_SCMD.INIT returns an ABANDONED semaphore to ACTIVE with count 0. -/
  | semInit (n : BitVec 14)
  /-- SEM_ABANDON (R409): SEM_SCMD.ABANDON makes an ACTIVE semaphore ABANDONED. -/
  | semAbandon (n : BitVec 14)
  /-- SEM_CLR (R421): SEM_CLR.CLR clears the SEM counters and the snapshot. -/
  | semClr
  /-- VERDICT_DEADLINE (R362): TBU time reaches a result's deadline; the record is formed and the remaining jobs purge. -/
  | verdictDeadline (i : Fin 64) (q : BitVec 64)
  /-- BIND_JUDGE (R276): The VDU judges the INPUT_BIND entries once digests, earlier verdicts and tensors are available. -/
  | bindJudge (i : Fin 64) (q : BitVec 64)
  /-- OUTPUT_GATE_PASS (R372): A tagged record passes the output gate in sequence order, goes to the host ring and TSN queue, and may be forced. -/
  | outputGatePass (i : Fin 64)
  /-- CIDX_WRITE (R376): A host write of a ring's CIDX frees space, or is discarded with ACCESS when invalid. -/
  | cidxWrite (r : Fin 9) (v : BitVec 32)
  /-- RING_MOD_TIMER (R378): MOD_US passes since the first unsignalled record, and the ring's MSI-X vector fires. -/
  | ringModTimer (r : Fin 9)
  /-- CTXRST (R263): VDU_SCTRL.CTXRST requests a context reset of a stream at its next result boundary. -/
  | ctxrst (i : Fin 64)
  /-- CTX_RESET_APPLY (R263): At the result boundary the stream's count, KV copy and hulls are emptied. -/
  | ctxResetApply (i : Fin 64)
  /-- SHED_EVAL (R350): After a capacity change the shed controller sheds entries or suspends streams until no deficit remains. -/
  | shedEval
  /-- SHED_RESTORE (R356): An item has been restorable for 100 ms and is restored, with any following items. -/
  | shedRestore
  /-- VDU_SCLR (R389): VDU_SCLR.CLR clears the stream's counters and SMINMARG. -/
  | vduSclr (i : Fin 64)
  /-- VDU_CLR (R390): VDU_CLR.CLR clears VDU_HOLD and VDU_TSNLATE. -/
  | vduClr
  /-- HOLD_REQ (R27): MNT_CTRL.HOLD_REQ demands a hold, starting a handover or raising HOLD_REFUSED. -/
  | holdReq
  /-- HANDOVER_DONE (R441): The first compared cycle enters HOLD or LOCK_IDLE, or raises HOLD_FAIL. -/
  | handoverDone (bad : Fin 3)
  /-- HOLD_RELEASE (R443): MNT_CTRL.HOLD_RELEASE ends a hold at the next launch, or is discarded with ACCESS. -/
  | holdRelease
  /-- SPLIT_REQ (R444): MNT_CTRL.SPLIT_REQ in LOCK_IDLE requests a switch to SPLIT at the end of the next warm step. -/
  | splitReq
  /-- POLICY_STEP_START (R449): At t_k the hold policy step takes its inputs and runs as a warm or hold step. -/
  | policyStepStart (poison : Bool)
  /-- POLICY_STEP_DONE (R451): A policy step completes; the AEU judges hold setpoints and failures raise HOLD_STEP or WARM_MISS. -/
  | policyStepDone (ck : Fin 3)
  /-- HOLD_STEP_DEADLINE (R451): L_k − 5 µs passes before the hold frame enters its queue, and the step fails. -/
  | holdStepDeadline
  /-- HOLD_FRAME_LAUNCH (R452): At L_k the hold command frame launches and its setpoints become the AEU's c₀. -/
  | holdFrameLaunch
  /-- MONITOR_STEP_START (R456): A sentinel monitor step starts at its period, pre-empting SAR. -/
  | monitorStepStart
  /-- MONITOR_STEP_DONE (R456): A monitor step completes and sets the alarm lines, raising SENT_ALARM on assertion edges. -/
  | monitorStepDone (ck : Fin 3)
  /-- SAR_JOB_START (R437): A free Mantis engine takes a queued SAR job whose start condition holds. -/
  | sarJobStart (e : Fin 2)
  /-- SAR_JOB_DONE (R437): A SAR job ends, reports its outcome and signals. -/
  | sarJobDone (e : Fin 2) (ck : Bool)
  /-- MANTIS_SELFTEST_START (R458): A Mantis self-test slot starts every MNT_STPER ms, or after its deferral limit. -/
  | mantisSelftestStart (e : Fin 2)
  /-- MANTIS_SELFTEST_DONE (R458): A Mantis self-test slot ends in pass or in STEST_FAIL and OUT. -/
  | mantisSelftestDone (e : Fin 2) (pass : Bool)
  /-- SH_RETURN (R459): SH_CTRL.RETURN returns a probed engine to service. -/
  | shReturn (e : Fin 2)
  /-- SH_CLR (R463): SH_CLR.CLR clears the Mantis engine's counters. -/
  | shClr (e : Fin 2)
  /-- MNT_CLR (R466): MNT_CLR.CLR clears the MNT counters. -/
  | mntClr
  /-- ACTION_JUDGE (R474): At its judgement instant the AEU judges an ACTION record's entries against the limits and the stopping envelope. -/
  | actionJudge (i : Fin 64) (q : BitVec 64)
  /-- ENC_STALE (R470): An enabled joint's measured state becomes stale after ENCAGE. -/
  | encStale (j : Fin 64)
  /-- AT_REST_REACHED (R481): A joint's rest interval reaches REST_T and AT_REST sets. -/
  | atRestReached (j : Fin 64)
  /-- RESEED (R473): AEU_JCMD.RESEED empties the joint's command history. -/
  | reseed (j : Fin 64)
  /-- AEU_CLR (R486): AEU_CLR.CLR clears the judgement and rejection counters. -/
  | aeuClr
  /-- SIO_TICK (R491): Every 10 µs the SIO samples inputs, updates pairs and the function table, and drives the balls. -/
  | sioTick (dciA : BitVec 32) (dciB : BitVec 32) (fbkA : BitVec 24) (fbkB : BitVec 24) (edges : List (BitVec 7 × BitVec 64))
  /-- FILTER_CHANGE (R492): A differing sample persists for the filter time and the filtered level changes. -/
  | filterChange (fbk : Bool) (n : Fin 32) (chB : Bool)
  /-- DISCREP (R495): A disagreement lasts D + 1 ticks; DISCREP is raised and the pair latches. -/
  | discrep (n : Fin 32)
  /-- FEEDBACK (R500): A feedback input differs from its expected level beyond T_fb, and the output faults or stays OFF. -/
  | feedback (k : Fin 24)
  /-- READBACK (R499): A drive ball's readback differs from its driven level more than 2 µs after a tick; the output faults. -/
  | readback (k : Fin 24) (a : Bool) (b : Bool)
  /-- TEST_PULSE_START (R501): At the pulse period a drive ball is pulsed to 0 for TPW. -/
  | testPulseStart (k : Fin 24)
  /-- TEST_PULSE_END (R501): TPW ends and the ball returns to 1; a readback mismatch raises TESTPULSE. -/
  | testPulseEnd (k : Fin 24) (a : Bool) (b : Bool)
  /-- GROUP_ON (R505): SIO_Gg_CMD.ON sets the group's ONREQ. -/
  | groupOn (g : Fin 8)
  /-- GROUP_OFF (R505): SIO_Gg_CMD.OFF clears the group's ONREQ. -/
  | groupOff (g : Fin 8)
  /-- RELATCH (R503): SBO_SCMD.RELATCH releases a FAULT output to OFF once its cause is gone. -/
  | relatch (k : Fin 24)
  /-- BT_START (R507): SIO_BTCMD.START requests a brake test of an output. -/
  | btStart (k : BitVec 5)
  /-- BT_ABORT (R516): SIO_BTCMD.ABORT ends the running brake test ABORTED with reason HOST. -/
  | btAbort
  /-- BT_NOGRANT (R507): No grant arrives within 1 s; the test ends ABORTED NOGRANT. -/
  | btNogrant
  /-- BT_ENGAGE (R507): At t_g + 1 ms the output goes to TEST with both balls at 0. -/
  | btEngage
  /-- BT_FBK_DEADLINE (R507): Feedback has not read released by t_g + 1 ms + T_fb; the test ends FAIL_FBK. -/
  | btFbkDeadline
  /-- BT_TORQUE (R507): At TON the reference position is taken and deviation checking begins. -/
  | btTorque
  /-- BT_RELEASE (R507): At TOFF + SETTLE the test ends with its result and the output leaves TEST. -/
  | btRelease
  /-- BT_DUE (R510): The elapsed time since the last pass reaches BTINT. -/
  | btDue (k : Fin 24)
  /-- BT_OVERDUE (R510): The elapsed time reaches 2 × BTINT and the output is held OFF. -/
  | btOverdue (k : Fin 24)
  /-- DCI_SCLR (R518): DCI_SCLR.CLR clears the channel's counters. -/
  | dciSclr (n : Fin 32)
  /-- HANG (R564): An open command entry reaches its class timeout and raises HANG, triggering the stream's reaction. -/
  | hang (id : BitVec 10)
  /-- RESTART_QUIESCED (R571): Both ports are quiesced; the reset balls go low and the table is cleared. -/
  | restartQuiesced
  /-- RESTART_RESET_LOW (R571): Both reset readbacks show low and the reset hold starts. -/
  | restartResetLow
  /-- RESTART_HOLD_EXPIRY (R571): RSTHOLD or RSTLONG passes; the balls are released and RDYPORT is unquiesced. -/
  | restartHoldExpiry
  /-- RESTART_RESET_HIGH (R573): Both reset readbacks show high and WAIT_READY begins. -/
  | restartResetHigh
  /-- READY_TO (R574): No valid READY arrives within RDYTO or RDYTOF; the attempt fails. -/
  | readyTo
  /-- REPLAY_DONE (R576): ACB_RCMD.REPLAY_DONE ends step 6 and starts re-admission. -/
  | replayDone
  /-- REPLAY_TO (R577): RPLTO passes in step 6; the streams are re-admitted in RESET mode. -/
  | replayTo
  /-- RST_RB (R569): A compute-reset ball differs from its driven level for more than 20 ns. -/
  | rstRb (ball : Fin 2)
  /-- ACC_RUN (R568): A write of ACB_CTRL.ACC_RUN drives the compute-reset balls, or is refused during a restart. -/
  | accRun (v : Bool)
  /-- CLRSKIP (R581): ACB_RCMD.CLRSKIP clears the SKIPRPL variant. -/
  | clrskip
  /-- CLRRELOAD (R581): ACB_RCMD.CLRRELOAD clears the RELOAD variant. -/
  | clrreload
  /-- ACB_CCLR (R589): ACB_CCLR.CLR clears the class's counters and ACB_CMAX. -/
  | acbCclr (c : Fin 16)
  /-- ACB_CLR (R590): ACB_CLR.CLR clears ACB_NDISC and every class's counters. -/
  | acbClr
  /-- TBU_STEP (R594): TBU_CMD.STEP adds the signed offset to the time and shifts running intervals, or is refused. -/
  | tbuStep
  /-- TBU_CLR (R638): TBU_CLR.CLR clears TBU_NSTEP. -/
  | tbuClr
  /-- SYNC_LOST (R597): No Sync for 3 sync intervals; the servo enters HOLDOVER. -/
  | syncLost
  /-- SYNC (R598): A Sync on the slave port updates the servo's offset and rate, or steps the time, and is relayed to masters. -/
  | ptpSync (p : Fin 12) (seq : BitVec 16) (twoStep : Bool) (origin : Int) (corr : Int)
  /-- FOLLOW_UP (R621): A received Follow_Up supplies the origin time for two-step Sync handling. -/
  | followUp (p : Fin 12) (seq : BitVec 16) (origin : Int) (corr : Int)
  /-- PDELAY_REQ (R620): A received Pdelay_Req is answered with Pdelay_Resp. -/
  | pdelayReq (p : Fin 12) (seq : BitVec 16)
  /-- PDELAY_RESP (R620): A received Pdelay_Resp completes a link-delay exchange and updates asCapable. -/
  | pdelayResp (p : Fin 12) (seq : BitVec 16) (t2 : Int) (t3 : Int)
  /-- PDELAY_REQ_SEND (R620): Every 2^LOGPDELAY s a port sends Pdelay_Req; lost responses may clear asCapable. -/
  | pdelayReqSend (p : Fin 12)
  /-- GM_SYNC_SEND (R621): As grandmaster, each master port sends Sync every 2^LOGSYNC s. -/
  | gmSyncSend (p : Fin 12)
  /-- ANNOUNCE_RX (R619): A received Announce or Signaling message is counted and discarded. -/
  | announceRx (p : Fin 12)
  /-- ETH_FRAME_RX (R628): A received Ethernet frame passes FCS, stream filter, forwarding and the guard path. -/
  | ethFrameRx (p : Fin 12) (b : List Byte) (fcsOk : Bool)
  /-- ETH_FRAME_TX (R618): A queued frame starts transmission when its gate is open and its launch time is due. -/
  | ethFrameTx (p : Fin 12)
  /-- LT_DROP (R627): A launch-time frame has not started within TSN_PLTLIM of its launch time and is dropped. -/
  | ltDrop (p : Fin 12)
  /-- GATE_ENTRY_CHANGE (R623): A port's gate list moves to its next entry or cycle. -/
  | gateEntryChange (p : Fin 12)
  /-- STREAM_GATE_CHANGE (R629): A Qci stream gate moves to its next entry or cycle. -/
  | streamGateChange (g : Fin 16)
  /-- CB_RESET_TIMEOUT (R631): The 802.1CB recovery reset timeout CBRST expires for an IN entry. -/
  | cbResetTimeout (e : Fin 256)
  /-- ETH_LINK_DOWN (R814): An Ethernet link goes down; queued frames are dropped and LINK_DOWN is raised. -/
  | ethLinkDown (p : Fin 12)
  /-- ETH_LINK_UP (R640): An Ethernet link comes up. -/
  | ethLinkUp (p : Fin 12)
  /-- UNBLOCK (R629): TSN_SFs_CMD.UNBLOCK unblocks a stream filter. -/
  | unblock (f : Fin 128)
  /-- TSN_PCLR (R641): TSN_PCLR.CLR clears the port's counters. -/
  | tsnPclr (p : Fin 12)
  /-- TSN_CLR (R642): TSN_CLR.CLR clears the bridge counters. -/
  | tsnClr
  /-- CVU_START (R611): CVU_CMD.START initialises a host unit and folds in the tag. -/
  | cvuStart (u : Fin 32)
  /-- CVU_FINISH (R612): CVU_CMD.FINISH forms the final value and MATCH. -/
  | cvuFinish (u : Fin 32)
  /-- CVU_DATA (R612): A CVU_DATA write feeds 4 bytes to a host unit. -/
  | cvuData (u : Fin 32) (v : BitVec 32)
  /-- CVU_DATAB (R612): A CVU_DATAB write feeds 1 byte to a host unit. -/
  | cvuDatab (u : Fin 32) (v : BitVec 8)
  /-- CVU_RUN (R613): A CVU_RUN write sets the running value, or is discarded while data is fed. -/
  | cvuRun (u : Fin 32) (hi : Bool) (v : BitVec 32)
  /-- REED_IDLE (R652): A received IDLE flit updates ACKSEQ. -/
  | reedIdle (h : FlitHdr)
  /-- REED_NAK (R653): A received NAK causes a replay from ACKSEQ + 1. -/
  | reedNak (h : FlitHdr)
  /-- REED_REPLAY_TIMEOUT (R653): An unacknowledged flit older than 1 µs is replayed; eight replays cause a retrain. -/
  | reedReplayTimeout (p : Fin 4)
  /-- REED_TIME (R661): A TIME flit is answered, or completes an exchange that steers the servo. -/
  | reedTime (h : FlitHdr) (resp : Bool) (t1 : Int) (t2 : Int) (root : BitVec 6) (depth : BitVec 8)
  /-- REED_TIME_REQUEST (R661): Every REED_TPER µs a TIME request is sent upstream. -/
  | reedTimeRequest
  /-- REED_KEY (R665): A KEY flit delivers a transfer or audit key and is acknowledged, or is forwarded. -/
  | reedKey (h : FlitHdr) (auth : Bool) (purpose : BitVec 8) (site : BitVec 16) (stream : Fin 64) (kgen : BitVec 32) (fromRes : BitVec 64) (key : BitVec 256)
  /-- REED_KEYACK (R665): A KEYACK confirms a sent KEY. -/
  | reedKeyack (h : FlitHdr) (purpose : BitVec 8) (site : BitVec 16) (stream : Fin 64) (kgen : BitVec 32)
  /-- REED_SIG (R671): A SIG flit is applied to the destination result's semaphore, waits, or is discarded. -/
  | reedSig (h : FlitHdr) (stream : Fin 64) (cnt : BitVec 8) (n : BitVec 14) (resseq : BitVec 64)
  /-- REED_XVAL (R667): An XVAL flit enters the pending table, or is discarded. -/
  | reedXval (h : FlitHdr) (xid : BitVec 32) (resseq : BitVec 64) (token : BitVec 16) (prod : BitVec 2) (stream : Fin 64) (kgen : BitVec 32) (wins : List (BitVec 160 × BitVec 16))
  /-- ACC_DOWN (R659): A DOWN broadcast is acted on once, releasing waiters PEERDOWN and ending XFC checks, and is forwarded. -/
  | accDown (h : FlitHdr) (reason : BitVec 8) (attempt : BitVec 32) (tevent : BitVec 64)
  /-- ACC_UP (R659): An UP broadcast is acted on once and forwarded. -/
  | accUp (h : FlitHdr) (reason : BitVec 8) (attempt : BitVec 32) (tevent : BitVec 64)
  /-- AUDDATA (R675): AUDDATA flits deliver an audited check's operands, and the auditor runs the check. -/
  | auddata (h : FlitHdr) (stream : Fin 64) (resseq : BitVec 64) (chk : BitVec 16) (site : BitVec 16) (res : Fin 3) (data : List Byte)
  /-- AUDRES (R676): An AUDRES flit returns the auditor's outcome and may raise PEER_DIFF or PEER_MISS. -/
  | audres (h : FlitHdr) (stream : Fin 64) (resseq : BitVec 64) (chk : BitVec 16) (own : Fin 3)
  /-- XVAL_EXPIRY (R667): A pending XVAL entry passes its site timeout and is counted as orphaned. -/
  | xvalExpiry
  /-- REMOTE_SIG_EXPIRY (R671): A pending remote SIG waits 10 ms and is discarded. -/
  | remoteSigExpiry
  /-- XFER_KEY_ROLLOVER (R664): Every PST_EPOCH a sending companion draws and sends a new transfer key. -/
  | xferKeyRollover (c : Fin 16) (site : BitVec 16)
  /-- AUDIT_KEY_ROLLOVER (R674): Every PST_EPOCH the auditor draws and sends a new audit key. -/
  | auditKeyRollover
  /-- REED_TRAIN_DONE (R649): Port training ends and the neighbour's device number is checked. -/
  | reedTrainDone (p : Fin 4) (res : Fin 3) (nbr : BitVec 6)
  /-- REED_KEY_AGREED (R705): Link key agreement completes and the port enters UP, or fails with KEY_FAIL. -/
  | reedKeyAgreed (p : Fin 4) (ok : Bool)
  /-- REED_PORT_DOWN (R660): A port leaves UP; peers behind it become unreachable and are treated as down. -/
  | reedPortDown (p : Fin 4)
  /-- REED_PCLR (R681): REED_PCLR.CLR clears the port's counters. -/
  | reedPclr (p : Fin 4)
  /-- REED_CLR (R682): REED_CLR.CLR clears the REED counters. -/
  | reedClr
  /-- LOADKEY (R697): KCU_KCMD LOADKEY fetches and caches an owner key blob, or raises OKEY_BAD. -/
  | loadkey (slot : Fin 4) (b : List Byte)
  /-- LOADENDO (R698): KCU_KCMD LOADENDO verifies an endorsement and binds CTRLPUB to a session. -/
  | loadendo (n : Fin 8) (b : List Byte)
  /-- REVOKE (R688): KCU_KCMD REVOKE applies a signed revocation record, or raises ARB_REFUSED. -/
  | revoke (b : List Byte)
  /-- PROGSLOT (R687): KCU_KCMD PROGSLOT programs an empty owner slot's hash. -/
  | progslot (slot : Fin 4) (b : List Byte)
  /-- ARBADV (R696): KCU_ARBADV.GO advances an anti-rollback counter, or raises ARB_REFUSED. -/
  | arbadv (ctr : BitVec 3) (value : BitVec 8)
  /-- HS_START (R699): KCU_HSCMD.START writes a HELLO and enters HELLO for the session. -/
  | hsStart (n : Fin 8)
  /-- HS_RESP (R701): KCU_HSCMD.RESP verifies RESPONSE, derives keys and writes CONFIRM with TACT. -/
  | hsResp (n : Fin 8) (b : List Byte)
  /-- HS_DROP (R699): KCU_HSCMD.DROP returns the session to NONE, or fails an open handshake. -/
  | hsDrop (n : Fin 8)
  /-- HS_TIMEOUT (R702): No RESP within 1 s of HELLO; HS_FAIL is raised. -/
  | hsTimeout (n : Fin 8)
  /-- SESSION_ACTIVATE (R703): TBU time reaches TACT; the session enters ACTIVE under the new key, and waiting copies are tagged. -/
  | sessionActivate (n : Fin 8)
  /-- QUOTE (R706): KCU_QCMD.GO samples, signs and writes an attestation quote. -/
  | quote
  /-- HVKEY_READ (R704): The first read of KCU_HVKEY7 ends the availability of the host verdict key. -/
  | hvkeyRead
  /-- ENT_HEALTH (R690): A continuous entropy health test fails; the DRBG re-instantiates, and a third failure raises ENT_FAIL. -/
  | entHealth
  /-- DRBG_READY (R690): DRBG re-instantiation completes and draws are served again. -/
  | drbgReady
  /-- DRBG_RESEED (R192): The DRBG reseeds at plan load, after PST_EPOCH, or after 2^20 requests. -/
  | drbgReseed
  /-- KCU_CLR (R715): KCU_CLR.CLR clears the reseed and tag counters. -/
  | kcuClr
  /-- PWR_REQUEST (R723): CLK_PWR.REQ requests a power state, accepted or refused with PWR_REFUSED. -/
  | pwrRequest (req : BitVec 2)
  /-- P0_EXIT_TEST_DONE (R725): The exit self-tests end and P0 is entered with rotation restarted. -/
  | p0ExitTestDone (te : BitVec 4) (sh : BitVec 2)
  /-- POWER_CAP_EVAL (R728): Each millisecond power and burst credit are assessed and capping measures are added or lifted. -/
  | powerCapEval (mean : Nat) (pest : Nat)
  /-- TEMP_CONVERSION (R729): Every 20 µs the sensor sites convert and Tj_max is compared with the thresholds. -/
  | tempConversion (ds : List (BitVec 12 × BitVec 12))
  /-- THERMAL_FACTOR_STEP (R731): F_th steps down every 10 ms at 115 °C or up every 100 ms at 110 °C. -/
  | thermalFactorStep
  /-- TH_BURST_END (R730): Tj_max has stayed at or below 100 °C for 1 s and bursts are permitted again. -/
  | thBurstEnd
  /-- REF_LOSS (R720): The reference clock leaves its window or stops. -/
  | refLoss (stops : Bool)
  /-- PLL_UNLOCK (R720): The root PLL loses lock. -/
  | pllUnlock
  /-- DOMAIN_FREQ_FAULT (R720): A running domain's count leaves its window, raising ENG_FREQ or DOM_FREQ. -/
  | domainFreqFault (d : Fin 40) (count : Nat)
  /-- CLK_CLR (R746): CLK_CLR.CLR clears CLK_THMAX and CLK_NCAP. -/
  | clkClr
  /-- MNA_SLOT (R737): Every 1 ms the MNA grants or defers maintenance requests in priority order. -/
  | mnaSlot (rows : List ScrubRow)
  /-- SCRUB_LATE (R741): A scrub pass is not complete within 1.25 times its period. -/
  | scrubLate (dram : Bool)
  /-- CMP_LATE (R741): A comparator group's injection is more than 1 ms late. -/
  | cmpLate
  /-- ROT_LATE (R741): A tally engine has not passed a self-test within three rotation periods. -/
  | rotLate (e : Fin 4)
  /-- MNA_CLR (R749): MNA_CLR.CLR clears every MNA_DEFERa. -/
  | mnaClr
  /-- ERC_IDX (R772): A service write of ERC_IDX copies the record into the service snapshot. -/
  | ercIdx (hi : Bool) (v : BitVec 32)
  /-- APPEND (R772): ERC_ANNCMD.APPEND writes a new annotation record. -/
  | annAppend (a : Fin 3) (clash : Bool)
  /-- REPLACE (R772): ERC_ANNCMD.REPLACE rewrites an annotation record, or is refused. -/
  | annReplace (a : Fin 3) (clash : Bool)
  /-- ERC_CLR (R779): ERC_CLR.CLR clears ERC_DROP and ERC_RLOST. -/
  | ercClr
  /-- MEM_CLR (R783): MEM_CLR.CLR clears MEM_NCE and MEM_NUE. -/
  | memClr
  /-- FCU_CLR (R556): FCU_CLR.CLR clears the occurrence, escalation and injection counters. -/
  | fcuClr
  /-- CLRFIRST (R556): FCU_CLR.CLRFIRST clears FCU_FIRSTF.VALID. -/
  | clrfirst
  /-- SSC_CLR (R560): SSC_CLR.CLR clears the restart, release and trigger counters. -/
  | sscClr
  /-- SVC_READ (R795): A service SPI READ frame returns words with CRC and STATUS. -/
  | svcRead (addr : BitVec 24) (ch : BitVec 16) (nw : BitVec 8) (b7 : BitVec 8)
  /-- SVC_WRITE (R795): A service SPI WRITE frame applies permitted words after its CRC check. -/
  | svcWrite (op : BitVec 8) (addr : BitVec 24) (ch : BitVec 16) (b7 : BitVec 8) (data : List (BitVec 32)) (crc : BitVec 16) (clash : Bool)
  /-- SVC_FRAME_ABORT (R795): SVC_CS_N rises before STATUS and the frame applies nothing. -/
  | svcFrameAbort
  /-- IDCODE (R796): The JTAG IDCODE instruction returns the device ID. -/
  | idcode
  /-- BYPASS (R796): The JTAG BYPASS instruction selects the 1-bit register. -/
  | bypass
  /-- CHALLENGE (R710): The JTAG CHALLENGE read returns SERIAL and a fresh nonce. -/
  | challenge
  /-- TOKEN (R710): A JTAG TOKEN is verified and opens debug, or raises DBG_BAD. -/
  | token (b : List Byte)
  /-- REGACC (R796): JTAG REGACC performs one register access under R60. -/
  | regacc (woff : BitVec 22) (wr : Bool) (data : BitVec 32)
  /-- SCANDUMP (R796): JTAG SCANDUMP shifts the internal scan chains. -/
  | scandump
  /-- SAMPLE_PRELOAD (R796): JTAG SAMPLE/PRELOAD captures the boundary scan chain. -/
  | samplePreload (v : List Bool)
  /-- EXTEST (R797): JTAG EXTEST drives boundary-scan balls, excluding the safety outputs. -/
  | extest (v : List Bool)
  /-- RESET_RELEASE (R755): Release of a power-on or warm reset (PORST_N or WRST_N rising with rails in range) starts a boot attempt at B0. -/
  | resetRelease
  /-- RELEASE_SEQUENCE_EXPIRY (R538): The 1 ms window after the first SSC_REL key lapses without the second key, ending the pending release (RELPEND). -/
  | releaseSequenceExpiry
  /-- HOST_LINK_UP (R789): The host port link trains up again after PERST_N, hot reset or link down, so PF1 ring writes and held records can resume. -/
  | hostLinkUp
  /-- D0_ENTRY (R790): A function returns from D3hot to D0, resuming BAR decode and mastering; for a tap port, RESYNC follows. -/
  | d0Entry (f : Fin 4)
  /-- BUS_MASTER_ENABLE (R790): A configuration write of a function's Bus Master Enable starts or stops its mastering of ring writes, image fetches, handshakes and quotes. -/
  | busMasterEnable (f : Fin 2) (on : Bool)
  /-- ROW_RELOAD_DONE (R46): A poisoned sentinel-store row finishes reloading from LPDDR5X, and the hold-policy step that read it is repeated. -/
  | rowReloadDone
  /-- RECORD_WRITE_DONE (R769): A queued event record reaches MRAM, freeing recorder queue space; the pending overflow record and the ring write follow. -/
  | recordWriteDone
deriving DecidableEq, Repr

end Sys2Proof
end

