-- ==== Sys2Proof/Machine/Bits.lean ====
section
/-!
DEFINITION. Byte order, bit fields and signed values (R9 to R13): registers, records, images and flits are
little-endian, Ethernet frames big-endian.
-/
namespace Sys2Proof.Machine

/-- Value of bytes, the first the least significant (R10). -/
def leNat : List Byte → Nat
  | [] => 0
  | b :: bs => b.toNat + 256 * leNat bs

/-- The `k` little-endian bytes of a value. -/
def natLe : Nat → Nat → List Byte
  | 0, _ => []
  | k + 1, v => BitVec.ofNat 8 v :: natLe k (v / 256)

/-- Value of bytes, the first the most significant (R11). -/
def beNat (bs : List Byte) : Nat := leNat bs.reverse

/-- The `k` big-endian bytes of a value. -/
def natBe (k v : Nat) : List Byte := (natLe k v).reverse

/-- The `n` bytes from offset `o`. -/
def slice (o n : Nat) (bs : List Byte) : List Byte := (bs.drop o).take n

/-- Little-endian field of `n` bytes at offset `o`. -/
def le (o n : Nat) (bs : List Byte) : Nat := leNat (slice o n bs)

/-- Bits `hi` to `lo` of a value. -/
def bits (hi lo v : Nat) : Nat := v / 2 ^ lo % 2 ^ (hi + 1 - lo)

/-- The value with bits `hi` to `lo` replaced by `x`. -/
def setBits (hi lo x v : Nat) : Nat :=
  v % 2 ^ lo + x % 2 ^ (hi + 1 - lo) * 2 ^ lo + v / 2 ^ (hi + 1) * 2 ^ (hi + 1)

/-- One bit as a truth value. -/
def bit (n v : Nat) : Bool := v / 2 ^ n % 2 == 1

/-- 1 for true, 0 for false. -/
def b2n (b : Bool) : Nat := if b then 1 else 0

/-- The value of a `w`-bit two's-complement word. -/
def toSigned (w v : Nat) : Int := if v % 2 ^ w < 2 ^ (w - 1) then (v % 2 ^ w : Nat) else (v % 2 ^ w : Nat) - (2 ^ w : Nat)

/-- The `w`-bit two's-complement word of a value, wrapped. -/
def ofSigned (w : Nat) (i : Int) : Nat := (i % (2 ^ w : Nat)).toNat

/-- The value held between two limits. -/
def clampInt (lo hi i : Int) : Int := max lo (min hi i)

/-- The largest value of `w` bits: counters saturate there. -/
def allOnes (w : Nat) : Nat := 2 ^ w - 1

/-- An addition that saturates at all ones of `w` bits. -/
def satAdd (w a n : Nat) : Nat := min (allOnes w) (a + n)

/-- Element `i` of a list replaced by its image under `f`. -/
def updAt {α : Type} (f : α → α) : Nat → List α → List α
  | _, [] => []
  | 0, x :: xs => f x :: xs
  | i + 1, x :: xs => x :: updAt f i xs

/-- The elements that satisfy `p`, each replaced by its image under `f`; the others stay. -/
def mapIf {α : Type} (p : α → Bool) (f : α → α) (xs : List α) : List α :=
  xs.map fun x => if p x then f x else x

/-- Ceiling of a quotient. -/
def ceilDiv (a b : Nat) : Nat := (a + b - 1) / b

/-- Sum of a list of naturals. -/
def sumNat (xs : List Nat) : Nat := xs.foldl (· + ·) 0

end Sys2Proof.Machine
end

