-- ==== Sys2Proof/Machine/Crc.lean ====
section
/-!
DEFINITION. The cyclic redundancy checks the spec names with their parameters (R139, R610, R651, R795),
computed bit by bit.
-/
namespace Sys2Proof.Machine

/-- The low `w` bits of a value in reverse order. -/
def reflect : Nat → Nat → Nat
  | 0, _ => 0
  | w + 1, v => (v % 2) * 2 ^ w + reflect w (v / 2)

/-- Parameters of a CRC: width, polynomial, initial value, reflection and final inversion. -/
structure CrcAlg where
  width : Nat
  poly : Nat
  init : Nat
  refl : Bool
  xorOut : Nat
deriving DecidableEq, Repr

/-- One bit shifted into an unreflected register of `w` bits. -/
def crcBit (w poly : Nat) (r : Nat) (b : Nat) : Nat :=
  let top := (r / 2 ^ (w - 1) + b) % 2
  let sh := r * 2 % 2 ^ w
  if top = 1 then Nat.xor sh poly else sh

/-- The bits of a value from bit `w - 1` down to bit 0 shifted in. -/
def crcBits (w poly : Nat) : Nat → Nat → Nat → Nat
  | 0, _, r => r
  | n + 1, v, r => crcBits w poly n v (crcBit w poly r (v / 2 ^ n % 2))

/-- Bytes shifted into the register; a reflected algorithm takes each byte from its least significant bit. -/
def crcFeed (c : CrcAlg) : List Byte → Nat → Nat
  | [], r => r
  | b :: bs, r => crcFeed c bs (crcBits c.width c.poly 8 (if c.refl then reflect 8 b.toNat else b.toNat) r)

/-- The final value formed from the register. -/
def crcFinal (c : CrcAlg) (r : Nat) : Nat :=
  Nat.xor (if c.refl then reflect c.width r else r) c.xorOut

/-- The check value of bytes. -/
def crcOf (c : CrcAlg) (bs : List Byte) : Nat := crcFinal c (crcFeed c bs c.init)

/-- CRC-32C with the parameters of R139. -/
def crc32c : CrcAlg := ⟨32, 0x1EDC6F41, 0xFFFFFFFF, true, 0xFFFFFFFF⟩

/-- CRC-32 of IEEE 802.3. -/
def crc32 : CrcAlg := ⟨32, 0x04C11DB7, 0xFFFFFFFF, true, 0xFFFFFFFF⟩

/-- CRC-16/IBM-3740. -/
def crc16 : CrcAlg := ⟨16, 0x1021, 0xFFFF, false, 0⟩

/-- CRC-64/ECMA-182. -/
def crc64 : CrcAlg := ⟨64, 0x42F0E1EBA9EA3693, 0, false, 0⟩

/-- The algorithm of an ALG field (R610). -/
def crcAlgs : Nat → CrcAlg
  | 0 => crc32c | 1 => crc32 | 2 => crc16 | _ => crc64

end Sys2Proof.Machine
end

