-- ==== Sys2Proof/Config.lean ====
section
/-!
DEFINITION. What one companion fixes and this model leaves open: free values, and the standard algorithms the spec names
without spelling them out. Each is a constant with no body, so nothing proved about the model can rest on its value.
-/
namespace Sys2Proof.Config

/-- Draw number `n` of an unspecified value of `w` bits: DRBG output, and every value the spec leaves undefined. -/
opaque freeValue : (w : Nat) → Nat → BitVec w

/-- What host memory answers the fetch that a write through the test port starts, by the number of draws before (R60, R713). -/
opaque testPortFetch : Nat → List Byte

/-- SHA-384 (FIPS 180-4), as a number whose most significant byte is the first of the digest. -/
opaque sha384 : List Byte → Nat

/-- AES-256 of one 128-bit block under a 256-bit key (FIPS 197). -/
opaque aes256 : Nat → Nat → BitVec 128

/-- AES-256-GMAC: key, 96-bit IV and additional authenticated data to the 128-bit tag (SP 800-38D). -/
opaque gmac : Nat → List Byte → List Byte → BitVec 128

/-- AES-256-GCM: key, 96-bit IV, additional authenticated data and plaintext to the ciphertext and the 128-bit tag (SP 800-38D). -/
opaque gcmSeal : Nat → List Byte → List Byte → List Byte → List Byte × BitVec 128

/-- KMAC128 with a 128-bit output and the customisation string of R274: key and input (SP 800-185). -/
opaque kmacBind : Nat → List Byte → BitVec 128

/-- PRJ offset, in units of 64 bytes, of a streamed vector of a context's site: its index and generation (R198). -/
opaque prjOffset : Nat → Nat → Nat → Nat → BitVec 32

/-- Credits of each virtual channel of a Reed link beyond its first, modulo 128 (R655). -/
opaque reedCredits : Nat → Nat

/-- Subsystem vendor ID (low half) and subsystem ID that the board table of the boot image with a hash gives (R761, R786). -/
opaque boardSubIds : Nat → BitVec 32

/-- How far a self-test slot of an engine has come so many cycles after its start (R316). -/
opaque selfTestStep : Nat → Nat → Nat

/-- The byte with a number of the policy state that a hold image with a hash starts from (R447). -/
opaque policyInit : (hash i : Nat) → Byte

end Sys2Proof.Config
end

