-- ==== Sys2Proof/Machine/RegMap.lean ====
section
/-!
DEFINITION. The register map: every register of the spec's register tables (R64 to R68, R81 and each
chapter's page tables), with its place, its fields, their access types (R61), reset values and stated
write limits. A register's key is its BAR0 offset plus 2^32 times its channel (R75) plus, for the
registers that each accessor holds separately (R76), 2^48 times the accessor.
-/
namespace Sys2Proof.Machine

/-- Access type of a register field (R61). -/
inductive Acc where
  | rw | ro | wo | w1c | w1s | rwt | rol
deriving DecidableEq, Repr

/-- One field of a register table: its bits, access type, reset value and, where the table states them,
the lowest and highest value a write stores. -/
structure FSpec where
  hi : Nat
  lo : Nat
  acc : Acc
  rst : Nat
  min : Option Nat
  max : Option Nat
deriving DecidableEq, Repr

/-- One register of a page table. It repeats in up to two dimensions (channel, page of a type or table
index): copy `a`, `b` has the key `base + sa * a + sb * b`. `rst` is the whole reset word. -/
structure Reg where
  base : Nat
  sa : Nat := 0
  na : Nat := 1
  sb : Nat := 0
  nb : Nat := 1
  rst : Nat
  fields : List FSpec
deriving DecidableEq, Repr

/-- A field seen through its register. -/
structure Fld where
  reg : Reg
  hi : Nat
  lo : Nat
deriving DecidableEq, Repr

/-- Key step from one channel to the next (R75). -/
def chanStep : Nat := 0x100000000
/-- Key step from one accessor's copy to the next (R76). -/
def accStep : Nat := 0x1000000000000

namespace R
def GLB_DEVID : Reg :=
  { base := 0x400, rst := 0x10640,
    fields := [⟨15, 0, .ro, 1600, none, none⟩,
      ⟨23, 16, .ro, 1, none, none⟩,
      ⟨31, 24, .ro, 0, none, none⟩] }
def GLB_SERIAL_LO : Reg := { base := 0x404, rst := 0x0, fields := [⟨31, 0, .ro, 0, none, none⟩] }
def GLB_SERIAL_HI : Reg := { base := 0x408, rst := 0x0, fields := [⟨31, 0, .ro, 0, none, none⟩] }
def GLB_DIM0 : Reg :=
  { base := 0x40c, rst := 0x40404c24,
    fields := [⟨3, 0, .ro, 4, none, none⟩,
      ⟨7, 4, .ro, 2, none, none⟩,
      ⟨11, 8, .ro, 12, none, none⟩,
      ⟨15, 12, .ro, 4, none, none⟩,
      ⟨23, 16, .ro, 64, none, none⟩,
      ⟨31, 24, .ro, 64, none, none⟩] }
def GLB_DIM1 : Reg :=
  { base := 0x410, rst := 0x20801820,
    fields := [⟨7, 0, .ro, 32, none, none⟩,
      ⟨15, 8, .ro, 24, none, none⟩,
      ⟨23, 16, .ro, 128, none, none⟩,
      ⟨31, 24, .ro, 32, none, none⟩] }
def GLB_DIM2 : Reg :=
  { base := 0x414, rst := 0x10204000,
    fields := [⟨15, 0, .ro, 16384, none, none⟩,
      ⟨23, 16, .ro, 32, none, none⟩,
      ⟨31, 24, .ro, 16, none, none⟩] }
def GLB_PAGEMAP : Reg := { base := 0x418, rst := 0xfffffff, fields := [⟨31, 0, .ro, 268435455, none, none⟩] }
def GLB_LOCK : Reg := { base := 0x41c, rst := 0x0, fields := [⟨0, 0, .w1s, 0, none, none⟩, ⟨1, 1, .ro, 0, none, none⟩] }
def GLB_TXN_CTRL : Reg := { base := 0x420, rst := 0x0, fields := [⟨1, 0, .wo, 0, none, none⟩] }
def GLB_TXN_BOUND : Reg := { base := 0x424, rst := 0x0, fields := [⟨1, 0, .rw, 0, none, none⟩, ⟨13, 8, .rw, 0, none, none⟩] }
def GLB_TXN_TIME_NS : Reg := { base := 0x428, rst := 0x0, fields := [⟨31, 0, .rw, 0, none, none⟩] }
def GLB_TXN_TIME_SEC_LO : Reg := { base := 0x42c, rst := 0x0, fields := [⟨31, 0, .rw, 0, none, none⟩] }
def GLB_TXN_TIME_SEC_HI : Reg := { base := 0x430, rst := 0x0, fields := [⟨15, 0, .rw, 0, none, none⟩] }
def GLB_TXN_TIMEOUT : Reg := { base := 0x434, rst := 0x64, fields := [⟨13, 0, .rw, 100, (some 1), (some 10000)⟩] }
def GLB_TXN_ARMLIM : Reg := { base := 0x438, rst := 0x3e8, fields := [⟨15, 0, .rw, 1000, (some 1), (some 60000)⟩] }
def GLB_TXN_STAT : Reg :=
  { base := 0x43c, rst := 0x0,
    fields := [⟨2, 0, .ro, 0, none, none⟩,
      ⟨11, 8, .ro, 0, none, none⟩,
      ⟨28, 16, .ro, 0, none, none⟩,
      ⟨29, 29, .ro, 0, none, none⟩] }
def GLB_TXN_ID : Reg := { base := 0x440, rst := 0x0, fields := [⟨31, 0, .ro, 0, none, none⟩] }
def GLB_TXN_APPLY_NS : Reg := { base := 0x444, rst := 0x0, fields := [⟨31, 0, .ro, 0, none, none⟩] }
def GLB_TXN_APPLY_SEC_LO : Reg := { base := 0x448, rst := 0x0, fields := [⟨31, 0, .ro, 0, none, none⟩] }
def GLB_TXN_APPLY_SEC_HI : Reg := { base := 0x44c, rst := 0x0, fields := [⟨15, 0, .ro, 0, none, none⟩] }
def GLB_STG_IDX : Reg := { base := 0x450, rst := 0x0, fields := [⟨11, 0, .rw, 0, none, none⟩] }
def GLB_STG_ADDR : Reg := { base := 0x454, rst := 0x0, fields := [⟨25, 0, .ro, 0, none, none⟩, ⟨31, 31, .ro, 0, none, none⟩] }
def GLB_STG_CH : Reg := { base := 0x458, rst := 0x0, fields := [⟨15, 0, .ro, 0, none, none⟩] }
def GLB_STG_DATA : Reg := { base := 0x45c, rst := 0x0, fields := [⟨31, 0, .ro, 0, none, none⟩] }
def GLB_SCRATCH : Reg := { base := 0x460, rst := 0x0, fields := [⟨31, 0, .rw, 0, none, none⟩] }
def TAP_SSTAT : Reg :=
  { base := 0x60100, sa := 0x10000, na := 2, sb := chanStep, nb := 64, rst := 0x0,
    fields := [⟨0, 0, .ro, 0, none, none⟩,
      ⟨1, 1, .ro, 0, none, none⟩,
      ⟨2, 2, .ro, 0, none, none⟩,
      ⟨3, 3, .ro, 0, none, none⟩] }
def TAP_SNEXTSEQ : Reg :=
  { base := 0x60104, sa := 0x10000, na := 2, sb := chanStep, nb := 64, rst := 0x0,
    fields := [⟨31, 0, .ro, 0, none, none⟩] }
def TAP_SRES_LO : Reg :=
  { base := 0x60108, sa := 0x10000, na := 2, sb := chanStep, nb := 64, rst := 0x0,
    fields := [⟨31, 0, .ro, 0, none, none⟩] }
def TAP_SRES_HI : Reg :=
  { base := 0x6010c, sa := 0x10000, na := 2, sb := chanStep, nb := 64, rst := 0x0,
    fields := [⟨31, 0, .ro, 0, none, none⟩] }
def TAP_SRSV : Reg :=
  { base := 0x60110, sa := 0x10000, na := 2, sb := chanStep, nb := 64, rst := 0x0,
    fields := [⟨19, 0, .ro, 0, none, none⟩] }
def TAP_SHELD : Reg :=
  { base := 0x60114, sa := 0x10000, na := 2, sb := chanStep, nb := 64, rst := 0x0,
    fields := [⟨19, 0, .ro, 0, none, none⟩] }
def TAP_SPEAK : Reg :=
  { base := 0x60118, sa := 0x10000, na := 2, sb := chanStep, nb := 64, rst := 0x0,
    fields := [⟨19, 0, .ro, 0, none, none⟩] }
def TAP_SACC_LO : Reg :=
  { base := 0x6011c, sa := 0x10000, na := 2, sb := chanStep, nb := 64, rst := 0x0,
    fields := [⟨31, 0, .ro, 0, none, none⟩] }
def TAP_SACC_HI : Reg :=
  { base := 0x60120, sa := 0x10000, na := 2, sb := chanStep, nb := 64, rst := 0x0,
    fields := [⟨31, 0, .ro, 0, none, none⟩] }
def TAP_SGAP : Reg :=
  { base := 0x60124, sa := 0x10000, na := 2, sb := chanStep, nb := 64, rst := 0x0,
    fields := [⟨31, 0, .ro, 0, none, none⟩] }
def TAP_SDUP : Reg :=
  { base := 0x60128, sa := 0x10000, na := 2, sb := chanStep, nb := 64, rst := 0x0,
    fields := [⟨31, 0, .ro, 0, none, none⟩] }
def TAP_SSTALE : Reg :=
  { base := 0x6012c, sa := 0x10000, na := 2, sb := chanStep, nb := 64, rst := 0x0,
    fields := [⟨31, 0, .ro, 0, none, none⟩] }
def TAP_SMAL : Reg :=
  { base := 0x60130, sa := 0x10000, na := 2, sb := chanStep, nb := 64, rst := 0x0,
    fields := [⟨31, 0, .ro, 0, none, none⟩] }
def TAP_SDISC : Reg :=
  { base := 0x60134, sa := 0x10000, na := 2, sb := chanStep, nb := 64, rst := 0x0,
    fields := [⟨31, 0, .ro, 0, none, none⟩] }
def TAP_SRETR : Reg :=
  { base := 0x60138, sa := 0x10000, na := 2, sb := chanStep, nb := 64, rst := 0x0,
    fields := [⟨31, 0, .ro, 0, none, none⟩] }
def TAP_SCLR : Reg :=
  { base := 0x6013c, sa := 0x10000, na := 2, sb := chanStep, nb := 64, rst := 0x0,
    fields := [⟨0, 0, .w1s, 0, none, none⟩] }
def TAP_CONSPTR : Reg := { base := 0x60400, sa := 0x10000, na := 2, rst := 0x0, fields := [⟨23, 0, .ro, 0, none, none⟩] }
def TAP_CURSOR : Reg := { base := 0x60404, sa := 0x10000, na := 2, rst := 0x0, fields := [⟨23, 0, .ro, 0, none, none⟩] }
def TAP_RSGEN : Reg := { base := 0x60408, sa := 0x10000, na := 2, rst := 0x0, fields := [⟨31, 0, .ro, 0, none, none⟩] }
def TAP_DISC_LO : Reg := { base := 0x6040c, sa := 0x10000, na := 2, rst := 0x0, fields := [⟨31, 0, .ro, 0, none, none⟩] }
def TAP_DISC_HI : Reg := { base := 0x60410, sa := 0x10000, na := 2, rst := 0x0, fields := [⟨31, 0, .ro, 0, none, none⟩] }
def TAP_PARTDROP : Reg := { base := 0x60414, sa := 0x10000, na := 2, rst := 0x0, fields := [⟨31, 0, .ro, 0, none, none⟩] }
def TAP_CRCCNT : Reg := { base := 0x60418, sa := 0x10000, na := 2, rst := 0x0, fields := [⟨31, 0, .ro, 0, none, none⟩] }
def TAP_BPTIME_LO : Reg := { base := 0x6041c, sa := 0x10000, na := 2, rst := 0x0, fields := [⟨31, 0, .ro, 0, none, none⟩] }
def TAP_BPTIME_HI : Reg := { base := 0x60420, sa := 0x10000, na := 2, rst := 0x0, fields := [⟨31, 0, .ro, 0, none, none⟩] }
def TAP_BPMAX : Reg := { base := 0x60424, sa := 0x10000, na := 2, rst := 0x0, fields := [⟨31, 0, .ro, 0, none, none⟩] }
def TAP_PNEXTSEQ : Reg := { base := 0x60428, sa := 0x10000, na := 2, rst := 0x0, fields := [⟨31, 0, .ro, 0, none, none⟩] }
def TAP_POOL : Reg := { base := 0x6042c, sa := 0x10000, na := 2, rst := 0x0, fields := [⟨17, 0, .ro, 0, none, none⟩] }
def TAP_WCACC : Reg := { base := 0x60430, sa := 0x10000, na := 2, rst := 0x0, fields := [⟨31, 0, .ro, 0, none, none⟩] }
def TAP_WCREJ : Reg := { base := 0x60434, sa := 0x10000, na := 2, rst := 0x0, fields := [⟨31, 0, .ro, 0, none, none⟩] }
def TAP_PMAL : Reg := { base := 0x60438, sa := 0x10000, na := 2, rst := 0x0, fields := [⟨31, 0, .ro, 0, none, none⟩] }
def TAP_LASTBAD : Reg :=
  { base := 0x6043c, sa := 0x10000, na := 2, rst := 0x0,
    fields := [⟨23, 0, .ro, 0, none, none⟩,
      ⟨27, 24, .ro, 0, none, none⟩] }
def TAP_CLR : Reg := { base := 0x60440, sa := 0x10000, na := 2, rst := 0x0, fields := [⟨0, 0, .w1s, 0, none, none⟩] }
def PST_CSTAT : Reg :=
  { base := 0xf0100, sa := chanStep, na := 16, rst := 0x0,
    fields := [⟨1, 0, .ro, 0, none, none⟩,
      ⟨2, 2, .ro, 0, none, none⟩,
      ⟨3, 3, .ro, 0, none, none⟩] }
def PST_CGEN : Reg := { base := 0xf0104, sa := chanStep, na := 16, rst := 0x0, fields := [⟨31, 0, .ro, 0, none, none⟩] }
def PST_CRES : Reg := { base := 0xf0108, sa := chanStep, na := 16, rst := 0x0, fields := [⟨26, 0, .ro, 0, none, none⟩] }
def PST_CMAT : Reg :=
  { base := 0xf010c, sa := chanStep, na := 16, rst := 0x0,
    fields := [⟨15, 0, .ro, 0, none, none⟩,
      ⟨31, 16, .ro, 0, none, none⟩] }
def PST_CCHK_LO : Reg := { base := 0xf0110, sa := chanStep, na := 16, rst := 0x0, fields := [⟨31, 0, .ro, 0, none, none⟩] }
def PST_CCHK_HI : Reg := { base := 0xf0114, sa := chanStep, na := 16, rst := 0x0, fields := [⟨31, 0, .ro, 0, none, none⟩] }
def PST_CAGE : Reg := { base := 0xf0118, sa := chanStep, na := 16, rst := 0x0, fields := [⟨15, 0, .ro, 0, none, none⟩] }
def PST_CINEX : Reg := { base := 0xf011c, sa := chanStep, na := 16, rst := 0x0, fields := [⟨31, 0, .ro, 0, none, none⟩] }
def PST_CSPILL : Reg := { base := 0xf0120, sa := chanStep, na := 16, rst := 0x0, fields := [⟨31, 0, .ro, 0, none, none⟩] }
def PST_CRKFAIL : Reg := { base := 0xf0124, sa := chanStep, na := 16, rst := 0x0, fields := [⟨31, 0, .ro, 0, none, none⟩] }
def PST_CCMD : Reg :=
  { base := 0xf0128, sa := chanStep, na := 16, rst := 0x0,
    fields := [⟨0, 0, .w1s, 0, none, none⟩,
      ⟨1, 1, .w1s, 0, none, none⟩] }
def PST_CKUPTIME : Reg := { base := 0xf012c, sa := chanStep, na := 16, rst := 0x0, fields := [⟨31, 0, .ro, 0, none, none⟩] }
def PST_EPOCH : Reg := { base := 0xf0400, rst := 0x258, fields := [⟨15, 0, .rwt, 600, (some 10), (some 3600)⟩] }
def PST_KUPTO : Reg := { base := 0xf0404, rst := 0x3c, fields := [⟨15, 0, .rwt, 60, (some 1), none⟩] }
def PST_FREE : Reg := { base := 0xf0408, rst := 0x6000000, fields := [⟨26, 0, .ro, 100663296, none, none⟩] }
def PST_MAXEXT : Reg := { base := 0xf040c, rst := 0x6000000, fields := [⟨26, 0, .ro, 100663296, none, none⟩] }
def PST_RKCUR : Reg :=
  { base := 0xf0410, rst := 0x0,
    fields := [⟨15, 0, .ro, 0, none, none⟩,
      ⟨19, 16, .ro, 0, none, none⟩,
      ⟨30, 30, .ro, 0, none, none⟩,
      ⟨31, 31, .ro, 0, none, none⟩] }
def PST_RKPROG : Reg := { base := 0xf0414, rst := 0x0, fields := [⟨15, 0, .ro, 0, none, none⟩, ⟨31, 16, .ro, 0, none, none⟩] }
def PST_RKQ : Reg := { base := 0xf0418, rst := 0x0, fields := [⟨12, 0, .ro, 0, none, none⟩] }
def PST_RKCNT : Reg := { base := 0xf041c, rst := 0x0, fields := [⟨31, 0, .ro, 0, none, none⟩] }
def PST_WINLOSS : Reg := { base := 0xf0420, rst := 0x0, fields := [⟨31, 0, .ro, 0, none, none⟩] }
def PST_SATND : Reg := { base := 0xf0424, rst := 0x0, fields := [⟨31, 0, .ro, 0, none, none⟩] }
def PST_CLR : Reg := { base := 0xf0428, rst := 0x0, fields := [⟨0, 0, .w1s, 0, none, none⟩] }
def TE_FLAG : Reg :=
  { base := 0x80100, sa := 0x10000, na := 4, sb := chanStep, nb := 48, rst := 0x0,
    fields := [⟨7, 0, .ro, 0, none, none⟩,
      ⟨13, 8, .ro, 0, none, none⟩,
      ⟨15, 14, .ro, 0, none, none⟩,
      ⟨16, 16, .ro, 0, none, none⟩] }
def TE_QSLOT : Reg :=
  { base := 0x80400, sa := 0x10000, na := 4, sb := 0x4, nb := 32, rst := 0x0,
    fields := [⟨5, 0, .ro, 0, none, none⟩,
      ⟨6, 6, .ro, 0, none, none⟩,
      ⟨7, 7, .ro, 0, none, none⟩,
      ⟨9, 8, .ro, 0, none, none⟩,
      ⟨17, 10, .ro, 0, none, none⟩,
      ⟨18, 18, .ro, 0, none, none⟩,
      ⟨19, 19, .ro, 0, none, none⟩,
      ⟨20, 20, .ro, 0, none, none⟩] }
def TE_LANEOPS_LO : Reg := { base := 0x80480, sa := 0x10000, na := 4, rst := 0x0, fields := [⟨31, 0, .ro, 0, none, none⟩] }
def TE_LANEOPS_HI : Reg := { base := 0x80484, sa := 0x10000, na := 4, rst := 0x0, fields := [⟨31, 0, .ro, 0, none, none⟩] }
def TE_VSLOTS_LO : Reg := { base := 0x80488, sa := 0x10000, na := 4, rst := 0x0, fields := [⟨31, 0, .ro, 0, none, none⟩] }
def TE_VSLOTS_HI : Reg := { base := 0x8048c, sa := 0x10000, na := 4, rst := 0x0, fields := [⟨31, 0, .ro, 0, none, none⟩] }
def TE_JOBS_LO : Reg := { base := 0x80490, sa := 0x10000, na := 4, rst := 0x0, fields := [⟨31, 0, .ro, 0, none, none⟩] }
def TE_JOBS_HI : Reg := { base := 0x80494, sa := 0x10000, na := 4, rst := 0x0, fields := [⟨31, 0, .ro, 0, none, none⟩] }
def TE_REPLAYS : Reg := { base := 0x80498, sa := 0x10000, na := 4, rst := 0x0, fields := [⟨31, 0, .ro, 0, none, none⟩] }
def TE_ILLPC : Reg :=
  { base := 0x8049c, sa := 0x10000, na := 4, rst := 0x0,
    fields := [⟨11, 0, .ro, 0, none, none⟩,
      ⟨17, 12, .ro, 0, none, none⟩] }
def TE_STCNT : Reg :=
  { base := 0x804a0, sa := 0x10000, na := 4, rst := 0x0,
    fields := [⟨15, 0, .ro, 0, none, none⟩,
      ⟨31, 16, .ro, 0, none, none⟩] }
def TE_STLAST : Reg :=
  { base := 0x804a4, sa := 0x10000, na := 4, rst := 0x0,
    fields := [⟨9, 0, .ro, 0, none, none⟩,
      ⟨12, 10, .ro, 0, none, none⟩] }
def TE_OUTCAUSE : Reg :=
  { base := 0x804a8, sa := 0x10000, na := 4, rst := 0x0,
    fields := [⟨4, 0, .ro, 0, none, none⟩,
      ⟨5, 5, .ro, 0, none, none⟩] }
def TE_FREE : Reg :=
  { base := 0x804ac, sa := 0x10000, na := 4, rst := 0xc2000060,
    fields := [⟨6, 0, .ro, 96, none, none⟩,
      ⟨25, 16, .ro, 512, none, none⟩,
      ⟨31, 26, .ro, 48, none, none⟩] }
def TE_CLR : Reg := { base := 0x804b0, sa := 0x10000, na := 4, rst := 0x0, fields := [⟨0, 0, .w1s, 0, none, none⟩] }
def TE_LQMAP : Reg :=
  { base := 0x80500, sa := 0x4, na := 6, rst := 0xffffffff,
    fields := [⟨3, 0, .ro, 15, none, none⟩,
      ⟨7, 4, .ro, 15, none, none⟩,
      ⟨11, 8, .ro, 15, none, none⟩,
      ⟨15, 12, .ro, 15, none, none⟩,
      ⟨19, 16, .ro, 15, none, none⟩,
      ⟨23, 20, .ro, 15, none, none⟩,
      ⟨27, 24, .ro, 15, none, none⟩,
      ⟨31, 28, .ro, 15, none, none⟩] }
def VDU_PLD_CTRL : Reg :=
  { base := 0x100800, sa := 0x20, na := 4, rst := 0x0,
    fields := [⟨1, 0, .rwt, 0, none, none⟩,
      ⟨7, 4, .rwt, 0, none, none⟩,
      ⟨13, 8, .rwt, 0, none, none⟩] }
def VDU_PLD_ADDR_LO : Reg := { base := 0x100804, sa := 0x20, na := 4, rst := 0x0, fields := [⟨31, 0, .rwt, 0, none, none⟩] }
def VDU_PLD_ADDR_HI : Reg := { base := 0x100808, sa := 0x20, na := 4, rst := 0x0, fields := [⟨31, 0, .rwt, 0, none, none⟩] }
def VDU_PLD_LEN : Reg := { base := 0x10080c, sa := 0x20, na := 4, rst := 0x0, fields := [⟨27, 0, .rwt, 0, none, none⟩] }
def VDU_PLD_STAT : Reg :=
  { base := 0x100810, sa := 0x20, na := 4, rst := 0x0,
    fields := [⟨3, 0, .ro, 0, none, none⟩,
      ⟨8, 4, .ro, 0, none, none⟩,
      ⟨31, 16, .ro, 0, none, none⟩] }
def VDU_PLD_CTXST : Reg := { base := 0x100814, sa := 0x20, na := 4, rst := 0x0, fields := [⟨1, 0, .ro, 0, none, none⟩] }
def VDU_SCTRL : Reg :=
  { base := 0x100100, sa := chanStep, na := 64, rst := 0x0,
    fields := [⟨0, 0, .w1s, 0, none, none⟩,
      ⟨1, 1, .rwt, 0, none, none⟩,
      ⟨10, 8, .rwt, 0, none, none⟩] }
def VDU_SOMAP : Reg :=
  { base := 0x100104, sa := chanStep, na := 64, rst := 0xf0,
    fields := [⟨3, 0, .rwt, 0, none, none⟩,
      ⟨7, 4, .rwt, 15, none, none⟩,
      ⟨10, 8, .rwt, 0, none, none⟩,
      ⟨11, 11, .rwt, 0, none, none⟩,
      ⟨31, 16, .rwt, 0, none, none⟩] }
def VDU_SSTAT : Reg :=
  { base := 0x100108, sa := chanStep, na := 64, rst := 0x0,
    fields := [⟨1, 0, .ro, 0, none, none⟩,
      ⟨3, 2, .ro, 0, none, none⟩,
      ⟨13, 4, .ro, 0, none, none⟩,
      ⟨23, 14, .ro, 0, none, none⟩] }
def VDU_SLAST_LO : Reg := { base := 0x10010c, sa := chanStep, na := 64, rst := 0x0, fields := [⟨31, 0, .ro, 0, none, none⟩] }
def VDU_SLAST_HI : Reg := { base := 0x100110, sa := chanStep, na := 64, rst := 0x0, fields := [⟨31, 0, .ro, 0, none, none⟩] }
def VDU_SNVALID : Reg := { base := 0x100114, sa := chanStep, na := 64, rst := 0x0, fields := [⟨31, 0, .ro, 0, none, none⟩] }
def VDU_SNINVALID : Reg := { base := 0x100118, sa := chanStep, na := 64, rst := 0x0, fields := [⟨31, 0, .ro, 0, none, none⟩] }
def VDU_SNUNVER : Reg := { base := 0x10011c, sa := chanStep, na := 64, rst := 0x0, fields := [⟨31, 0, .ro, 0, none, none⟩] }
def VDU_SNRETR : Reg := { base := 0x100120, sa := chanStep, na := 64, rst := 0x0, fields := [⟨31, 0, .ro, 0, none, none⟩] }
def VDU_SNABND : Reg := { base := 0x100124, sa := chanStep, na := 64, rst := 0x0, fields := [⟨31, 0, .ro, 0, none, none⟩] }
def VDU_SMINMARG : Reg :=
  { base := 0x100128, sa := chanStep, na := 64, rst := 0x7fffffff,
    fields := [⟨31, 0, .ro, 2147483647, none, none⟩] }
def VDU_SLASTCAUSE : Reg := { base := 0x10012c, sa := chanStep, na := 64, rst := 0x0, fields := [⟨15, 0, .ro, 0, none, none⟩] }
def VDU_SCLR : Reg := { base := 0x100130, sa := chanStep, na := 64, rst := 0x0, fields := [⟨0, 0, .w1s, 0, none, none⟩] }
def VDU_RING_BASE_LO : Reg := { base := 0x100400, sa := 0x20, na := 8, rst := 0x0, fields := [⟨31, 12, .rwt, 0, none, none⟩] }
def VDU_RING_BASE_HI : Reg := { base := 0x100404, sa := 0x20, na := 8, rst := 0x0, fields := [⟨31, 0, .rwt, 0, none, none⟩] }
def VDU_RING_CFG : Reg :=
  { base := 0x100408, sa := 0x20, na := 8, rst := 0x10006,
    fields := [⟨4, 0, .rwt, 6, (some 6), (some 16)⟩,
      ⟨5, 5, .rwt, 0, none, none⟩,
      ⟨13, 8, .rwt, 0, none, none⟩,
      ⟨23, 16, .rwt, 1, (some 1), none⟩] }
def VDU_RING_MOD : Reg := { base := 0x10040c, sa := 0x20, na := 8, rst := 0x0, fields := [⟨15, 0, .rwt, 0, none, none⟩] }
def VDU_RING_WB_LO : Reg := { base := 0x100410, sa := 0x20, na := 8, rst := 0x0, fields := [⟨31, 3, .rwt, 0, none, none⟩] }
def VDU_RING_WB_HI : Reg := { base := 0x100414, sa := 0x20, na := 8, rst := 0x0, fields := [⟨31, 0, .rwt, 0, none, none⟩] }
def VDU_RING_PIDX : Reg := { base := 0x100418, sa := 0x20, na := 8, rst := 0x0, fields := [⟨31, 0, .ro, 0, none, none⟩] }
def VDU_RING_LOST : Reg := { base := 0x10041c, sa := 0x20, na := 8, rst := 0x0, fields := [⟨31, 0, .ro, 0, none, none⟩] }
def VDU_ALERT : Reg := { base := 0x100500, rst := 0x100, fields := [⟨5, 0, .rwt, 0, none, none⟩, ⟨8, 8, .rwt, 1, none, none⟩] }
def VDU_HOLD : Reg := { base := 0x100504, rst := 0x0, fields := [⟨8, 0, .ro, 0, none, none⟩] }
def VDU_TSNLATE : Reg := { base := 0x100508, rst := 0x0, fields := [⟨31, 0, .ro, 0, none, none⟩] }
def VDU_CLR : Reg := { base := 0x10050c, rst := 0x0, fields := [⟨0, 0, .w1s, 0, none, none⟩] }
def SEM_SSTAT : Reg :=
  { base := 0x50100, sa := chanStep, na := 16384, rst := 0x0,
    fields := [⟨15, 0, .ro, 0, none, none⟩,
      ⟨17, 16, .ro, 0, none, none⟩,
      ⟨18, 18, .ro, 0, none, none⟩,
      ⟨19, 19, .ro, 0, none, none⟩,
      ⟨23, 20, .ro, 0, none, none⟩,
      ⟨31, 24, .ro, 0, none, none⟩] }
def SEM_SCMD : Reg :=
  { base := 0x50104, sa := chanStep, na := 16384, rst := 0x0,
    fields := [⟨0, 0, .w1s, 0, none, none⟩,
      ⟨1, 1, .w1s, 0, none, none⟩] }
def SEM_SSIG : Reg := { base := 0x50108, sa := chanStep, na := 16384, rst := 0x0, fields := [⟨31, 0, .ro, 0, none, none⟩] }
def SEM_SGRANT : Reg := { base := 0x5010c, sa := chanStep, na := 16384, rst := 0x0, fields := [⟨31, 0, .ro, 0, none, none⟩] }
def SEM_SLAST : Reg :=
  { base := 0x50110, sa := chanStep, na := 16384, rst := 0x0,
    fields := [⟨3, 0, .ro, 0, none, none⟩,
      ⟨9, 4, .ro, 0, none, none⟩] }
def SEM_CTXSEL : Reg := { base := 0x50400, rst := 0x0, fields := [⟨3, 0, .rw, 0, none, none⟩] }
def SEM_CTXBASE : Reg := { base := 0x50404, rst := 0x0, fields := [⟨13, 0, .ro, 0, none, none⟩, ⟨29, 16, .ro, 0, none, none⟩] }
def SEM_CTXSIZE : Reg := { base := 0x50408, rst := 0x0, fields := [⟨14, 0, .ro, 0, none, none⟩, ⟨29, 16, .ro, 0, none, none⟩] }
def SEM_CTXBANKS : Reg := { base := 0x5040c, rst := 0x0, fields := [⟨8, 0, .ro, 0, none, none⟩, ⟨24, 16, .ro, 0, none, none⟩] }
def SEM_FREE : Reg := { base := 0x50410, rst := 0x4000, fields := [⟨14, 0, .ro, 16384, none, none⟩] }
def SEM_MAXEXT : Reg := { base := 0x50414, rst := 0x4000, fields := [⟨14, 0, .ro, 16384, none, none⟩] }
def SEM_DLCNT : Reg := { base := 0x50418, rst := 0x0, fields := [⟨31, 0, .ro, 0, none, none⟩] }
def SEM_OVFCNT : Reg := { base := 0x5041c, rst := 0x0, fields := [⟨31, 0, .ro, 0, none, none⟩] }
def SEM_RESCNT : Reg := { base := 0x50420, rst := 0x0, fields := [⟨31, 0, .ro, 0, none, none⟩] }
def SEM_RESLAST : Reg := { base := 0x50424, rst := 0x0, fields := [⟨13, 0, .ro, 0, none, none⟩] }
def SEM_ABNDDISC : Reg := { base := 0x50428, rst := 0x0, fields := [⟨31, 0, .ro, 0, none, none⟩] }
def SEM_REMREJ : Reg := { base := 0x5042c, rst := 0x0, fields := [⟨31, 0, .ro, 0, none, none⟩] }
def SEM_SNAPIDX : Reg := { base := 0x50440, rst := 0x0, fields := [⟨6, 0, .rw, 0, none, none⟩] }
def SEM_WAITSNAP : Reg :=
  { base := 0x50444, rst := 0x0,
    fields := [⟨13, 0, .ro, 0, none, none⟩,
      ⟨16, 14, .ro, 0, none, none⟩,
      ⟨22, 17, .ro, 0, none, none⟩,
      ⟨23, 23, .ro, 0, none, none⟩,
      ⟨24, 24, .ro, 0, none, none⟩,
      ⟨31, 31, .ro, 0, none, none⟩] }
def SEM_WAITSNAPN : Reg := { base := 0x50448, rst := 0x0, fields := [⟨15, 0, .ro, 0, none, none⟩, ⟨31, 16, .ro, 0, none, none⟩] }
def SEM_SNAPN : Reg := { base := 0x5044c, rst := 0x0, fields := [⟨7, 0, .ro, 0, none, none⟩] }
def SEM_SNAPTIME_NS : Reg := { base := 0x50450, rst := 0x0, fields := [⟨31, 0, .ro, 0, none, none⟩] }
def SEM_SNAPTIME_SEC_LO : Reg := { base := 0x50454, rst := 0x0, fields := [⟨31, 0, .ro, 0, none, none⟩] }
def SEM_SNAPTIME_SEC_HI : Reg := { base := 0x50458, rst := 0x0, fields := [⟨15, 0, .ro, 0, none, none⟩] }
def SEM_CLR : Reg := { base := 0x5045c, rst := 0x0, fields := [⟨0, 0, .w1s, 0, none, none⟩] }
def SH_MACS_LO : Reg := { base := 0xc0400, sa := 0x10000, na := 2, rst := 0x0, fields := [⟨31, 0, .ro, 0, none, none⟩] }
def SH_MACS_HI : Reg := { base := 0xc0404, sa := 0x10000, na := 2, rst := 0x0, fields := [⟨31, 0, .ro, 0, none, none⟩] }
def SH_SARJOBS : Reg := { base := 0xc0408, sa := 0x10000, na := 2, rst := 0x0, fields := [⟨31, 0, .ro, 0, none, none⟩] }
def SH_SARABORT : Reg := { base := 0xc040c, sa := 0x10000, na := 2, rst := 0x0, fields := [⟨31, 0, .ro, 0, none, none⟩] }
def SH_SARQ : Reg := { base := 0xc0410, sa := 0x10000, na := 2, rst := 0x0, fields := [⟨5, 0, .ro, 0, none, none⟩] }
def SH_CKSUM : Reg := { base := 0xc0414, sa := 0x10000, na := 2, rst := 0x0, fields := [⟨31, 0, .ro, 0, none, none⟩] }
def SH_STCNT : Reg :=
  { base := 0xc0418, sa := 0x10000, na := 2, rst := 0x0,
    fields := [⟨15, 0, .ro, 0, none, none⟩,
      ⟨31, 16, .ro, 0, none, none⟩] }
def SH_CLR : Reg := { base := 0xc041c, sa := 0x10000, na := 2, rst := 0x0, fields := [⟨0, 0, .w1s, 0, none, none⟩] }
def MNT_HOLDLAT : Reg := { base := 0xe0400, rst := 0x64, fields := [⟨8, 0, .rwt, 100, (some 20), (some 300)⟩] }
def MNT_HOLDT0_NS : Reg := { base := 0xe0404, rst := 0x0, fields := [⟨31, 0, .rwt, 0, none, none⟩] }
def MNT_HOLDT0_SEC_LO : Reg := { base := 0xe0408, rst := 0x0, fields := [⟨31, 0, .rwt, 0, none, none⟩] }
def MNT_HOLDT0_SEC_HI : Reg := { base := 0xe040c, rst := 0x0, fields := [⟨15, 0, .rwt, 0, none, none⟩] }
def MNT_HOLDOUT : Reg :=
  { base := 0xe0410, rst := 0x7f0,
    fields := [⟨3, 0, .rwt, 0, none, none⟩,
      ⟨7, 4, .rwt, 15, none, none⟩,
      ⟨10, 8, .rwt, 7, none, none⟩,
      ⟨31, 16, .rwt, 0, none, none⟩] }
def MNT_HOLDAPPLY : Reg := { base := 0xe0414, rst := 0x0, fields := [⟨15, 0, .rwt, 0, none, none⟩] }
def MNT_HOLDMAXF : Reg := { base := 0xe0418, rst := 0x2, fields := [⟨3, 0, .rwt, 2, none, none⟩] }
def MNT_STPER : Reg := { base := 0xe041c, rst := 0x64, fields := [⟨9, 0, .rwt, 100, none, none⟩] }
def MNT_SLOAD : Reg := { base := 0xe0420, rst := 0x0, fields := [⟨31, 0, .ro, 0, none, none⟩] }
def MNT_HANDOVERS : Reg := { base := 0xe0424, rst := 0x0, fields := [⟨31, 0, .ro, 0, none, none⟩] }
def MNT_HOLAST : Reg := { base := 0xe0428, rst := 0x0, fields := [⟨15, 0, .ro, 0, none, none⟩] }
def MNT_HOLDSTEPS : Reg := { base := 0xe042c, rst := 0x0, fields := [⟨31, 0, .ro, 0, none, none⟩] }
def MNT_HOLDFAILS : Reg := { base := 0xe0430, rst := 0x0, fields := [⟨31, 0, .ro, 0, none, none⟩] }
def MNT_ALARMS : Reg := { base := 0xe0434, rst := 0x0, fields := [⟨31, 0, .ro, 0, none, none⟩] }
def MNT_CLR : Reg := { base := 0xe0438, rst := 0x0, fields := [⟨0, 0, .w1s, 0, none, none⟩] }
def MNT_IMG_CTRL : Reg := { base := 0xe0480, sa := 0x20, na := 2, rst := 0x0, fields := [⟨1, 0, .rwt, 0, none, none⟩] }
def MNT_IMG_ADDR_LO : Reg := { base := 0xe0484, sa := 0x20, na := 2, rst := 0x0, fields := [⟨31, 0, .rwt, 0, none, none⟩] }
def MNT_IMG_ADDR_HI : Reg := { base := 0xe0488, sa := 0x20, na := 2, rst := 0x0, fields := [⟨31, 0, .rwt, 0, none, none⟩] }
def MNT_IMG_LEN : Reg := { base := 0xe048c, sa := 0x20, na := 2, rst := 0x0, fields := [⟨24, 0, .rwt, 0, none, none⟩] }
def MNT_IMG_STAT : Reg :=
  { base := 0xe0490, sa := 0x20, na := 2, rst := 0x0,
    fields := [⟨3, 0, .ro, 0, none, none⟩,
      ⟨8, 4, .ro, 0, none, none⟩,
      ⟨31, 16, .ro, 0, none, none⟩] }
def MNT_IMG_LOADED : Reg :=
  { base := 0xe0494, sa := 0x20, na := 2, rst := 0x0,
    fields := [⟨0, 0, .ro, 0, none, none⟩,
      ⟨31, 16, .ro, 0, none, none⟩] }
def AEU_JCFG : Reg :=
  { base := 0x110100, sa := chanStep, na := 64, rst := 0x0,
    fields := [⟨0, 0, .rwt, 0, none, none⟩,
      ⟨1, 1, .rwt, 0, none, none⟩,
      ⟨7, 2, .rwt, 0, none, none⟩,
      ⟨8, 8, .rwt, 0, none, none⟩,
      ⟨31, 16, .rwt, 0, none, none⟩] }
def AEU_JENC : Reg :=
  { base := 0x110104, sa := chanStep, na := 64, rst := 0x0,
    fields := [⟨15, 0, .rwt, 0, none, none⟩,
      ⟨31, 16, .rwt, 0, none, none⟩] }
def AEU_JPMIN : Reg := { base := 0x110108, sa := chanStep, na := 64, rst := 0x0, fields := [⟨31, 0, .rwt, 0, none, none⟩] }
def AEU_JPMAX : Reg := { base := 0x11010c, sa := chanStep, na := 64, rst := 0x0, fields := [⟨31, 0, .rwt, 0, none, none⟩] }
def AEU_JVMAX : Reg := { base := 0x110110, sa := chanStep, na := 64, rst := 0x0, fields := [⟨31, 0, .rwt, 0, none, none⟩] }
def AEU_JAMAX : Reg := { base := 0x110114, sa := chanStep, na := 64, rst := 0x0, fields := [⟨31, 0, .rwt, 0, none, none⟩] }
def AEU_JJMAX : Reg := { base := 0x110118, sa := chanStep, na := 64, rst := 0x0, fields := [⟨31, 0, .rwt, 0, none, none⟩] }
def AEU_JABRK : Reg := { base := 0x11011c, sa := chanStep, na := 64, rst := 0x0, fields := [⟨31, 0, .rwt, 0, none, none⟩] }
def AEU_JTIME : Reg :=
  { base := 0x110120, sa := chanStep, na := 64, rst := 0x3e80000,
    fields := [⟨15, 0, .rwt, 0, none, none⟩,
      ⟨31, 16, .rwt, 1000, none, none⟩] }
def AEU_JDT : Reg :=
  { base := 0x110124, sa := chanStep, na := 64, rst := 0xfa000fa,
    fields := [⟨15, 0, .rwt, 250, none, none⟩,
      ⟨31, 16, .rwt, 4000, none, none⟩] }
def AEU_JTRK : Reg := { base := 0x110128, sa := chanStep, na := 64, rst := 0x0, fields := [⟨31, 0, .rwt, 0, none, none⟩] }
def AEU_JKA : Reg := { base := 0x11012c, sa := chanStep, na := 64, rst := 0x0, fields := [⟨31, 0, .rwt, 0, none, none⟩] }
def AEU_JKV : Reg := { base := 0x110130, sa := chanStep, na := 64, rst := 0x0, fields := [⟨31, 0, .rwt, 0, none, none⟩] }
def AEU_JTQMAX : Reg := { base := 0x110134, sa := chanStep, na := 64, rst := 0x0, fields := [⟨31, 0, .rwt, 0, none, none⟩] }
def AEU_JREST : Reg :=
  { base := 0x110138, sa := chanStep, na := 64, rst := 0x640000,
    fields := [⟨15, 0, .rwt, 0, none, none⟩,
      ⟨31, 16, .rwt, 100, none, none⟩] }
def AEU_JRESTV : Reg := { base := 0x11013c, sa := chanStep, na := 64, rst := 0x0, fields := [⟨31, 0, .rwt, 0, none, none⟩] }
def AEU_JSTAT : Reg :=
  { base := 0x110140, sa := chanStep, na := 64, rst := 0x0,
    fields := [⟨0, 0, .ro, 0, none, none⟩,
      ⟨1, 1, .ro, 0, none, none⟩,
      ⟨2, 2, .ro, 0, none, none⟩,
      ⟨3, 3, .ro, 0, none, none⟩,
      ⟨4, 4, .ro, 0, none, none⟩,
      ⟨15, 8, .ro, 0, none, none⟩] }
def AEU_JLASTP : Reg := { base := 0x110144, sa := chanStep, na := 64, rst := 0x0, fields := [⟨31, 0, .ro, 0, none, none⟩] }
def AEU_JMEASP : Reg := { base := 0x110148, sa := chanStep, na := 64, rst := 0x0, fields := [⟨31, 0, .ro, 0, none, none⟩] }
def AEU_JMEASV : Reg := { base := 0x11014c, sa := chanStep, na := 64, rst := 0x0, fields := [⟨31, 0, .ro, 0, none, none⟩] }
def AEU_JREJ : Reg := { base := 0x110150, sa := chanStep, na := 64, rst := 0x0, fields := [⟨31, 0, .ro, 0, none, none⟩] }
def AEU_JCMD : Reg := { base := 0x110154, sa := chanStep, na := 64, rst := 0x0, fields := [⟨0, 0, .w1s, 0, none, none⟩] }
def AEU_REST_LO : Reg := { base := 0x110400, rst := 0x0, fields := [⟨31, 0, .ro, 0, none, none⟩] }
def AEU_REST_HI : Reg := { base := 0x110404, rst := 0x0, fields := [⟨31, 0, .ro, 0, none, none⟩] }
def AEU_ENCOK_LO : Reg := { base := 0x110408, rst := 0x0, fields := [⟨31, 0, .ro, 0, none, none⟩] }
def AEU_ENCOK_HI : Reg := { base := 0x11040c, rst := 0x0, fields := [⟨31, 0, .ro, 0, none, none⟩] }
def AEU_JUDGED : Reg := { base := 0x110410, rst := 0x0, fields := [⟨31, 0, .ro, 0, none, none⟩] }
def AEU_REJECTS : Reg := { base := 0x110414, rst := 0x0, fields := [⟨31, 0, .ro, 0, none, none⟩] }
def AEU_LASTREJ : Reg :=
  { base := 0x110418, rst := 0x0,
    fields := [⟨5, 0, .ro, 0, none, none⟩,
      ⟨11, 6, .ro, 0, none, none⟩,
      ⟨12, 12, .ro, 0, none, none⟩,
      ⟨23, 16, .ro, 0, none, none⟩] }
def AEU_CLR : Reg := { base := 0x11041c, rst := 0x0, fields := [⟨0, 0, .w1s, 0, none, none⟩] }
def DCI_CFG : Reg :=
  { base := 0x120100, sa := chanStep, na := 32, rst := 0x0,
    fields := [⟨1, 0, .rwt, 0, none, none⟩,
      ⟨2, 2, .rwt, 0, none, none⟩,
      ⟨7, 3, .rwt, 0, none, none⟩,
      ⟨25, 16, .rwt, 0, (some 0), (some 1000)⟩] }
def DCI_TD : Reg := { base := 0x120104, sa := chanStep, na := 32, rst := 0x64, fields := [⟨17, 0, .rwt, 100, (some 100), (some 200000)⟩] }
def DCI_STAT : Reg :=
  { base := 0x120108, sa := chanStep, na := 32, rst := 0x0,
    fields := [⟨2, 0, .ro, 0, none, none⟩,
      ⟨3, 3, .ro, 0, none, none⟩,
      ⟨4, 4, .ro, 0, none, none⟩,
      ⟨5, 5, .ro, 0, none, none⟩,
      ⟨6, 6, .ro, 0, none, none⟩,
      ⟨7, 7, .ro, 0, none, none⟩,
      ⟨25, 8, .ro, 0, none, none⟩] }
def DCI_NDEM : Reg := { base := 0x12010c, sa := chanStep, na := 32, rst := 0x0, fields := [⟨31, 0, .ro, 0, none, none⟩] }
def DCI_NDISC : Reg := { base := 0x120110, sa := chanStep, na := 32, rst := 0x0, fields := [⟨31, 0, .ro, 0, none, none⟩] }
def DCI_SCLR : Reg := { base := 0x120114, sa := chanStep, na := 32, rst := 0x0, fields := [⟨0, 0, .w1s, 0, none, none⟩] }
def SBO_CFG : Reg :=
  { base := 0x2000120100, sa := chanStep, na := 24, rst := 0x3240,
    fields := [⟨0, 0, .rwt, 0, none, none⟩,
      ⟨1, 1, .rwt, 0, none, none⟩,
      ⟨4, 2, .rwt, 0, none, none⟩,
      ⟨5, 5, .rwt, 0, none, none⟩,
      ⟨6, 6, .rwt, 1, none, none⟩,
      ⟨15, 8, .rwt, 50, (some 1), (some 200)⟩] }
def SBO_TP : Reg :=
  { base := 0x2000120104, sa := chanStep, na := 24, rst := 0x140064,
    fields := [⟨9, 0, .rwt, 100, (some 10), (some 1000)⟩,
      ⟨22, 16, .rwt, 20, (some 10), (some 100)⟩] }
def SBO_BT : Reg :=
  { base := 0x2000120108, sa := chanStep, na := 24, rst := 0xa80000,
    fields := [⟨5, 0, .rwt, 0, none, none⟩,
      ⟨6, 6, .rwt, 0, none, none⟩,
      ⟨29, 16, .rwt, 168, (some 1), (some 8760)⟩] }
def SBO_STAT : Reg :=
  { base := 0x200012010c, sa := chanStep, na := 24, rst := 0x0,
    fields := [⟨1, 0, .ro, 0, none, none⟩,
      ⟨2, 2, .ro, 0, none, none⟩,
      ⟨3, 3, .ro, 0, none, none⟩,
      ⟨4, 4, .ro, 0, none, none⟩,
      ⟨5, 5, .ro, 0, none, none⟩,
      ⟨6, 6, .ro, 0, none, none⟩,
      ⟨7, 7, .ro, 0, none, none⟩,
      ⟨8, 8, .ro, 0, none, none⟩,
      ⟨9, 9, .ro, 0, none, none⟩,
      ⟨10, 10, .ro, 0, none, none⟩,
      ⟨13, 11, .ro, 0, none, none⟩] }
def SBO_BTLAST_SEC_LO : Reg := { base := 0x2000120110, sa := chanStep, na := 24, rst := 0x0, fields := [⟨31, 0, .ro, 0, none, none⟩] }
def SBO_BTLAST_SEC_HI : Reg := { base := 0x2000120114, sa := chanStep, na := 24, rst := 0x0, fields := [⟨15, 0, .ro, 0, none, none⟩] }
def SBO_SCMD : Reg := { base := 0x2000120118, sa := chanStep, na := 24, rst := 0x0, fields := [⟨0, 0, .w1s, 0, none, none⟩] }
def SBO_NTRIP : Reg := { base := 0x200012011c, sa := chanStep, na := 24, rst := 0x0, fields := [⟨31, 0, .ro, 0, none, none⟩] }
def SIO_G_DCI : Reg := { base := 0x120400, sa := 0x20, na := 8, rst := 0x0, fields := [⟨31, 0, .rwt, 0, none, none⟩] }
def SIO_G_STR_LO : Reg := { base := 0x120404, sa := 0x20, na := 8, rst := 0x0, fields := [⟨31, 0, .rwt, 0, none, none⟩] }
def SIO_G_STR_HI : Reg := { base := 0x120408, sa := 0x20, na := 8, rst := 0x0, fields := [⟨31, 0, .rwt, 0, none, none⟩] }
def SIO_G_CTRL : Reg :=
  { base := 0x12040c, sa := 0x20, na := 8, rst := 0x0,
    fields := [⟨7, 0, .rwt, 0, none, none⟩,
      ⟨8, 8, .rwt, 0, none, none⟩,
      ⟨9, 9, .rwt, 0, none, none⟩,
      ⟨10, 10, .rwt, 0, none, none⟩] }
def SIO_G_STAT : Reg :=
  { base := 0x120410, sa := 0x20, na := 8, rst := 0x0,
    fields := [⟨0, 0, .ro, 0, none, none⟩,
      ⟨1, 1, .ro, 0, none, none⟩,
      ⟨6, 2, .ro, 0, none, none⟩] }
def SIO_G_CMD : Reg :=
  { base := 0x120414, sa := 0x20, na := 8, rst := 0x0,
    fields := [⟨0, 0, .w1s, 0, none, none⟩,
      ⟨1, 1, .w1s, 0, none, none⟩] }
def SIO_OUTST : Reg := { base := 0x120500, rst := 0x0, fields := [⟨23, 0, .ro, 0, none, none⟩] }
def SIO_RUNST : Reg := { base := 0x120504, rst := 0x0, fields := [⟨31, 0, .ro, 0, none, none⟩] }
def SIO_BTCMD : Reg :=
  { base := 0x120508, rst := 0x0,
    fields := [⟨4, 0, .rw, 0, none, none⟩,
      ⟨8, 8, .w1s, 0, none, none⟩,
      ⟨9, 9, .w1s, 0, none, none⟩] }
def SIO_BTTIME : Reg := { base := 0x12050c, rst := 0x1400c8, fields := [⟨13, 0, .rwt, 200, (some 10), (some 10000)⟩, ⟨25, 16, .rwt, 20, (some 1), (some 1000)⟩] }
def SIO_BTTQ : Reg := { base := 0x120510, rst := 0x0, fields := [⟨31, 0, .rwt, 0, none, none⟩] }
def SIO_BTDEV : Reg := { base := 0x120514, rst := 0x0, fields := [⟨31, 0, .rwt, 0, none, none⟩] }
def SIO_BTFRAME : Reg :=
  { base := 0x120518, rst := 0x7f0,
    fields := [⟨3, 0, .rwt, 0, none, none⟩,
      ⟨7, 4, .rwt, 15, none, none⟩,
      ⟨10, 8, .rwt, 7, none, none⟩,
      ⟨31, 16, .rwt, 0, none, none⟩] }
def SIO_BTSTAT : Reg :=
  { base := 0x12051c, rst := 0x0,
    fields := [⟨2, 0, .ro, 0, none, none⟩,
      ⟨7, 3, .ro, 0, none, none⟩,
      ⟨10, 8, .ro, 0, none, none⟩,
      ⟨14, 11, .ro, 0, none, none⟩] }
def SIO_BTMAXDEV : Reg := { base := 0x120520, rst := 0x0, fields := [⟨31, 0, .ro, 0, none, none⟩] }
def SIO_BTCNT : Reg := { base := 0x120524, rst := 0x0, fields := [⟨15, 0, .ro, 0, none, none⟩, ⟨31, 16, .ro, 0, none, none⟩] }
def FCU_PFLT : Reg := { base := 0x20100, sa := chanStep, na := 28, rst := 0x0, fields := [⟨31, 0, .ro, 0, none, none⟩] }
def FCU_PLVL0 : Reg :=
  { base := 0x20104, sa := chanStep, na := 28, rst := 0x0,
    fields := [⟨1, 0, .ro, 0, none, none⟩,
      ⟨3, 2, .ro, 0, none, none⟩,
      ⟨5, 4, .ro, 0, none, none⟩,
      ⟨7, 6, .ro, 0, none, none⟩,
      ⟨9, 8, .ro, 0, none, none⟩,
      ⟨11, 10, .ro, 0, none, none⟩,
      ⟨13, 12, .ro, 0, none, none⟩,
      ⟨15, 14, .ro, 0, none, none⟩,
      ⟨17, 16, .ro, 0, none, none⟩,
      ⟨19, 18, .ro, 0, none, none⟩,
      ⟨21, 20, .ro, 0, none, none⟩,
      ⟨23, 22, .ro, 0, none, none⟩,
      ⟨25, 24, .ro, 0, none, none⟩,
      ⟨27, 26, .ro, 0, none, none⟩,
      ⟨29, 28, .ro, 0, none, none⟩,
      ⟨31, 30, .ro, 0, none, none⟩] }
def FCU_PLVL1 : Reg :=
  { base := 0x20108, sa := chanStep, na := 28, rst := 0x0,
    fields := [⟨1, 0, .ro, 0, none, none⟩,
      ⟨3, 2, .ro, 0, none, none⟩,
      ⟨5, 4, .ro, 0, none, none⟩,
      ⟨7, 6, .ro, 0, none, none⟩,
      ⟨9, 8, .ro, 0, none, none⟩,
      ⟨11, 10, .ro, 0, none, none⟩,
      ⟨13, 12, .ro, 0, none, none⟩,
      ⟨15, 14, .ro, 0, none, none⟩,
      ⟨17, 16, .ro, 0, none, none⟩,
      ⟨19, 18, .ro, 0, none, none⟩,
      ⟨21, 20, .ro, 0, none, none⟩,
      ⟨23, 22, .ro, 0, none, none⟩,
      ⟨25, 24, .ro, 0, none, none⟩,
      ⟨27, 26, .ro, 0, none, none⟩,
      ⟨29, 28, .ro, 0, none, none⟩,
      ⟨31, 30, .ro, 0, none, none⟩] }
def FCU_PCNT : Reg := { base := 0x2010c, sa := chanStep, na := 28, rst := 0x0, fields := [⟨31, 0, .ro, 0, none, none⟩] }
def FCU_PESC : Reg := { base := 0x20110, sa := chanStep, na := 28, rst := 0x0, fields := [⟨31, 0, .ro, 0, none, none⟩] }
def FCU_PINJ : Reg :=
  { base := 0x20114, sa := chanStep, na := 28, rst := 0x0,
    fields := [⟨15, 0, .ro, 0, none, none⟩,
      ⟨31, 16, .ro, 0, none, none⟩] }
def FCU_SUMM : Reg := { base := 0x20400, rst := 0x0, fields := [⟨27, 0, .ro, 0, none, none⟩] }
def FCU_SUMU : Reg := { base := 0x20404, rst := 0x0, fields := [⟨27, 0, .ro, 0, none, none⟩] }
def FCU_SUMF : Reg := { base := 0x20408, rst := 0x0, fields := [⟨27, 0, .ro, 0, none, none⟩] }
def FCU_LAST : Reg :=
  { base := 0x2040c, rst := 0x0,
    fields := [⟨4, 0, .ro, 0, none, none⟩,
      ⟨9, 5, .ro, 0, none, none⟩,
      ⟨11, 10, .ro, 0, none, none⟩,
      ⟨12, 12, .ro, 0, none, none⟩,
      ⟨31, 16, .ro, 0, none, none⟩] }
def FCU_LAST_NS : Reg := { base := 0x20410, rst := 0x0, fields := [⟨31, 0, .ro, 0, none, none⟩] }
def FCU_LAST_SEC_LO : Reg := { base := 0x20414, rst := 0x0, fields := [⟨31, 0, .ro, 0, none, none⟩] }
def FCU_LAST_SEC_HI : Reg := { base := 0x20418, rst := 0x0, fields := [⟨15, 0, .ro, 0, none, none⟩] }
def FCU_FIRSTF : Reg :=
  { base := 0x2041c, rst := 0x0,
    fields := [⟨4, 0, .ro, 0, none, none⟩,
      ⟨9, 5, .ro, 0, none, none⟩,
      ⟨12, 12, .ro, 0, none, none⟩,
      ⟨13, 13, .ro, 0, none, none⟩,
      ⟨15, 15, .ro, 0, none, none⟩,
      ⟨31, 16, .ro, 0, none, none⟩] }
def FCU_FIRSTF_NS : Reg := { base := 0x20420, rst := 0x0, fields := [⟨31, 0, .ro, 0, none, none⟩] }
def FCU_FIRSTF_SEC_LO : Reg := { base := 0x20424, rst := 0x0, fields := [⟨31, 0, .ro, 0, none, none⟩] }
def FCU_FIRSTF_SEC_HI : Reg := { base := 0x20428, rst := 0x0, fields := [⟨15, 0, .ro, 0, none, none⟩] }
def FCU_INJWIN : Reg := { base := 0x2042c, rst := 0x40, fields := [⟨9, 0, .rwt, 64, (some 16), (some 1023)⟩] }
def FCU_IRQ : Reg := { base := 0x20430, rst := 0x0, fields := [⟨5, 0, .rwt, 0, none, none⟩, ⟨8, 8, .rwt, 0, none, none⟩] }
def FCU_INJPASS : Reg := { base := 0x20434, rst := 0x0, fields := [⟨31, 0, .ro, 0, none, none⟩] }
def FCU_CLR : Reg := { base := 0x20438, rst := 0x0, fields := [⟨0, 0, .w1s, 0, none, none⟩, ⟨1, 1, .w1s, 0, none, none⟩] }
def SSC_SCFG : Reg :=
  { base := 0x30100, sa := chanStep, na := 64, rst := 0x100,
    fields := [⟨1, 0, .rwt, 0, none, none⟩,
      ⟨15, 8, .rwt, 1, (some 1), none⟩] }
def SSC_SSTAT : Reg :=
  { base := 0x30104, sa := chanStep, na := 64, rst := 0x0,
    fields := [⟨1, 0, .ro, 0, none, none⟩,
      ⟨2, 2, .ro, 0, none, none⟩,
      ⟨3, 3, .ro, 0, none, none⟩,
      ⟨15, 8, .ro, 0, none, none⟩] }
def SSC_SNTRIG : Reg := { base := 0x30108, sa := chanStep, na := 64, rst := 0x0, fields := [⟨31, 0, .ro, 0, none, none⟩] }
def SSC_CLSMODE : Reg :=
  { base := 0x30400, rst := 0x15,
    fields := [⟨1, 0, .rwt, 1, none, none⟩,
      ⟨3, 2, .rwt, 1, none, none⟩,
      ⟨5, 4, .rwt, 1, none, none⟩] }
def SSC_TRESTART : Reg := { base := 0x30404, rst := 0x3e8, fields := [⟨12, 0, .rwt, 1000, (some 1), (some 5000)⟩] }
def SSC_REL : Reg := { base := 0x30408, rst := 0x0, fields := [⟨7, 0, .wo, 0, none, none⟩] }
def SSC_CICADA : Reg := { base := 0x3040c, rst := 0x190, fields := [⟨11, 0, .rwt, 400, (some 100), (some 4000)⟩] }
def SSC_RSTLAST : Reg := { base := 0x30410, rst := 0x0, fields := [⟨31, 0, .ro, 0, none, none⟩] }
def SSC_RSTCNT : Reg := { base := 0x30414, rst := 0x0, fields := [⟨31, 0, .ro, 0, none, none⟩] }
def SSC_RELCNT : Reg := { base := 0x30418, rst := 0x0, fields := [⟨31, 0, .ro, 0, none, none⟩] }
def SSC_CLR : Reg := { base := 0x3041c, rst := 0x0, fields := [⟨0, 0, .w1s, 0, none, none⟩] }
def ACB_CCFG : Reg :=
  { base := 0x130100, sa := chanStep, na := 16, rst := 0xf4240,
    fields := [⟨23, 0, .rwt, 1000000, (some 1), (some 10000000)⟩,
      ⟨31, 31, .rwt, 0, none, none⟩] }
def ACB_COPEN : Reg := { base := 0x130104, sa := chanStep, na := 16, rst := 0x0, fields := [⟨10, 0, .ro, 0, none, none⟩] }
def ACB_CHANG : Reg := { base := 0x130108, sa := chanStep, na := 16, rst := 0x0, fields := [⟨31, 0, .ro, 0, none, none⟩] }
def ACB_CMAX : Reg := { base := 0x13010c, sa := chanStep, na := 16, rst := 0x0, fields := [⟨31, 0, .ro, 0, none, none⟩] }
def ACB_CCLR : Reg := { base := 0x130110, sa := chanStep, na := 16, rst := 0x0, fields := [⟨0, 0, .w1s, 0, none, none⟩] }
def ACB_NOPEN : Reg := { base := 0x130400, rst := 0x0, fields := [⟨10, 0, .ro, 0, none, none⟩] }
def ACB_RSTHOLD : Reg := { base := 0x130404, rst := 0x14, fields := [⟨13, 0, .rwt, 20, (some 10), (some 10000)⟩] }
def ACB_RSTLONG : Reg := { base := 0x130408, rst := 0x64, fields := [⟨9, 0, .rwt, 100, (some 1), (some 1000)⟩] }
def ACB_RDYTO : Reg := { base := 0x13040c, rst := 0x1f4, fields := [⟨12, 0, .rwt, 500, (some 1), (some 5000)⟩] }
def ACB_RDYTOF : Reg := { base := 0x130410, rst := 0xfa0, fields := [⟨12, 0, .rwt, 4000, (some 1), (some 5000)⟩] }
def ACB_RPLTO : Reg := { base := 0x130414, rst := 0x3e8, fields := [⟨12, 0, .rwt, 1000, (some 1), (some 5000)⟩] }
def ACB_RHSTRIDE : Reg := { base := 0x130418, rst := 0x40, fields := [⟨15, 0, .rwt, 64, (some 1), none⟩] }
def ACB_RHOFF : Reg := { base := 0x13041c, rst := 0x0, fields := [⟨15, 0, .ro, 0, none, none⟩] }
def ACB_RHN : Reg := { base := 0x130420, rst := 0x0, fields := [⟨31, 0, .ro, 0, none, none⟩] }
def ACB_RPLMODE_LO : Reg := { base := 0x130424, rst := 0x0, fields := [⟨31, 0, .rwt, 0, none, none⟩] }
def ACB_RPLMODE_HI : Reg := { base := 0x130428, rst := 0x0, fields := [⟨31, 0, .rwt, 0, none, none⟩] }
def ACB_RCMD : Reg :=
  { base := 0x13042c, rst := 0x0,
    fields := [⟨0, 0, .w1s, 0, none, none⟩,
      ⟨1, 1, .w1s, 0, none, none⟩,
      ⟨2, 2, .w1s, 0, none, none⟩] }
def ACB_RCNT : Reg := { base := 0x130430, rst := 0x0, fields := [⟨31, 0, .ro, 0, none, none⟩] }
def ACB_LEDIDX : Reg := { base := 0x130434, rst := 0x0, fields := [⟨2, 0, .rw, 0, none, none⟩] }
def ACB_LED0 : Reg := { base := 0x130438, rst := 0x0, fields := [⟨31, 0, .ro, 0, none, none⟩] }
def ACB_LED1 : Reg :=
  { base := 0x13043c, rst := 0x0,
    fields := [⟨2, 0, .ro, 0, none, none⟩,
      ⟨5, 3, .ro, 0, none, none⟩,
      ⟨9, 6, .ro, 0, none, none⟩,
      ⟨14, 10, .ro, 0, none, none⟩,
      ⟨20, 15, .ro, 0, none, none⟩,
      ⟨31, 31, .ro, 0, none, none⟩] }
def ACB_LED_NS : Reg := { base := 0x130440, rst := 0x0, fields := [⟨31, 0, .ro, 0, none, none⟩] }
def ACB_LED_SEC_LO : Reg := { base := 0x130444, rst := 0x0, fields := [⟨31, 0, .ro, 0, none, none⟩] }
def ACB_LED_DUR : Reg := { base := 0x130448, rst := 0x0, fields := [⟨31, 0, .ro, 0, none, none⟩] }
def ACB_NDISC : Reg := { base := 0x13044c, rst := 0x0, fields := [⟨31, 0, .ro, 0, none, none⟩] }
def ACB_CLR : Reg := { base := 0x130450, rst := 0x0, fields := [⟨0, 0, .w1s, 0, none, none⟩] }
def TBU_NOW_FNS : Reg := { base := 0x40400, rst := 0x0, fields := [⟨15, 0, .ro, 0, none, none⟩] }
def TBU_NOW_NS : Reg := { base := 0x40404, rst := 0x0, fields := [⟨31, 0, .ro, 0, none, none⟩] }
def TBU_NOW_SEC_LO : Reg := { base := 0x40408, rst := 0x0, fields := [⟨31, 0, .ro, 0, none, none⟩] }
def TBU_NOW_SEC_HI : Reg := { base := 0x4040c, rst := 0x0, fields := [⟨15, 0, .ro, 0, none, none⟩] }
def TBU_RATE : Reg := { base := 0x40410, rst := 0x0, fields := [⟨31, 0, .rw, 0, none, none⟩] }
def TBU_STEP_NS : Reg := { base := 0x40414, rst := 0x0, fields := [⟨31, 0, .rw, 0, none, none⟩] }
def TBU_STEP_SEC : Reg := { base := 0x40418, rst := 0x0, fields := [⟨31, 0, .rw, 0, none, none⟩] }
def TBU_CMD : Reg := { base := 0x4041c, rst := 0x0, fields := [⟨0, 0, .w1s, 0, none, none⟩] }
def TBU_STEPMAX : Reg := { base := 0x40420, rst := 0x3e8, fields := [⟨31, 0, .rwt, 1000, none, none⟩] }
def TBU_SRV : Reg :=
  { base := 0x40424, rst := 0x6462,
    fields := [⟨3, 0, .rwt, 2, none, none⟩,
      ⟨7, 4, .rwt, 6, none, none⟩,
      ⟨23, 8, .rwt, 100, none, none⟩] }
def TBU_LOCKTHR : Reg := { base := 0x40428, rst := 0x64, fields := [⟨15, 0, .rwt, 100, none, none⟩] }
def TBU_OFFSET : Reg := { base := 0x4042c, rst := 0x0, fields := [⟨31, 0, .ro, 0, none, none⟩] }
def TBU_INTEG : Reg := { base := 0x40430, rst := 0x0, fields := [⟨31, 0, .ro, 0, none, none⟩] }
def TBU_NSTEP : Reg := { base := 0x40434, rst := 0x0, fields := [⟨31, 0, .ro, 0, none, none⟩] }
def TBU_CLR : Reg := { base := 0x40438, rst := 0x0, fields := [⟨0, 0, .w1s, 0, none, none⟩] }
def TSN_PCFG : Reg :=
  { base := 0x140100, sa := chanStep, na := 12, rst := 0x10006,
    fields := [⟨0, 0, .rwt, 0, none, none⟩,
      ⟨2, 1, .rwt, 3, none, none⟩,
      ⟨3, 3, .rwt, 0, none, none⟩,
      ⟨4, 4, .rwt, 0, none, none⟩,
      ⟨5, 5, .rwt, 0, none, none⟩,
      ⟨7, 6, .rwt, 0, none, none⟩,
      ⟨8, 8, .rwt, 0, none, none⟩,
      ⟨27, 16, .rwt, 1, none, none⟩,
      ⟨30, 28, .rwt, 0, none, none⟩] }
def TSN_PMAC_LO : Reg := { base := 0x140104, sa := chanStep, na := 12, rst := 0x0, fields := [⟨31, 0, .rwt, 0, none, none⟩] }
def TSN_PMAC_HI : Reg := { base := 0x140108, sa := chanStep, na := 12, rst := 0x0, fields := [⟨15, 0, .rwt, 0, none, none⟩] }
def TSN_PLAT : Reg :=
  { base := 0x14010c, sa := chanStep, na := 12, rst := 0x0,
    fields := [⟨15, 0, .rwt, 0, none, none⟩,
      ⟨31, 16, .rwt, 0, none, none⟩] }
def TSN_PCYC : Reg := { base := 0x140110, sa := chanStep, na := 12, rst := 0xf4240, fields := [⟨29, 0, .rwt, 1000000, none, none⟩] }
def TSN_PBASE_NS : Reg := { base := 0x140114, sa := chanStep, na := 12, rst := 0x0, fields := [⟨31, 0, .rwt, 0, none, none⟩] }
def TSN_PBASE_SEC_LO : Reg := { base := 0x140118, sa := chanStep, na := 12, rst := 0x0, fields := [⟨31, 0, .rwt, 0, none, none⟩] }
def TSN_PBASE_SEC_HI : Reg := { base := 0x14011c, sa := chanStep, na := 12, rst := 0x0, fields := [⟨15, 0, .rwt, 0, none, none⟩] }
def TSN_PGLEN : Reg := { base := 0x140120, sa := chanStep, na := 12, rst := 0x1, fields := [⟨7, 0, .rwt, 1, none, none⟩] }
def TSN_PSYNC : Reg :=
  { base := 0x140124, sa := chanStep, na := 12, rst := 0xfd,
    fields := [⟨7, 0, .rwt, 253, none, none⟩,
      ⟨15, 8, .rwt, 0, none, none⟩] }
def TSN_PTCMAP : Reg :=
  { base := 0x140128, sa := chanStep, na := 12, rst := 0xfac688,
    fields := [⟨2, 0, .rwt, 0, none, none⟩,
      ⟨5, 3, .rwt, 1, none, none⟩,
      ⟨8, 6, .rwt, 2, none, none⟩,
      ⟨11, 9, .rwt, 3, none, none⟩,
      ⟨14, 12, .rwt, 4, none, none⟩,
      ⟨17, 15, .rwt, 5, none, none⟩,
      ⟨20, 18, .rwt, 6, none, none⟩,
      ⟨23, 21, .rwt, 7, none, none⟩] }
def TSN_PMAXLEN : Reg := { base := 0x14012c, sa := chanStep, na := 12, rst := 0x5f2, fields := [⟨13, 0, .rwt, 1522, none, none⟩] }
def TSN_PLTLIM : Reg := { base := 0x140130, sa := chanStep, na := 12, rst := 0x7d0, fields := [⟨15, 0, .rwt, 2000, none, none⟩] }
def TSN_PDELAY : Reg := { base := 0x140134, sa := chanStep, na := 12, rst := 0x0, fields := [⟨31, 0, .ro, 0, none, none⟩] }
def TSN_PRR : Reg := { base := 0x140138, sa := chanStep, na := 12, rst := 0x0, fields := [⟨31, 0, .ro, 0, none, none⟩] }
def TSN_PPSTAT : Reg :=
  { base := 0x14013c, sa := chanStep, na := 12, rst := 0x0,
    fields := [⟨0, 0, .ro, 0, none, none⟩,
      ⟨1, 1, .ro, 0, none, none⟩] }
def TSN_PRX : Reg := { base := 0x140140, sa := chanStep, na := 12, rst := 0x0, fields := [⟨31, 0, .ro, 0, none, none⟩] }
def TSN_PTX : Reg := { base := 0x140144, sa := chanStep, na := 12, rst := 0x0, fields := [⟨31, 0, .ro, 0, none, none⟩] }
def TSN_PDROP : Reg := { base := 0x140148, sa := chanStep, na := 12, rst := 0x0, fields := [⟨31, 0, .ro, 0, none, none⟩] }
def TSN_PLTD : Reg := { base := 0x14014c, sa := chanStep, na := 12, rst := 0x0, fields := [⟨31, 0, .ro, 0, none, none⟩] }
def TSN_PCLR : Reg := { base := 0x140150, sa := chanStep, na := 12, rst := 0x0, fields := [⟨0, 0, .w1s, 0, none, none⟩] }
def TSN_GCL : Reg :=
  { base := 0x140200, sa := chanStep, na := 12, sb := 0x4, nb := 128, rst := 0xff,
    fields := [⟨7, 0, .rwt, 255, none, none⟩,
      ⟨31, 8, .rwt, 0, none, none⟩] }
def TSN_GCFG : Reg :=
  { base := 0x140400, rst := 0x88b5,
    fields := [⟨15, 0, .rwt, 34997, none, none⟩,
      ⟨22, 16, .rwt, 0, none, none⟩,
      ⟨24, 24, .rwt, 0, none, none⟩,
      ⟨25, 25, .rwt, 0, none, none⟩] }
def TSN_PDTHR : Reg := { base := 0x140404, rst := 0x320, fields := [⟨15, 0, .rwt, 800, none, none⟩] }
def TSN_FDBMISS : Reg := { base := 0x140408, rst := 0x0, fields := [⟨31, 0, .ro, 0, none, none⟩] }
def TSN_TCSKIP : Reg := { base := 0x14040c, rst := 0x0, fields := [⟨31, 0, .ro, 0, none, none⟩] }
def TSN_CLR : Reg := { base := 0x140410, rst := 0x0, fields := [⟨0, 0, .w1s, 0, none, none⟩] }
def TSN_FDB_MACLO : Reg := { base := 0x144000, sa := 0x10, na := 512, rst := 0x0, fields := [⟨31, 0, .rwt, 0, none, none⟩] }
def TSN_FDB_MACHI : Reg :=
  { base := 0x144004, sa := 0x10, na := 512, rst := 0x0,
    fields := [⟨15, 0, .rwt, 0, none, none⟩,
      ⟨27, 16, .rwt, 0, none, none⟩,
      ⟨31, 31, .rwt, 0, none, none⟩] }
def TSN_FDB_FWD : Reg :=
  { base := 0x144008, sa := 0x10, na := 512, rst := 0xff0000,
    fields := [⟨11, 0, .rwt, 0, none, none⟩,
      ⟨12, 12, .rwt, 0, none, none⟩,
      ⟨23, 16, .rwt, 255, none, none⟩] }
def TSN_SF_CFG : Reg :=
  { base := 0x146000, sa := 0x10, na := 128, rst := 0xfff0000,
    fields := [⟨13, 0, .rwt, 0, none, none⟩,
      ⟨20, 16, .rwt, 31, none, none⟩,
      ⟨27, 21, .rwt, 127, none, none⟩,
      ⟨30, 30, .ro, 0, none, none⟩,
      ⟨31, 31, .rwt, 0, none, none⟩] }
def TSN_SF_PASS : Reg := { base := 0x146004, sa := 0x10, na := 128, rst := 0x0, fields := [⟨31, 0, .ro, 0, none, none⟩] }
def TSN_SF_DROP : Reg := { base := 0x146008, sa := 0x10, na := 128, rst := 0x0, fields := [⟨31, 0, .ro, 0, none, none⟩] }
def TSN_SF_CMD : Reg := { base := 0x14600c, sa := 0x10, na := 128, rst := 0x0, fields := [⟨0, 0, .w1s, 0, none, none⟩] }
def TSN_SG_CTRL : Reg :=
  { base := 0x147000, sa := 0x100, na := 16, rst := 0x1,
    fields := [⟨5, 0, .rwt, 1, none, none⟩,
      ⟨8, 8, .rwt, 0, none, none⟩,
      ⟨9, 9, .rwt, 0, none, none⟩] }
def TSN_SG_CYC : Reg := { base := 0x147004, sa := 0x100, na := 16, rst := 0xf4240, fields := [⟨29, 0, .rwt, 1000000, none, none⟩] }
def TSN_SG_BASE_NS : Reg := { base := 0x147008, sa := 0x100, na := 16, rst := 0x0, fields := [⟨31, 0, .rwt, 0, none, none⟩] }
def TSN_SG_BASE_SEC_LO : Reg := { base := 0x14700c, sa := 0x100, na := 16, rst := 0x0, fields := [⟨31, 0, .rwt, 0, none, none⟩] }
def TSN_SG_BASE_SEC_HI : Reg := { base := 0x147010, sa := 0x100, na := 16, rst := 0x0, fields := [⟨15, 0, .rwt, 0, none, none⟩] }
def TSN_SG_E : Reg :=
  { base := 0x147080, sa := 0x100, na := 16, sb := 0x4, nb := 32, rst := 0x11,
    fields := [⟨0, 0, .rwt, 1, none, none⟩,
      ⟨4, 1, .rwt, 8, none, none⟩,
      ⟨31, 8, .rwt, 0, none, none⟩] }
def TSN_FM_CIR : Reg := { base := 0x148000, sa := 0x10, na := 64, rst := 0x0, fields := [⟨31, 0, .rwt, 0, none, none⟩] }
def TSN_FM_CBS : Reg :=
  { base := 0x148004, sa := 0x10, na := 64, rst := 0x0,
    fields := [⟨23, 0, .rwt, 0, none, none⟩,
      ⟨31, 31, .rwt, 0, none, none⟩] }
def TSN_FM_EIR : Reg := { base := 0x148008, sa := 0x10, na := 64, rst := 0x0, fields := [⟨31, 0, .rwt, 0, none, none⟩] }
def TSN_FM_EBS : Reg := { base := 0x14800c, sa := 0x10, na := 64, rst := 0x0, fields := [⟨23, 0, .rwt, 0, none, none⟩] }
def CVU_CFG : Reg :=
  { base := 0x150100, sa := chanStep, na := 32, rst := 0x0,
    fields := [⟨1, 0, .rw, 0, none, none⟩,
      ⟨2, 2, .rw, 0, none, none⟩,
      ⟨3, 3, .rw, 0, none, none⟩,
      ⟨8, 8, .ro, 0, none, none⟩] }
def CVU_TAG_LO : Reg := { base := 0x150104, sa := chanStep, na := 32, rst := 0x0, fields := [⟨31, 0, .rw, 0, none, none⟩] }
def CVU_TAG_HI : Reg := { base := 0x150108, sa := chanStep, na := 32, rst := 0x0, fields := [⟨31, 0, .rw, 0, none, none⟩] }
def CVU_CMD : Reg :=
  { base := 0x15010c, sa := chanStep, na := 32, rst := 0x0,
    fields := [⟨0, 0, .w1s, 0, none, none⟩,
      ⟨1, 1, .w1s, 0, none, none⟩] }
def CVU_DATA : Reg := { base := 0x150110, sa := chanStep, na := 32, rst := 0x0, fields := [⟨31, 0, .wo, 0, none, none⟩] }
def CVU_DATAB : Reg := { base := 0x150114, sa := chanStep, na := 32, rst := 0x0, fields := [⟨7, 0, .wo, 0, none, none⟩] }
def CVU_RUN_LO : Reg := { base := 0x150118, sa := chanStep, na := 32, rst := 0x0, fields := [⟨31, 0, .rw, 0, none, none⟩] }
def CVU_RUN_HI : Reg := { base := 0x15011c, sa := chanStep, na := 32, rst := 0x0, fields := [⟨31, 0, .rw, 0, none, none⟩] }
def CVU_RES_LO : Reg := { base := 0x150120, sa := chanStep, na := 32, rst := 0x0, fields := [⟨31, 0, .ro, 0, none, none⟩] }
def CVU_RES_HI : Reg := { base := 0x150124, sa := chanStep, na := 32, rst := 0x0, fields := [⟨31, 0, .ro, 0, none, none⟩] }
def CVU_USTAT : Reg :=
  { base := 0x150128, sa := chanStep, na := 32, rst := 0x0,
    fields := [⟨0, 0, .ro, 0, none, none⟩,
      ⟨1, 1, .ro, 0, none, none⟩] }
def CVU_NFRM : Reg := { base := 0x15012c, sa := chanStep, na := 32, rst := 0x0, fields := [⟨31, 0, .ro, 0, none, none⟩] }
def CVU_NFAIL : Reg := { base := 0x150130, sa := chanStep, na := 32, rst := 0x0, fields := [⟨31, 0, .ro, 0, none, none⟩] }
def CVU_GT_CFG : Reg :=
  { base := 0x152000, sa := 0x20, na := 256, rst := 0x0,
    fields := [⟨15, 0, .rwt, 0, none, none⟩,
      ⟨16, 16, .rwt, 0, none, none⟩,
      ⟨17, 17, .rwt, 0, none, none⟩,
      ⟨19, 18, .rwt, 0, none, none⟩,
      ⟨20, 20, .rwt, 0, none, none⟩] }
def CVU_GT_PORT : Reg :=
  { base := 0x152004, sa := 0x20, na := 256, rst := 0x0,
    fields := [⟨11, 0, .rwt, 0, none, none⟩,
      ⟨29, 16, .rwt, 0, none, none⟩] }
def CVU_GT_CB : Reg :=
  { base := 0x152008, sa := 0x20, na := 256, rst := 0x200000,
    fields := [⟨19, 0, .rwt, 0, none, none⟩,
      ⟨25, 20, .rwt, 2, none, none⟩] }
def CVU_GT_TX : Reg :=
  { base := 0x15200c, sa := 0x20, na := 256, rst := 0x64,
    fields := [⟨15, 0, .rwt, 100, none, none⟩,
      ⟨27, 16, .rwt, 0, none, none⟩,
      ⟨30, 28, .rwt, 0, none, none⟩] }
def CVU_GT_DMAC_LO : Reg := { base := 0x152010, sa := 0x20, na := 256, rst := 0x0, fields := [⟨31, 0, .rwt, 0, none, none⟩] }
def CVU_GT_DMAC_HI : Reg := { base := 0x152014, sa := 0x20, na := 256, rst := 0x0, fields := [⟨15, 0, .rwt, 0, none, none⟩] }
def CVU_GT_FCNT : Reg := { base := 0x152018, sa := 0x20, na := 256, rst := 0x0, fields := [⟨31, 0, .ro, 0, none, none⟩] }
def CVU_GT_CNT : Reg :=
  { base := 0x15201c, sa := 0x20, na := 256, rst := 0x0,
    fields := [⟨15, 0, .ro, 0, none, none⟩,
      ⟨31, 16, .ro, 0, none, none⟩] }
def REED_PCFG : Reg :=
  { base := 0x160100, sa := chanStep, na := 4, rst := 0x2,
    fields := [⟨0, 0, .rwt, 0, none, none⟩,
      ⟨1, 1, .rwt, 1, none, none⟩] }
def REED_PSTAT : Reg :=
  { base := 0x160104, sa := chanStep, na := 4, rst := 0x0,
    fields := [⟨2, 0, .ro, 0, none, none⟩,
      ⟨3, 3, .ro, 0, none, none⟩,
      ⟨9, 4, .ro, 0, none, none⟩,
      ⟨10, 10, .ro, 0, none, none⟩] }
def REED_PDELAY : Reg := { base := 0x160108, sa := chanStep, na := 4, rst := 0x0, fields := [⟨31, 0, .ro, 0, none, none⟩] }
def REED_PTX_LO : Reg := { base := 0x16010c, sa := chanStep, na := 4, rst := 0x0, fields := [⟨31, 0, .ro, 0, none, none⟩] }
def REED_PTX_HI : Reg := { base := 0x160110, sa := chanStep, na := 4, rst := 0x0, fields := [⟨31, 0, .ro, 0, none, none⟩] }
def REED_PRX_LO : Reg := { base := 0x160114, sa := chanStep, na := 4, rst := 0x0, fields := [⟨31, 0, .ro, 0, none, none⟩] }
def REED_PRX_HI : Reg := { base := 0x160118, sa := chanStep, na := 4, rst := 0x0, fields := [⟨31, 0, .ro, 0, none, none⟩] }
def REED_PCRC : Reg := { base := 0x16011c, sa := chanStep, na := 4, rst := 0x0, fields := [⟨31, 0, .ro, 0, none, none⟩] }
def REED_PREPLAY : Reg := { base := 0x160120, sa := chanStep, na := 4, rst := 0x0, fields := [⟨31, 0, .ro, 0, none, none⟩] }
def REED_PRETRAIN : Reg := { base := 0x160124, sa := chanStep, na := 4, rst := 0x0, fields := [⟨31, 0, .ro, 0, none, none⟩] }
def REED_PCLR : Reg := { base := 0x160128, sa := chanStep, na := 4, rst := 0x0, fields := [⟨0, 0, .w1s, 0, none, none⟩] }
def REED_GCFG : Reg :=
  { base := 0x160400, rst := 0xf20100,
    fields := [⟨5, 0, .rwt, 0, none, none⟩,
      ⟨7, 6, .rwt, 0, none, none⟩,
      ⟨14, 8, .rwt, 1, none, none⟩,
      ⟨19, 16, .rwt, 2, none, none⟩,
      ⟨23, 20, .rwt, 15, none, none⟩] }
def REED_AUDCFG : Reg :=
  { base := 0x160404, rst := 0x0,
    fields := [⟨1, 0, .rwt, 0, none, none⟩,
      ⟨13, 8, .rwt, 0, none, none⟩,
      ⟨21, 16, .rwt, 0, none, none⟩,
      ⟨24, 24, .rwt, 0, none, none⟩] }
def REED_AUDRSV_LANE : Reg := { base := 0x160408, rst := 0x0, fields := [⟨31, 0, .rwt, 0, none, none⟩] }
def REED_AUDRSV_VEC : Reg := { base := 0x16040c, rst := 0x0, fields := [⟨31, 0, .rwt, 0, none, none⟩] }
def REED_AUDRSV_DRAM : Reg := { base := 0x160410, rst := 0x0, fields := [⟨31, 0, .rwt, 0, none, none⟩] }
def REED_TPER : Reg := { base := 0x160414, rst := 0x7d, fields := [⟨13, 0, .rwt, 125, (some 100), (some 10000)⟩] }
def REED_TROOT : Reg :=
  { base := 0x160418, rst := 0x0,
    fields := [⟨5, 0, .ro, 0, none, none⟩,
      ⟨11, 8, .ro, 0, none, none⟩,
      ⟨31, 31, .ro, 0, none, none⟩] }
def REED_TOFF : Reg := { base := 0x16041c, rst := 0x0, fields := [⟨31, 0, .ro, 0, none, none⟩] }
def REED_XPEND : Reg := { base := 0x160420, rst := 0x0, fields := [⟨12, 0, .ro, 0, none, none⟩] }
def REED_XORPH : Reg := { base := 0x160424, rst := 0x0, fields := [⟨31, 0, .ro, 0, none, none⟩] }
def REED_XDROP : Reg := { base := 0x160428, rst := 0x0, fields := [⟨31, 0, .ro, 0, none, none⟩] }
def REED_AUDN : Reg := { base := 0x16042c, rst := 0x0, fields := [⟨31, 0, .ro, 0, none, none⟩] }
def REED_AUDND : Reg := { base := 0x160430, rst := 0x0, fields := [⟨31, 0, .ro, 0, none, none⟩] }
def REED_AUDSKIP : Reg := { base := 0x160434, rst := 0x0, fields := [⟨31, 0, .ro, 0, none, none⟩] }
def REED_CLR : Reg := { base := 0x160438, rst := 0x0, fields := [⟨0, 0, .w1s, 0, none, none⟩] }
def KCU_LIFE : Reg :=
  { base := 0x170400, rst := 0x0,
    fields := [⟨1, 0, .ro, 0, none, none⟩,
      ⟨2, 2, .ro, 0, none, none⟩,
      ⟨3, 3, .ro, 0, none, none⟩] }
def KCU_OSLOT : Reg :=
  { base := 0x170404, rst := 0x0,
    fields := [⟨2, 0, .ro, 0, none, none⟩,
      ⟨6, 4, .ro, 0, none, none⟩,
      ⟨10, 8, .ro, 0, none, none⟩,
      ⟨14, 12, .ro, 0, none, none⟩] }
def KCU_ARB0 : Reg := { base := 0x170408, rst := 0x0, fields := [⟨31, 0, .ro, 0, none, none⟩] }
def KCU_ARB1 : Reg := { base := 0x17040c, rst := 0x0, fields := [⟨7, 0, .ro, 0, none, none⟩] }
def KCU_ARBADV : Reg :=
  { base := 0x170410, rst := 0x0,
    fields := [⟨2, 0, .rw, 0, none, none⟩,
      ⟨15, 8, .rw, 0, none, none⟩,
      ⟨31, 31, .w1s, 0, none, none⟩] }
def KCU_KADDR_LO : Reg := { base := 0x170414, rst := 0x0, fields := [⟨31, 0, .rw, 0, none, none⟩] }
def KCU_KADDR_HI : Reg := { base := 0x170418, rst := 0x0, fields := [⟨31, 0, .rw, 0, none, none⟩] }
def KCU_KCMD : Reg :=
  { base := 0x17041c, rst := 0x0,
    fields := [⟨2, 0, .wo, 0, none, none⟩,
      ⟨5, 4, .wo, 0, none, none⟩,
      ⟨10, 8, .wo, 0, none, none⟩] }
def KCU_KSTAT : Reg := { base := 0x170420, rst := 0x0, fields := [⟨2, 0, .ro, 0, none, none⟩] }
def KCU_HSADDR_LO : Reg := { base := 0x170424, rst := 0x0, fields := [⟨31, 12, .rw, 0, none, none⟩] }
def KCU_HSADDR_HI : Reg := { base := 0x170428, rst := 0x0, fields := [⟨31, 0, .rw, 0, none, none⟩] }
def KCU_HSCMD : Reg :=
  { base := 0x17042c, rst := 0x0,
    fields := [⟨2, 0, .rw, 0, none, none⟩,
      ⟨8, 8, .w1s, 0, none, none⟩,
      ⟨9, 9, .w1s, 0, none, none⟩,
      ⟨10, 10, .w1s, 0, none, none⟩] }
def KCU_SESSST : Reg :=
  { base := 0x170430, rst := 0x0,
    fields := [⟨1, 0, .ro, 0, none, none⟩,
      ⟨3, 2, .ro, 0, none, none⟩,
      ⟨5, 4, .ro, 0, none, none⟩,
      ⟨7, 6, .ro, 0, none, none⟩,
      ⟨9, 8, .ro, 0, none, none⟩,
      ⟨11, 10, .ro, 0, none, none⟩,
      ⟨13, 12, .ro, 0, none, none⟩,
      ⟨15, 14, .ro, 0, none, none⟩] }
def KCU_SESSACT : Reg := { base := 0x170434, rst := 0xa, fields := [⟨9, 0, .rwt, 10, none, none⟩] }
def KCU_STRSESS : Reg :=
  { base := 0x170440, sa := 0x4, na := 8, rst := 0x0,
    fields := [⟨2, 0, .rwt, 0, none, none⟩,
      ⟨6, 4, .rwt, 0, none, none⟩,
      ⟨10, 8, .rwt, 0, none, none⟩,
      ⟨14, 12, .rwt, 0, none, none⟩,
      ⟨18, 16, .rwt, 0, none, none⟩,
      ⟨22, 20, .rwt, 0, none, none⟩,
      ⟨26, 24, .rwt, 0, none, none⟩,
      ⟨30, 28, .rwt, 0, none, none⟩] }
def KCU_HVKEY : Reg := { base := 0x170460, sa := 0x4, na := 8, rst := 0x0, fields := [⟨31, 0, .ro, 0, none, none⟩] }
def KCU_HVSTAT : Reg := { base := 0x170480, rst := 0x0, fields := [⟨0, 0, .ro, 0, none, none⟩] }
def KCU_QADDR_LO : Reg := { base := 0x170484, rst := 0x0, fields := [⟨31, 6, .rw, 0, none, none⟩] }
def KCU_QADDR_HI : Reg := { base := 0x170488, rst := 0x0, fields := [⟨31, 0, .rw, 0, none, none⟩] }
def KCU_QNONCE : Reg := { base := 0x170490, sa := 0x4, na := 8, rst := 0x0, fields := [⟨31, 0, .rw, 0, none, none⟩] }
def KCU_QCMD : Reg := { base := 0x1704b0, rst := 0x0, fields := [⟨0, 0, .w1s, 0, none, none⟩] }
def KCU_NRESEED : Reg := { base := 0x1704b4, rst := 0x0, fields := [⟨31, 0, .ro, 0, none, none⟩] }
def KCU_NTAG_LO : Reg := { base := 0x1704b8, rst := 0x0, fields := [⟨31, 0, .ro, 0, none, none⟩] }
def KCU_NTAG_HI : Reg := { base := 0x1704bc, rst := 0x0, fields := [⟨31, 0, .ro, 0, none, none⟩] }
def KCU_CLR : Reg := { base := 0x1704c0, rst := 0x0, fields := [⟨0, 0, .w1s, 0, none, none⟩] }
def CLK_DSTAT : Reg :=
  { base := 0x10100, sa := chanStep, na := 40, rst := 0x0,
    fields := [⟨2, 0, .ro, 0, none, none⟩,
      ⟨13, 3, .ro, 0, none, none⟩,
      ⟨14, 14, .ro, 0, none, none⟩,
      ⟨15, 15, .ro, 0, none, none⟩,
      ⟨16, 16, .ro, 0, none, none⟩,
      ⟨17, 17, .ro, 0, none, none⟩] }
def CLK_DCNT : Reg := { base := 0x10104, sa := chanStep, na := 40, rst := 0x0, fields := [⟨15, 0, .ro, 0, none, none⟩] }
def CLK_PWR : Reg :=
  { base := 0x10400, rst := 0x0,
    fields := [⟨1, 0, .rw, 0, none, none⟩,
      ⟨9, 8, .ro, 0, none, none⟩,
      ⟨16, 16, .ro, 0, none, none⟩] }
def CLK_PEST : Reg := { base := 0x10404, rst := 0x0, fields := [⟨15, 0, .ro, 0, none, none⟩] }
def CLK_BURSTMS : Reg := { base := 0x10408, rst := 0x0, fields := [⟨12, 0, .ro, 0, none, none⟩] }
def CLK_TMAX : Reg := { base := 0x1040c, rst := 0x0, fields := [⟨11, 0, .ro, 0, none, none⟩] }
def CLK_TS : Reg :=
  { base := 0x10410, sa := 0x4, na := 8, rst := 0x0,
    fields := [⟨11, 0, .ro, 0, none, none⟩,
      ⟨12, 12, .ro, 0, none, none⟩,
      ⟨13, 13, .ro, 0, none, none⟩] }
def CLK_THMAX : Reg := { base := 0x10430, rst := 0x0, fields := [⟨11, 0, .ro, 0, none, none⟩] }
def CLK_NCAP : Reg := { base := 0x10434, rst := 0x0, fields := [⟨31, 0, .ro, 0, none, none⟩] }
def CLK_CLR : Reg := { base := 0x10438, rst := 0x0, fields := [⟨0, 0, .w1s, 0, none, none⟩] }
def MNA_SRAMPER : Reg := { base := 0x1a0400, rst := 0xa, fields := [⟨9, 0, .rwt, 10, (some 1), (some 600)⟩] }
def MNA_DRAMPER : Reg := { base := 0x1a0404, rst := 0xe10, fields := [⟨16, 0, .rwt, 3600, (some 60), (some 86400)⟩] }
def MNA_DRAMBUD : Reg := { base := 0x1a0408, rst := 0x10, fields := [⟨7, 0, .rwt, 16, (some 1), (some 36)⟩] }
def MNA_RKLANE : Reg := { base := 0x1a040c, rst := 0x1f40, fields := [⟨31, 0, .rwt, 8000, none, none⟩] }
def MNA_RKDRAM : Reg := { base := 0x1a0410, rst := 0x3e8, fields := [⟨15, 0, .rwt, 1000, none, none⟩] }
def MNA_GRANT : Reg := { base := 0x1a0414, rst := 0x0, fields := [⟨6, 0, .ro, 0, none, none⟩] }
def MNA_REQ : Reg := { base := 0x1a0418, rst := 0x0, fields := [⟨6, 0, .ro, 0, none, none⟩] }
def MNA_BGL : Reg := { base := 0x1a041c, rst := 0x0, fields := [⟨31, 0, .ro, 0, none, none⟩] }
def MNA_DRB : Reg := { base := 0x1a0420, rst := 0x0, fields := [⟨15, 0, .ro, 0, none, none⟩] }
def MNA_SRAMPROG : Reg := { base := 0x1a0424, rst := 0x0, fields := [⟨7, 0, .ro, 0, none, none⟩, ⟨31, 16, .ro, 0, none, none⟩] }
def MNA_DRAMPROG : Reg := { base := 0x1a0428, rst := 0x0, fields := [⟨7, 0, .ro, 0, none, none⟩, ⟨31, 16, .ro, 0, none, none⟩] }
def MNA_DEFER : Reg := { base := 0x1a042c, sa := 0x4, na := 7, rst := 0x0, fields := [⟨31, 0, .ro, 0, none, none⟩] }
def MNA_CMPPOS : Reg := { base := 0x1a0448, rst := 0x0, fields := [⟨3, 0, .ro, 0, none, none⟩, ⟨11, 8, .ro, 0, none, none⟩] }
def MNA_CLR : Reg := { base := 0x1a044c, rst := 0x0, fields := [⟨0, 0, .w1s, 0, none, none⟩] }
def BOOT_CAUSE : Reg := { base := 0x1b0400, rst := 0x1, fields := [⟨2, 0, .ro, 1, none, none⟩] }
def BOOT_WRST : Reg := { base := 0x1b0404, rst := 0x0, fields := [⟨7, 0, .wo, 0, none, none⟩] }
def BOOT_VAR : Reg := { base := 0x1b0408, rst := 0x0, fields := [⟨4, 0, .ro, 0, none, none⟩] }
def BOOT_CMD : Reg := { base := 0x1b040c, rst := 0x0, fields := [⟨0, 0, .w1s, 0, none, none⟩] }
def BOOT_ATT_LO : Reg := { base := 0x1b0410, rst := 0x0, fields := [⟨31, 0, .ro, 0, none, none⟩] }
def BOOT_ATT_HI : Reg := { base := 0x1b0414, rst := 0x0, fields := [⟨31, 0, .ro, 0, none, none⟩] }
def BOOT_READYT : Reg := { base := 0x1b0418, rst := 0x0, fields := [⟨31, 0, .ro, 0, none, none⟩] }
def BOOT_NREPAIR : Reg := { base := 0x1b041c, rst := 0x0, fields := [⟨12, 0, .ro, 0, none, none⟩] }
def BOOT_IMGROLL : Reg := { base := 0x1b0420, rst := 0x0, fields := [⟨31, 0, .ro, 0, none, none⟩] }
def BOOT_LED : Reg := { base := 0x1b0800, sa := 0x40, na := 16, sb := 0x4, nb := 16, rst := 0x0, fields := [⟨31, 0, .ro, 0, none, none⟩] }
def ERC_HEAD_LO : Reg := { base := 0x190400, rst := 0x0, fields := [⟨31, 0, .ro, 0, none, none⟩] }
def ERC_HEAD_HI : Reg := { base := 0x190404, rst := 0x0, fields := [⟨31, 0, .ro, 0, none, none⟩] }
def ERC_IDX_LO : Reg := { base := 0x190408, sa := accStep, na := 3, rst := 0x0, fields := [⟨31, 0, .rw, 0, none, none⟩] }
def ERC_IDX_HI : Reg := { base := 0x19040c, sa := accStep, na := 3, rst := 0x0, fields := [⟨31, 0, .rw, 0, none, none⟩] }
def ERC_RSTAT : Reg :=
  { base := 0x190410, sa := accStep, na := 3, rst := 0x0,
    fields := [⟨0, 0, .ro, 0, none, none⟩,
      ⟨1, 1, .ro, 0, none, none⟩,
      ⟨2, 2, .ro, 0, none, none⟩,
      ⟨3, 3, .ro, 0, none, none⟩] }
def ERC_REC : Reg := { base := 0x190440, sa := 0x4, na := 16, rst := 0x0, fields := [⟨31, 0, .ro, 0, none, none⟩] }
def ERC_ANN : Reg := { base := 0x190480, sa := accStep, na := 3, sb := 0x4, nb := 6, rst := 0x0, fields := [⟨31, 0, .rw, 0, none, none⟩] }
def ERC_ANNCMD : Reg := { base := 0x190498, rst := 0x0, fields := [⟨0, 0, .w1s, 0, none, none⟩, ⟨1, 1, .w1s, 0, none, none⟩] }
def ERC_DROP : Reg := { base := 0x19049c, rst := 0x0, fields := [⟨31, 0, .ro, 0, none, none⟩] }
def ERC_RING_BASE_LO : Reg := { base := 0x1904c0, rst := 0x0, fields := [⟨31, 12, .rwt, 0, none, none⟩] }
def ERC_RING_BASE_HI : Reg := { base := 0x1904c4, rst := 0x0, fields := [⟨31, 0, .rwt, 0, none, none⟩] }
def ERC_RINGCFG : Reg :=
  { base := 0x1904c8, rst := 0x10006,
    fields := [⟨4, 0, .rwt, 6, none, none⟩,
      ⟨5, 5, .rwt, 0, none, none⟩,
      ⟨13, 8, .rwt, 0, none, none⟩,
      ⟨23, 16, .rwt, 1, (some 1), none⟩,
      ⟨25, 24, .rwt, 0, none, none⟩] }
def ERC_RINGMOD : Reg := { base := 0x1904cc, rst := 0x0, fields := [⟨15, 0, .rwt, 0, none, none⟩] }
def ERC_RINGWB_LO : Reg := { base := 0x1904d0, rst := 0x0, fields := [⟨31, 3, .rwt, 0, none, none⟩] }
def ERC_RINGWB_HI : Reg := { base := 0x1904d4, rst := 0x0, fields := [⟨31, 0, .rwt, 0, none, none⟩] }
def ERC_RPIDX : Reg := { base := 0x1904d8, rst := 0x0, fields := [⟨31, 0, .ro, 0, none, none⟩] }
def ERC_RLOST : Reg := { base := 0x1904dc, rst := 0x0, fields := [⟨31, 0, .ro, 0, none, none⟩] }
def ERC_CLR : Reg := { base := 0x1904e0, rst := 0x0, fields := [⟨0, 0, .w1s, 0, none, none⟩] }
def MEM_PRJSIZE : Reg := { base := 0x180400, rst := 0x2000, fields := [⟨13, 0, .rwt, 8192, none, none⟩] }
def MEM_KVCSIZE : Reg := { base := 0x180404, rst := 0x5000, fields := [⟨14, 0, .rwt, 20480, none, none⟩] }
def MEM_RBASE : Reg := { base := 0x180410, sa := 0x8, na := 5, rst := 0x0, fields := [⟨14, 0, .ro, 0, none, none⟩] }
def MEM_RSIZE : Reg := { base := 0x180414, sa := 0x8, na := 5, rst := 0x0, fields := [⟨14, 0, .ro, 0, none, none⟩] }
def MEM_NCE : Reg := { base := 0x180440, rst := 0x0, fields := [⟨31, 0, .ro, 0, none, none⟩] }
def MEM_NUE : Reg := { base := 0x180444, rst := 0x0, fields := [⟨31, 0, .ro, 0, none, none⟩] }
def MEM_LASTUE_LO : Reg := { base := 0x180448, rst := 0x0, fields := [⟨31, 0, .ro, 0, none, none⟩] }
def MEM_LASTUE_HI : Reg := { base := 0x18044c, rst := 0x0, fields := [⟨2, 0, .ro, 0, none, none⟩] }
def MEM_CLR : Reg := { base := 0x180450, rst := 0x0, fields := [⟨0, 0, .w1s, 0, none, none⟩] }
def TAP_CTRL : Reg :=
  { base := 0x60008, sa := 0x10000, na := 2, rst := 0xa0400,
    fields := [⟨0, 0, .rwt, 0, none, none⟩,
      ⟨1, 1, .w1s, 0, none, none⟩,
      ⟨8, 8, .rw, 0, none, none⟩,
      ⟨9, 9, .w1s, 0, none, none⟩,
      ⟨10, 10, .rwt, 1, none, none⟩,
      ⟨23, 16, .rwt, 10, (some 1), none⟩] }
def TAP_STAT : Reg :=
  { base := 0x6000c, sa := 0x10000, na := 2, rst := 0x0,
    fields := [⟨1, 0, .ro, 0, none, none⟩,
      ⟨2, 2, .ro, 0, none, none⟩,
      ⟨9, 8, .ro, 0, none, none⟩,
      ⟨12, 10, .ro, 0, none, none⟩,
      ⟨13, 13, .ro, 0, none, none⟩,
      ⟨14, 14, .ro, 0, none, none⟩,
      ⟨15, 15, .ro, 0, none, none⟩] }
def PST_CTRL : Reg :=
  { base := 0xf0008, rst := 0x300,
    fields := [⟨0, 0, .rwt, 0, none, none⟩,
      ⟨8, 8, .rwt, 1, none, none⟩,
      ⟨9, 9, .rwt, 1, none, none⟩,
      ⟨10, 10, .rw, 0, none, none⟩] }
def PST_STAT : Reg :=
  { base := 0xf000c, rst := 0x0,
    fields := [⟨1, 0, .ro, 0, none, none⟩,
      ⟨2, 2, .ro, 0, none, none⟩,
      ⟨8, 8, .ro, 0, none, none⟩,
      ⟨9, 9, .ro, 0, none, none⟩] }
def TE_CTRL : Reg :=
  { base := 0x80008, sa := 0x10000, na := 4, rst := 0x1,
    fields := [⟨0, 0, .rwt, 1, none, none⟩,
      ⟨1, 1, .w1s, 0, none, none⟩,
      ⟨8, 8, .rwt, 0, none, none⟩] }
def TE_STAT : Reg :=
  { base := 0x8000c, sa := 0x10000, na := 4, rst := 0x0,
    fields := [⟨1, 0, .ro, 0, none, none⟩,
      ⟨2, 2, .ro, 0, none, none⟩,
      ⟨11, 8, .ro, 0, none, none⟩,
      ⟨16, 12, .ro, 0, none, none⟩,
      ⟨17, 17, .ro, 0, none, none⟩,
      ⟨20, 18, .ro, 0, none, none⟩,
      ⟨21, 21, .ro, 0, none, none⟩,
      ⟨22, 22, .ro, 0, none, none⟩] }
def VDU_STAT : Reg :=
  { base := 0x10000c, rst := 0x40000,
    fields := [⟨1, 0, .ro, 0, none, none⟩,
      ⟨2, 2, .ro, 0, none, none⟩,
      ⟨18, 8, .ro, 1024, none, none⟩,
      ⟨19, 19, .ro, 0, none, none⟩,
      ⟨23, 20, .ro, 0, none, none⟩,
      ⟨24, 24, .ro, 0, none, none⟩] }
def SEM_STAT : Reg :=
  { base := 0x5000c, rst := 0x0,
    fields := [⟨1, 0, .ro, 0, none, none⟩,
      ⟨2, 2, .ro, 0, none, none⟩,
      ⟨15, 8, .ro, 0, none, none⟩,
      ⟨16, 16, .ro, 0, none, none⟩,
      ⟨17, 17, .ro, 0, none, none⟩] }
def SH_CTRL : Reg :=
  { base := 0xc0008, sa := 0x10000, na := 2, rst := 0x0,
    fields := [⟨0, 0, .rwt, 0, none, none⟩,
      ⟨1, 1, .w1s, 0, none, none⟩,
      ⟨8, 8, .w1s, 0, none, none⟩] }
def SH_STAT : Reg :=
  { base := 0xc000c, sa := 0x10000, na := 2, rst := 0x0,
    fields := [⟨1, 0, .ro, 0, none, none⟩,
      ⟨2, 2, .ro, 0, none, none⟩,
      ⟨10, 8, .ro, 0, none, none⟩,
      ⟨11, 11, .ro, 0, none, none⟩,
      ⟨12, 12, .ro, 0, none, none⟩] }
def MNT_CTRL : Reg :=
  { base := 0xe0008, rst := 0x0,
    fields := [⟨0, 0, .rwt, 0, none, none⟩,
      ⟨8, 8, .w1s, 0, none, none⟩,
      ⟨9, 9, .w1s, 0, none, none⟩,
      ⟨10, 10, .w1s, 0, none, none⟩,
      ⟨11, 11, .rwt, 0, none, none⟩] }
def MNT_STAT : Reg :=
  { base := 0xe000c, rst := 0x0,
    fields := [⟨1, 0, .ro, 0, none, none⟩,
      ⟨2, 2, .ro, 0, none, none⟩,
      ⟨10, 8, .ro, 0, none, none⟩,
      ⟨11, 11, .ro, 0, none, none⟩,
      ⟨14, 12, .ro, 0, none, none⟩,
      ⟨15, 15, .ro, 0, none, none⟩,
      ⟨23, 16, .ro, 0, none, none⟩] }
def AEU_CTRL : Reg := { base := 0x110008, rst := 0x1, fields := [⟨0, 0, .rwt, 1, none, none⟩] }
def AEU_STAT : Reg :=
  { base := 0x11000c, rst := 0x0,
    fields := [⟨1, 0, .ro, 0, none, none⟩,
      ⟨2, 2, .ro, 0, none, none⟩,
      ⟨14, 8, .ro, 0, none, none⟩,
      ⟨15, 15, .ro, 0, none, none⟩] }
def SIO_CTRL : Reg := { base := 0x120008, rst := 0x0, fields := [⟨0, 0, .rwt, 0, none, none⟩] }
def SIO_STAT : Reg :=
  { base := 0x12000c, rst := 0x0,
    fields := [⟨1, 0, .ro, 0, none, none⟩,
      ⟨2, 2, .ro, 0, none, none⟩,
      ⟨13, 8, .ro, 0, none, none⟩,
      ⟨18, 14, .ro, 0, none, none⟩,
      ⟨19, 19, .ro, 0, none, none⟩,
      ⟨22, 20, .ro, 0, none, none⟩] }
def FCU_STAT : Reg :=
  { base := 0x2000c, rst := 0x100,
    fields := [⟨1, 0, .ro, 0, none, none⟩,
      ⟨2, 2, .ro, 0, none, none⟩,
      ⟨8, 8, .ro, 1, none, none⟩,
      ⟨14, 9, .ro, 0, none, none⟩,
      ⟨15, 15, .ro, 0, none, none⟩] }
def SSC_STAT : Reg :=
  { base := 0x3000c, rst := 0x100,
    fields := [⟨1, 0, .ro, 0, none, none⟩,
      ⟨2, 2, .ro, 0, none, none⟩,
      ⟨8, 8, .ro, 1, none, none⟩,
      ⟨9, 9, .ro, 0, none, none⟩,
      ⟨14, 10, .ro, 0, none, none⟩,
      ⟨15, 15, .ro, 0, none, none⟩] }
def ACB_CTRL : Reg :=
  { base := 0x130008, rst := 0x2401,
    fields := [⟨0, 0, .rwt, 1, none, none⟩,
      ⟨8, 8, .rw, 0, none, none⟩,
      ⟨9, 9, .rwt, 0, none, none⟩,
      ⟨10, 10, .rwt, 1, none, none⟩,
      ⟨14, 12, .rwt, 2, (some 1), (some 4)⟩] }
def ACB_STAT : Reg :=
  { base := 0x13000c, rst := 0x0,
    fields := [⟨1, 0, .ro, 0, none, none⟩,
      ⟨2, 2, .ro, 0, none, none⟩,
      ⟨10, 8, .ro, 0, none, none⟩,
      ⟨11, 11, .ro, 0, none, none⟩,
      ⟨12, 12, .ro, 0, none, none⟩,
      ⟨13, 13, .ro, 0, none, none⟩,
      ⟨14, 14, .ro, 0, none, none⟩,
      ⟨15, 15, .ro, 0, none, none⟩,
      ⟨16, 16, .ro, 0, none, none⟩,
      ⟨19, 17, .ro, 0, none, none⟩] }
def TBU_CTRL : Reg := { base := 0x40008, rst := 0x1, fields := [⟨0, 0, .ro, 1, none, none⟩, ⟨9, 8, .rwt, 0, none, none⟩] }
def TBU_STAT : Reg :=
  { base := 0x4000c, rst := 0x3c00,
    fields := [⟨1, 0, .ro, 0, none, none⟩,
      ⟨2, 2, .ro, 0, none, none⟩,
      ⟨9, 8, .ro, 0, none, none⟩,
      ⟨13, 10, .ro, 15, none, none⟩] }
def TSN_STAT : Reg :=
  { base := 0x14000c, rst := 0x0,
    fields := [⟨1, 0, .ro, 0, none, none⟩,
      ⟨2, 2, .ro, 0, none, none⟩,
      ⟨19, 8, .ro, 0, none, none⟩,
      ⟨20, 20, .ro, 0, none, none⟩] }
def REED_STAT : Reg :=
  { base := 0x16000c, rst := 0x0,
    fields := [⟨1, 0, .ro, 0, none, none⟩,
      ⟨2, 2, .ro, 0, none, none⟩,
      ⟨11, 8, .ro, 0, none, none⟩,
      ⟨12, 12, .ro, 0, none, none⟩] }
def KCU_STAT : Reg :=
  { base := 0x17000c, rst := 0x0,
    fields := [⟨1, 0, .ro, 0, none, none⟩,
      ⟨2, 2, .ro, 0, none, none⟩,
      ⟨9, 8, .ro, 0, none, none⟩,
      ⟨10, 10, .ro, 0, none, none⟩] }
def CLK_STAT : Reg :=
  { base := 0x1000c, rst := 0x8400,
    fields := [⟨1, 0, .ro, 0, none, none⟩,
      ⟨2, 2, .ro, 0, none, none⟩,
      ⟨9, 8, .ro, 0, none, none⟩,
      ⟨10, 10, .ro, 1, none, none⟩,
      ⟨11, 11, .ro, 0, none, none⟩,
      ⟨15, 12, .ro, 8, none, none⟩,
      ⟨16, 16, .ro, 0, none, none⟩,
      ⟨17, 17, .ro, 0, none, none⟩] }
def MNA_CTRL : Reg :=
  { base := 0x1a0008, rst := 0x301,
    fields := [⟨0, 0, .rwt, 1, none, none⟩,
      ⟨8, 8, .rwt, 1, none, none⟩,
      ⟨9, 9, .rwt, 1, none, none⟩] }
def MNA_STAT : Reg :=
  { base := 0x1a000c, rst := 0x0,
    fields := [⟨1, 0, .ro, 0, none, none⟩,
      ⟨2, 2, .ro, 0, none, none⟩,
      ⟨8, 8, .ro, 0, none, none⟩,
      ⟨9, 9, .ro, 0, none, none⟩] }
def BOOT_STAT : Reg :=
  { base := 0x1b000c, rst := 0x0,
    fields := [⟨1, 0, .ro, 0, none, none⟩,
      ⟨2, 2, .ro, 0, none, none⟩,
      ⟨11, 8, .ro, 0, none, none⟩,
      ⟨12, 12, .ro, 0, none, none⟩,
      ⟨13, 13, .ro, 0, none, none⟩,
      ⟨14, 14, .ro, 0, none, none⟩,
      ⟨16, 15, .ro, 0, none, none⟩] }
def ERC_STAT : Reg :=
  { base := 0x19000c, rst := 0x0,
    fields := [⟨1, 0, .ro, 0, none, none⟩,
      ⟨2, 2, .ro, 0, none, none⟩,
      ⟨18, 8, .ro, 0, none, none⟩] }
def MEM_STAT : Reg :=
  { base := 0x18000c, rst := 0x0,
    fields := [⟨1, 0, .ro, 0, none, none⟩,
      ⟨2, 2, .ro, 0, none, none⟩,
      ⟨8, 8, .ro, 0, none, none⟩,
      ⟨9, 9, .ro, 0, none, none⟩,
      ⟨10, 10, .ro, 0, none, none⟩,
      ⟨11, 11, .ro, 0, none, none⟩] }
def GLB_CTRL : Reg := { base := 0x8, rst := 0x1, fields := [⟨0, 0, .ro, 1, none, none⟩] }
def GLB_STAT : Reg := { base := 0xc, rst := 0x0, fields := [⟨1, 0, .ro, 0, none, none⟩, ⟨2, 2, .ro, 0, none, none⟩] }
def CLK_CTRL : Reg := { base := 0x10008, rst := 0x1, fields := [⟨0, 0, .ro, 1, none, none⟩] }
def FCU_CTRL : Reg := { base := 0x20008, rst := 0x1, fields := [⟨0, 0, .ro, 1, none, none⟩] }
def SSC_CTRL : Reg := { base := 0x30008, rst := 0x1, fields := [⟨0, 0, .ro, 1, none, none⟩] }
def SEM_CTRL : Reg := { base := 0x50008, rst := 0x0, fields := [⟨0, 0, .rwt, 0, none, none⟩] }
def VDU_CTRL : Reg := { base := 0x100008, rst := 0x0, fields := [⟨0, 0, .rwt, 0, none, none⟩] }
def TSN_CTRL : Reg := { base := 0x140008, rst := 0x0, fields := [⟨0, 0, .rwt, 0, none, none⟩] }
def CVU_CTRL : Reg := { base := 0x150008, rst := 0x0, fields := [⟨0, 0, .rwt, 0, none, none⟩] }
def CVU_STAT : Reg := { base := 0x15000c, rst := 0x0, fields := [⟨1, 0, .ro, 0, none, none⟩, ⟨2, 2, .ro, 0, none, none⟩] }
def REED_CTRL : Reg := { base := 0x160008, rst := 0x0, fields := [⟨0, 0, .rwt, 0, none, none⟩, ⟨1, 1, .w1s, 0, none, none⟩] }
def KCU_CTRL : Reg := { base := 0x170008, rst := 0x1, fields := [⟨0, 0, .ro, 1, none, none⟩] }
def MEM_CTRL : Reg := { base := 0x180008, rst := 0x0, fields := [⟨0, 0, .rwt, 0, none, none⟩] }
def ERC_CTRL : Reg := { base := 0x190008, rst := 0x0, fields := [⟨0, 0, .rwt, 0, none, none⟩] }
def BOOT_CTRL : Reg := { base := 0x1b0008, rst := 0x1, fields := [⟨0, 0, .ro, 1, none, none⟩] }
def HEAD_FLT : Reg := { base := 0x10, sa := 0x10000, na := 28, rst := 0x0, fields := [⟨31, 0, .w1c, 0, none, none⟩] }
def HEAD_FLTDIS : Reg := { base := 0x14, sa := 0x10000, na := 28, rst := 0x0, fields := [⟨31, 0, .rwt, 0, none, none⟩] }
def HEAD_INJ : Reg :=
  { base := 0x20, sa := 0x10000, na := 28, rst := 0x0,
    fields := [⟨4, 0, .rw, 0, none, none⟩,
      ⟨23, 8, .rw, 0, none, none⟩,
      ⟨30, 30, .ro, 0, none, none⟩,
      ⟨31, 31, .w1s, 0, none, none⟩] }
def HEAD_CHSEL : Reg :=
  { base := 0x40, sa := accStep, na := 3, sb := 0x10000, nb := 28, rst := 0x0,
    fields := [⟨15, 0, .rw, 0, none, none⟩] }
end R

namespace F
def GLB_DEVID_PART : Fld := ⟨R.GLB_DEVID, 15, 0⟩
def GLB_DEVID_FAMILY : Fld := ⟨R.GLB_DEVID, 23, 16⟩
def GLB_DEVID_STEP : Fld := ⟨R.GLB_DEVID, 31, 24⟩
def GLB_SERIAL_LO_SERIAL : Fld := ⟨R.GLB_SERIAL_LO, 31, 0⟩
def GLB_SERIAL_HI_SERIAL : Fld := ⟨R.GLB_SERIAL_HI, 31, 0⟩
def GLB_DIM0_N_TE : Fld := ⟨R.GLB_DIM0, 3, 0⟩
def GLB_DIM0_N_SH : Fld := ⟨R.GLB_DIM0, 7, 4⟩
def GLB_DIM0_N_ETH : Fld := ⟨R.GLB_DIM0, 11, 8⟩
def GLB_DIM0_N_REED : Fld := ⟨R.GLB_DIM0, 15, 12⟩
def GLB_DIM0_N_STREAM : Fld := ⟨R.GLB_DIM0, 23, 16⟩
def GLB_DIM0_N_MSIX : Fld := ⟨R.GLB_DIM0, 31, 24⟩
def GLB_DIM1_N_DCI : Fld := ⟨R.GLB_DIM1, 7, 0⟩
def GLB_DIM1_N_SBO : Fld := ⟨R.GLB_DIM1, 15, 8⟩
def GLB_DIM1_SRAM_MIB : Fld := ⟨R.GLB_DIM1, 23, 16⟩
def GLB_DIM1_DRAM_GIB : Fld := ⟨R.GLB_DIM1, 31, 24⟩
def GLB_DIM2_N_SEM : Fld := ⟨R.GLB_DIM2, 15, 0⟩
def GLB_DIM2_N_CVU : Fld := ⟨R.GLB_DIM2, 23, 16⟩
def GLB_DIM2_N_PLANCTX : Fld := ⟨R.GLB_DIM2, 31, 24⟩
def GLB_PAGEMAP_PAGES : Fld := ⟨R.GLB_PAGEMAP, 31, 0⟩
def GLB_LOCK_LOCKED : Fld := ⟨R.GLB_LOCK, 0, 0⟩
def GLB_LOCK_PENDING : Fld := ⟨R.GLB_LOCK, 1, 1⟩
def GLB_TXN_CTRL_OP : Fld := ⟨R.GLB_TXN_CTRL, 1, 0⟩
def GLB_TXN_BOUND_MODE : Fld := ⟨R.GLB_TXN_BOUND, 1, 0⟩
def GLB_TXN_BOUND_STREAM : Fld := ⟨R.GLB_TXN_BOUND, 13, 8⟩
def GLB_TXN_TIME_NS_NS : Fld := ⟨R.GLB_TXN_TIME_NS, 31, 0⟩
def GLB_TXN_TIME_SEC_LO_SEC : Fld := ⟨R.GLB_TXN_TIME_SEC_LO, 31, 0⟩
def GLB_TXN_TIME_SEC_HI_SEC : Fld := ⟨R.GLB_TXN_TIME_SEC_HI, 15, 0⟩
def GLB_TXN_TIMEOUT_MS : Fld := ⟨R.GLB_TXN_TIMEOUT, 13, 0⟩
def GLB_TXN_ARMLIM_MS : Fld := ⟨R.GLB_TXN_ARMLIM, 15, 0⟩
def GLB_TXN_STAT_STATE : Fld := ⟨R.GLB_TXN_STAT, 2, 0⟩
def GLB_TXN_STAT_LAST : Fld := ⟨R.GLB_TXN_STAT, 11, 8⟩
def GLB_TXN_STAT_NSTG : Fld := ⟨R.GLB_TXN_STAT, 28, 16⟩
def GLB_TXN_STAT_OVF : Fld := ⟨R.GLB_TXN_STAT, 29, 29⟩
def GLB_TXN_ID_ID : Fld := ⟨R.GLB_TXN_ID, 31, 0⟩
def GLB_TXN_APPLY_NS_NS : Fld := ⟨R.GLB_TXN_APPLY_NS, 31, 0⟩
def GLB_TXN_APPLY_SEC_LO_SEC : Fld := ⟨R.GLB_TXN_APPLY_SEC_LO, 31, 0⟩
def GLB_TXN_APPLY_SEC_HI_SEC : Fld := ⟨R.GLB_TXN_APPLY_SEC_HI, 15, 0⟩
def GLB_STG_IDX_IDX : Fld := ⟨R.GLB_STG_IDX, 11, 0⟩
def GLB_STG_ADDR_OFFSET : Fld := ⟨R.GLB_STG_ADDR, 25, 0⟩
def GLB_STG_ADDR_VALID : Fld := ⟨R.GLB_STG_ADDR, 31, 31⟩
def GLB_STG_CH_CH : Fld := ⟨R.GLB_STG_CH, 15, 0⟩
def GLB_STG_DATA_DATA : Fld := ⟨R.GLB_STG_DATA, 31, 0⟩
def GLB_SCRATCH_DATA : Fld := ⟨R.GLB_SCRATCH, 31, 0⟩
def TAP_SSTAT_BOUND : Fld := ⟨R.TAP_SSTAT, 0, 0⟩
def TAP_SSTAT_OPEN : Fld := ⟨R.TAP_SSTAT, 1, 1⟩
def TAP_SSTAT_INCOMPLETE : Fld := ⟨R.TAP_SSTAT, 2, 2⟩
def TAP_SSTAT_BLOCKED : Fld := ⟨R.TAP_SSTAT, 3, 3⟩
def TAP_SNEXTSEQ_SEQ : Fld := ⟨R.TAP_SNEXTSEQ, 31, 0⟩
def TAP_SRES_LO_RESSEQ : Fld := ⟨R.TAP_SRES_LO, 31, 0⟩
def TAP_SRES_HI_RESSEQ : Fld := ⟨R.TAP_SRES_HI, 31, 0⟩
def TAP_SRSV_BYTES : Fld := ⟨R.TAP_SRSV, 19, 0⟩
def TAP_SHELD_BYTES : Fld := ⟨R.TAP_SHELD, 19, 0⟩
def TAP_SPEAK_BYTES : Fld := ⟨R.TAP_SPEAK, 19, 0⟩
def TAP_SACC_LO_N : Fld := ⟨R.TAP_SACC_LO, 31, 0⟩
def TAP_SACC_HI_N : Fld := ⟨R.TAP_SACC_HI, 31, 0⟩
def TAP_SGAP_N : Fld := ⟨R.TAP_SGAP, 31, 0⟩
def TAP_SDUP_N : Fld := ⟨R.TAP_SDUP, 31, 0⟩
def TAP_SSTALE_N : Fld := ⟨R.TAP_SSTALE, 31, 0⟩
def TAP_SMAL_N : Fld := ⟨R.TAP_SMAL, 31, 0⟩
def TAP_SDISC_N : Fld := ⟨R.TAP_SDISC, 31, 0⟩
def TAP_SRETR_N : Fld := ⟨R.TAP_SRETR, 31, 0⟩
def TAP_SCLR_CLR : Fld := ⟨R.TAP_SCLR, 0, 0⟩
def TAP_CONSPTR_PTR : Fld := ⟨R.TAP_CONSPTR, 23, 0⟩
def TAP_CURSOR_PTR : Fld := ⟨R.TAP_CURSOR, 23, 0⟩
def TAP_RSGEN_N : Fld := ⟨R.TAP_RSGEN, 31, 0⟩
def TAP_DISC_LO_BYTES : Fld := ⟨R.TAP_DISC_LO, 31, 0⟩
def TAP_DISC_HI_BYTES : Fld := ⟨R.TAP_DISC_HI, 31, 0⟩
def TAP_PARTDROP_N : Fld := ⟨R.TAP_PARTDROP, 31, 0⟩
def TAP_CRCCNT_N : Fld := ⟨R.TAP_CRCCNT, 31, 0⟩
def TAP_BPTIME_LO_NS : Fld := ⟨R.TAP_BPTIME_LO, 31, 0⟩
def TAP_BPTIME_HI_NS : Fld := ⟨R.TAP_BPTIME_HI, 31, 0⟩
def TAP_BPMAX_NS : Fld := ⟨R.TAP_BPMAX, 31, 0⟩
def TAP_PNEXTSEQ_SEQ : Fld := ⟨R.TAP_PNEXTSEQ, 31, 0⟩
def TAP_POOL_BYTES : Fld := ⟨R.TAP_POOL, 17, 0⟩
def TAP_WCACC_N : Fld := ⟨R.TAP_WCACC, 31, 0⟩
def TAP_WCREJ_N : Fld := ⟨R.TAP_WCREJ, 31, 0⟩
def TAP_PMAL_N : Fld := ⟨R.TAP_PMAL, 31, 0⟩
def TAP_LASTBAD_OFFSET : Fld := ⟨R.TAP_LASTBAD, 23, 0⟩
def TAP_LASTBAD_CAUSE : Fld := ⟨R.TAP_LASTBAD, 27, 24⟩
def TAP_CLR_CLR : Fld := ⟨R.TAP_CLR, 0, 0⟩
def PST_CSTAT_STATE : Fld := ⟨R.PST_CSTAT, 1, 0⟩
def PST_CSTAT_REKEY : Fld := ⟨R.PST_CSTAT, 2, 2⟩
def PST_CSTAT_EXPIRED : Fld := ⟨R.PST_CSTAT, 3, 3⟩
def PST_CGEN_GEN : Fld := ⟨R.PST_CGEN, 31, 0⟩
def PST_CRES_BYTES : Fld := ⟨R.PST_CRES, 26, 0⟩
def PST_CMAT_NMAT : Fld := ⟨R.PST_CMAT, 15, 0⟩
def PST_CMAT_NDONE : Fld := ⟨R.PST_CMAT, 31, 16⟩
def PST_CCHK_LO_N : Fld := ⟨R.PST_CCHK_LO, 31, 0⟩
def PST_CCHK_HI_N : Fld := ⟨R.PST_CCHK_HI, 31, 0⟩
def PST_CAGE_SEC : Fld := ⟨R.PST_CAGE, 15, 0⟩
def PST_CINEX_N : Fld := ⟨R.PST_CINEX, 31, 0⟩
def PST_CSPILL_N : Fld := ⟨R.PST_CSPILL, 31, 0⟩
def PST_CRKFAIL_N : Fld := ⟨R.PST_CRKFAIL, 31, 0⟩
def PST_CCMD_REKEY_ALL : Fld := ⟨R.PST_CCMD, 0, 0⟩
def PST_CCMD_ABORT_KEYUP : Fld := ⟨R.PST_CCMD, 1, 1⟩
def PST_CKUPTIME_US : Fld := ⟨R.PST_CKUPTIME, 31, 0⟩
def PST_EPOCH_SEC : Fld := ⟨R.PST_EPOCH, 15, 0⟩
def PST_KUPTO_SEC : Fld := ⟨R.PST_KUPTO, 15, 0⟩
def PST_FREE_BYTES : Fld := ⟨R.PST_FREE, 26, 0⟩
def PST_MAXEXT_BYTES : Fld := ⟨R.PST_MAXEXT, 26, 0⟩
def PST_RKCUR_SITE : Fld := ⟨R.PST_RKCUR, 15, 0⟩
def PST_RKCUR_CTX : Fld := ⟨R.PST_RKCUR, 19, 16⟩
def PST_RKCUR_PRIO : Fld := ⟨R.PST_RKCUR, 30, 30⟩
def PST_RKCUR_BUSY : Fld := ⟨R.PST_RKCUR, 31, 31⟩
def PST_RKPROG_DONE : Fld := ⟨R.PST_RKPROG, 15, 0⟩
def PST_RKPROG_TOTAL : Fld := ⟨R.PST_RKPROG, 31, 16⟩
def PST_RKQ_N : Fld := ⟨R.PST_RKQ, 12, 0⟩
def PST_RKCNT_N : Fld := ⟨R.PST_RKCNT, 31, 0⟩
def PST_WINLOSS_N : Fld := ⟨R.PST_WINLOSS, 31, 0⟩
def PST_SATND_N : Fld := ⟨R.PST_SATND, 31, 0⟩
def PST_CLR_CLR : Fld := ⟨R.PST_CLR, 0, 0⟩
def TE_FLAG_COUNT : Fld := ⟨R.TE_FLAG, 7, 0⟩
def TE_FLAG_LQ : Fld := ⟨R.TE_FLAG, 13, 8⟩
def TE_FLAG_IDX : Fld := ⟨R.TE_FLAG, 15, 14⟩
def TE_FLAG_ALLOC : Fld := ⟨R.TE_FLAG, 16, 16⟩
def TE_QSLOT_LQ : Fld := ⟨R.TE_QSLOT, 5, 0⟩
def TE_QSLOT_VALID : Fld := ⟨R.TE_QSLOT, 6, 6⟩
def TE_QSLOT_BG : Fld := ⟨R.TE_QSLOT, 7, 7⟩
def TE_QSLOT_CLASS : Fld := ⟨R.TE_QSLOT, 9, 8⟩
def TE_QSLOT_JOBS : Fld := ⟨R.TE_QSLOT, 17, 10⟩
def TE_QSLOT_WAITING : Fld := ⟨R.TE_QSLOT, 18, 18⟩
def TE_QSLOT_PURGE : Fld := ⟨R.TE_QSLOT, 19, 19⟩
def TE_QSLOT_MOVING : Fld := ⟨R.TE_QSLOT, 20, 20⟩
def TE_LANEOPS_LO_N : Fld := ⟨R.TE_LANEOPS_LO, 31, 0⟩
def TE_LANEOPS_HI_N : Fld := ⟨R.TE_LANEOPS_HI, 31, 0⟩
def TE_VSLOTS_LO_N : Fld := ⟨R.TE_VSLOTS_LO, 31, 0⟩
def TE_VSLOTS_HI_N : Fld := ⟨R.TE_VSLOTS_HI, 31, 0⟩
def TE_JOBS_LO_N : Fld := ⟨R.TE_JOBS_LO, 31, 0⟩
def TE_JOBS_HI_N : Fld := ⟨R.TE_JOBS_HI, 31, 0⟩
def TE_REPLAYS_N : Fld := ⟨R.TE_REPLAYS, 31, 0⟩
def TE_ILLPC_PC : Fld := ⟨R.TE_ILLPC, 11, 0⟩
def TE_ILLPC_LQ : Fld := ⟨R.TE_ILLPC, 17, 12⟩
def TE_STCNT_PASS : Fld := ⟨R.TE_STCNT, 15, 0⟩
def TE_STCNT_FAIL : Fld := ⟨R.TE_STCNT, 31, 16⟩
def TE_STLAST_US : Fld := ⟨R.TE_STLAST, 9, 0⟩
def TE_STLAST_PHASE : Fld := ⟨R.TE_STLAST, 12, 10⟩
def TE_OUTCAUSE_SRC : Fld := ⟨R.TE_OUTCAUSE, 4, 0⟩
def TE_OUTCAUSE_VALID : Fld := ⟨R.TE_OUTCAUSE, 5, 5⟩
def TE_FREE_PAGES : Fld := ⟨R.TE_FREE, 6, 0⟩
def TE_FREE_STATE_KIB : Fld := ⟨R.TE_FREE, 25, 16⟩
def TE_FREE_FLAGS : Fld := ⟨R.TE_FREE, 31, 26⟩
def TE_CLR_CLR : Fld := ⟨R.TE_CLR, 0, 0⟩
def TE_LQMAP_ENG (n : Nat) : Fld := ⟨R.TE_LQMAP, 4 * n + 3, 4 * n⟩
def VDU_PLD_CTRL_OP : Fld := ⟨R.VDU_PLD_CTRL, 1, 0⟩
def VDU_PLD_CTRL_CTX : Fld := ⟨R.VDU_PLD_CTRL, 7, 4⟩
def VDU_PLD_CTRL_SBASE : Fld := ⟨R.VDU_PLD_CTRL, 13, 8⟩
def VDU_PLD_ADDR_LO_ADDR : Fld := ⟨R.VDU_PLD_ADDR_LO, 31, 0⟩
def VDU_PLD_ADDR_HI_ADDR : Fld := ⟨R.VDU_PLD_ADDR_HI, 31, 0⟩
def VDU_PLD_LEN_BYTES : Fld := ⟨R.VDU_PLD_LEN, 27, 0⟩
def VDU_PLD_STAT_RESULT : Fld := ⟨R.VDU_PLD_STAT, 3, 0⟩
def VDU_PLD_STAT_REASON : Fld := ⟨R.VDU_PLD_STAT, 8, 4⟩
def VDU_PLD_STAT_DETAIL : Fld := ⟨R.VDU_PLD_STAT, 31, 16⟩
def VDU_PLD_CTXST_STATE : Fld := ⟨R.VDU_PLD_CTXST, 1, 0⟩
def VDU_SCTRL_CTXRST : Fld := ⟨R.VDU_SCTRL, 0, 0⟩
def VDU_SCTRL_ALERT_EN : Fld := ⟨R.VDU_SCTRL, 1, 1⟩
def VDU_SCTRL_RING : Fld := ⟨R.VDU_SCTRL, 10, 8⟩
def VDU_SOMAP_PORT_A : Fld := ⟨R.VDU_SOMAP, 3, 0⟩
def VDU_SOMAP_PORT_B : Fld := ⟨R.VDU_SOMAP, 7, 4⟩
def VDU_SOMAP_QUEUE : Fld := ⟨R.VDU_SOMAP, 10, 8⟩
def VDU_SOMAP_EN : Fld := ⟨R.VDU_SOMAP, 11, 11⟩
def VDU_SOMAP_DATA_ID : Fld := ⟨R.VDU_SOMAP, 31, 16⟩
def VDU_SSTAT_SHED : Fld := ⟨R.VDU_SSTAT, 1, 0⟩
def VDU_SSTAT_OVRCNT : Fld := ⟨R.VDU_SSTAT, 3, 2⟩
def VDU_SSTAT_RSV : Fld := ⟨R.VDU_SSTAT, 13, 4⟩
def VDU_SSTAT_INUSE : Fld := ⟨R.VDU_SSTAT, 23, 14⟩
def VDU_SLAST_LO_RESSEQ : Fld := ⟨R.VDU_SLAST_LO, 31, 0⟩
def VDU_SLAST_HI_RESSEQ : Fld := ⟨R.VDU_SLAST_HI, 31, 0⟩
def VDU_SNVALID_N : Fld := ⟨R.VDU_SNVALID, 31, 0⟩
def VDU_SNINVALID_N : Fld := ⟨R.VDU_SNINVALID, 31, 0⟩
def VDU_SNUNVER_N : Fld := ⟨R.VDU_SNUNVER, 31, 0⟩
def VDU_SNRETR_N : Fld := ⟨R.VDU_SNRETR, 31, 0⟩
def VDU_SNABND_N : Fld := ⟨R.VDU_SNABND, 31, 0⟩
def VDU_SMINMARG_NS : Fld := ⟨R.VDU_SMINMARG, 31, 0⟩
def VDU_SLASTCAUSE_CAUSE : Fld := ⟨R.VDU_SLASTCAUSE, 15, 0⟩
def VDU_SCLR_CLR : Fld := ⟨R.VDU_SCLR, 0, 0⟩
def VDU_RING_BASE_LO_ADDR : Fld := ⟨R.VDU_RING_BASE_LO, 31, 12⟩
def VDU_RING_BASE_HI_ADDR : Fld := ⟨R.VDU_RING_BASE_HI, 31, 0⟩
def VDU_RING_CFG_LOG2N : Fld := ⟨R.VDU_RING_CFG, 4, 0⟩
def VDU_RING_CFG_EN : Fld := ⟨R.VDU_RING_CFG, 5, 5⟩
def VDU_RING_CFG_VEC : Fld := ⟨R.VDU_RING_CFG, 13, 8⟩
def VDU_RING_CFG_MODCNT : Fld := ⟨R.VDU_RING_CFG, 23, 16⟩
def VDU_RING_MOD_US : Fld := ⟨R.VDU_RING_MOD, 15, 0⟩
def VDU_RING_WB_LO_ADDR : Fld := ⟨R.VDU_RING_WB_LO, 31, 3⟩
def VDU_RING_WB_HI_ADDR : Fld := ⟨R.VDU_RING_WB_HI, 31, 0⟩
def VDU_RING_PIDX_N : Fld := ⟨R.VDU_RING_PIDX, 31, 0⟩
def VDU_RING_LOST_N : Fld := ⟨R.VDU_RING_LOST, 31, 0⟩
def VDU_ALERT_VEC : Fld := ⟨R.VDU_ALERT, 5, 0⟩
def VDU_ALERT_EN : Fld := ⟨R.VDU_ALERT, 8, 8⟩
def VDU_HOLD_N : Fld := ⟨R.VDU_HOLD, 8, 0⟩
def VDU_TSNLATE_NS : Fld := ⟨R.VDU_TSNLATE, 31, 0⟩
def VDU_CLR_CLR : Fld := ⟨R.VDU_CLR, 0, 0⟩
def SEM_SSTAT_COUNT : Fld := ⟨R.SEM_SSTAT, 15, 0⟩
def SEM_SSTAT_STATE : Fld := ⟨R.SEM_SSTAT, 17, 16⟩
def SEM_SSTAT_OVF : Fld := ⟨R.SEM_SSTAT, 18, 18⟩
def SEM_SSTAT_REMOTE : Fld := ⟨R.SEM_SSTAT, 19, 19⟩
def SEM_SSTAT_CTX : Fld := ⟨R.SEM_SSTAT, 23, 20⟩
def SEM_SSTAT_NWAIT : Fld := ⟨R.SEM_SSTAT, 31, 24⟩
def SEM_SCMD_INIT : Fld := ⟨R.SEM_SCMD, 0, 0⟩
def SEM_SCMD_ABANDON : Fld := ⟨R.SEM_SCMD, 1, 1⟩
def SEM_SSIG_N : Fld := ⟨R.SEM_SSIG, 31, 0⟩
def SEM_SGRANT_N : Fld := ⟨R.SEM_SGRANT, 31, 0⟩
def SEM_SLAST_SRC : Fld := ⟨R.SEM_SLAST, 3, 0⟩
def SEM_SLAST_DEV : Fld := ⟨R.SEM_SLAST, 9, 4⟩
def SEM_CTXSEL_CTX : Fld := ⟨R.SEM_CTXSEL, 3, 0⟩
def SEM_CTXBASE_PWBASE : Fld := ⟨R.SEM_CTXBASE, 13, 0⟩
def SEM_CTXBASE_BANKBASE : Fld := ⟨R.SEM_CTXBASE, 29, 16⟩
def SEM_CTXSIZE_NSEM : Fld := ⟨R.SEM_CTXSIZE, 14, 0⟩
def SEM_CTXSIZE_BANKSIZE : Fld := ⟨R.SEM_CTXSIZE, 29, 16⟩
def SEM_CTXBANKS_NBANK : Fld := ⟨R.SEM_CTXBANKS, 8, 0⟩
def SEM_CTXBANKS_INUSE : Fld := ⟨R.SEM_CTXBANKS, 24, 16⟩
def SEM_FREE_N : Fld := ⟨R.SEM_FREE, 14, 0⟩
def SEM_MAXEXT_N : Fld := ⟨R.SEM_MAXEXT, 14, 0⟩
def SEM_DLCNT_N : Fld := ⟨R.SEM_DLCNT, 31, 0⟩
def SEM_OVFCNT_N : Fld := ⟨R.SEM_OVFCNT, 31, 0⟩
def SEM_RESCNT_N : Fld := ⟨R.SEM_RESCNT, 31, 0⟩
def SEM_RESLAST_SEM : Fld := ⟨R.SEM_RESLAST, 13, 0⟩
def SEM_ABNDDISC_N : Fld := ⟨R.SEM_ABNDDISC, 31, 0⟩
def SEM_REMREJ_N : Fld := ⟨R.SEM_REMREJ, 31, 0⟩
def SEM_SNAPIDX_IDX : Fld := ⟨R.SEM_SNAPIDX, 6, 0⟩
def SEM_WAITSNAP_SEM : Fld := ⟨R.SEM_WAITSNAP, 13, 0⟩
def SEM_WAITSNAP_ENG : Fld := ⟨R.SEM_WAITSNAP, 16, 14⟩
def SEM_WAITSNAP_LQ : Fld := ⟨R.SEM_WAITSNAP, 22, 17⟩
def SEM_WAITSNAP_BG : Fld := ⟨R.SEM_WAITSNAP, 23, 23⟩
def SEM_WAITSNAP_FLAG : Fld := ⟨R.SEM_WAITSNAP, 24, 24⟩
def SEM_WAITSNAP_VALID : Fld := ⟨R.SEM_WAITSNAP, 31, 31⟩
def SEM_WAITSNAPN_N : Fld := ⟨R.SEM_WAITSNAPN, 15, 0⟩
def SEM_WAITSNAPN_COUNT : Fld := ⟨R.SEM_WAITSNAPN, 31, 16⟩
def SEM_SNAPN_N : Fld := ⟨R.SEM_SNAPN, 7, 0⟩
def SEM_SNAPTIME_NS_NS : Fld := ⟨R.SEM_SNAPTIME_NS, 31, 0⟩
def SEM_SNAPTIME_SEC_LO_SEC : Fld := ⟨R.SEM_SNAPTIME_SEC_LO, 31, 0⟩
def SEM_SNAPTIME_SEC_HI_SEC : Fld := ⟨R.SEM_SNAPTIME_SEC_HI, 15, 0⟩
def SEM_CLR_CLR : Fld := ⟨R.SEM_CLR, 0, 0⟩
def SH_MACS_LO_N : Fld := ⟨R.SH_MACS_LO, 31, 0⟩
def SH_MACS_HI_N : Fld := ⟨R.SH_MACS_HI, 31, 0⟩
def SH_SARJOBS_N : Fld := ⟨R.SH_SARJOBS, 31, 0⟩
def SH_SARABORT_N : Fld := ⟨R.SH_SARABORT, 31, 0⟩
def SH_SARQ_N : Fld := ⟨R.SH_SARQ, 5, 0⟩
def SH_CKSUM_N : Fld := ⟨R.SH_CKSUM, 31, 0⟩
def SH_STCNT_PASS : Fld := ⟨R.SH_STCNT, 15, 0⟩
def SH_STCNT_FAIL : Fld := ⟨R.SH_STCNT, 31, 16⟩
def SH_CLR_CLR : Fld := ⟨R.SH_CLR, 0, 0⟩
def MNT_HOLDLAT_US : Fld := ⟨R.MNT_HOLDLAT, 8, 0⟩
def MNT_HOLDT0_NS_NS : Fld := ⟨R.MNT_HOLDT0_NS, 31, 0⟩
def MNT_HOLDT0_SEC_LO_SEC : Fld := ⟨R.MNT_HOLDT0_SEC_LO, 31, 0⟩
def MNT_HOLDT0_SEC_HI_SEC : Fld := ⟨R.MNT_HOLDT0_SEC_HI, 15, 0⟩
def MNT_HOLDOUT_PORT_A : Fld := ⟨R.MNT_HOLDOUT, 3, 0⟩
def MNT_HOLDOUT_PORT_B : Fld := ⟨R.MNT_HOLDOUT, 7, 4⟩
def MNT_HOLDOUT_QUEUE : Fld := ⟨R.MNT_HOLDOUT, 10, 8⟩
def MNT_HOLDOUT_DATA_ID : Fld := ⟨R.MNT_HOLDOUT, 31, 16⟩
def MNT_HOLDAPPLY_US : Fld := ⟨R.MNT_HOLDAPPLY, 15, 0⟩
def MNT_HOLDMAXF_N : Fld := ⟨R.MNT_HOLDMAXF, 3, 0⟩
def MNT_STPER_MS : Fld := ⟨R.MNT_STPER, 9, 0⟩
def MNT_SLOAD_MMACS : Fld := ⟨R.MNT_SLOAD, 31, 0⟩
def MNT_HANDOVERS_N : Fld := ⟨R.MNT_HANDOVERS, 31, 0⟩
def MNT_HOLAST_NS : Fld := ⟨R.MNT_HOLAST, 15, 0⟩
def MNT_HOLDSTEPS_N : Fld := ⟨R.MNT_HOLDSTEPS, 31, 0⟩
def MNT_HOLDFAILS_N : Fld := ⟨R.MNT_HOLDFAILS, 31, 0⟩
def MNT_ALARMS_N : Fld := ⟨R.MNT_ALARMS, 31, 0⟩
def MNT_CLR_CLR : Fld := ⟨R.MNT_CLR, 0, 0⟩
def MNT_IMG_CTRL_OP : Fld := ⟨R.MNT_IMG_CTRL, 1, 0⟩
def MNT_IMG_ADDR_LO_ADDR : Fld := ⟨R.MNT_IMG_ADDR_LO, 31, 0⟩
def MNT_IMG_ADDR_HI_ADDR : Fld := ⟨R.MNT_IMG_ADDR_HI, 31, 0⟩
def MNT_IMG_LEN_BYTES : Fld := ⟨R.MNT_IMG_LEN, 24, 0⟩
def MNT_IMG_STAT_RESULT : Fld := ⟨R.MNT_IMG_STAT, 3, 0⟩
def MNT_IMG_STAT_REASON : Fld := ⟨R.MNT_IMG_STAT, 8, 4⟩
def MNT_IMG_STAT_DETAIL : Fld := ⟨R.MNT_IMG_STAT, 31, 16⟩
def MNT_IMG_LOADED_VALID : Fld := ⟨R.MNT_IMG_LOADED, 0, 0⟩
def MNT_IMG_LOADED_ROLLBACK : Fld := ⟨R.MNT_IMG_LOADED, 31, 16⟩
def AEU_JCFG_EN : Fld := ⟨R.AEU_JCFG, 0, 0⟩
def AEU_JCFG_PRISM : Fld := ⟨R.AEU_JCFG, 1, 1⟩
def AEU_JCFG_STREAM : Fld := ⟨R.AEU_JCFG, 7, 2⟩
def AEU_JCFG_HOLD : Fld := ⟨R.AEU_JCFG, 8, 8⟩
def AEU_JCFG_ENC_ID : Fld := ⟨R.AEU_JCFG, 31, 16⟩
def AEU_JENC_POSOFF : Fld := ⟨R.AEU_JENC, 15, 0⟩
def AEU_JENC_VELOFF : Fld := ⟨R.AEU_JENC, 31, 16⟩
def AEU_JPMIN_PMIN : Fld := ⟨R.AEU_JPMIN, 31, 0⟩
def AEU_JPMAX_PMAX : Fld := ⟨R.AEU_JPMAX, 31, 0⟩
def AEU_JVMAX_VMAX : Fld := ⟨R.AEU_JVMAX, 31, 0⟩
def AEU_JAMAX_AMAX : Fld := ⟨R.AEU_JAMAX, 31, 0⟩
def AEU_JJMAX_JMAX : Fld := ⟨R.AEU_JJMAX, 31, 0⟩
def AEU_JABRK_ABRK : Fld := ⟨R.AEU_JABRK, 31, 0⟩
def AEU_JTIME_TREACT : Fld := ⟨R.AEU_JTIME, 15, 0⟩
def AEU_JTIME_ENCAGE : Fld := ⟨R.AEU_JTIME, 31, 16⟩
def AEU_JDT_DTMIN : Fld := ⟨R.AEU_JDT, 15, 0⟩
def AEU_JDT_DTMAX : Fld := ⟨R.AEU_JDT, 31, 16⟩
def AEU_JTRK_TRKLIM : Fld := ⟨R.AEU_JTRK, 31, 0⟩
def AEU_JKA_KA : Fld := ⟨R.AEU_JKA, 31, 0⟩
def AEU_JKV_KV : Fld := ⟨R.AEU_JKV, 31, 0⟩
def AEU_JTQMAX_TQMAX : Fld := ⟨R.AEU_JTQMAX, 31, 0⟩
def AEU_JREST_REST_DQ : Fld := ⟨R.AEU_JREST, 15, 0⟩
def AEU_JREST_REST_T : Fld := ⟨R.AEU_JREST, 31, 16⟩
def AEU_JRESTV_REST_V : Fld := ⟨R.AEU_JRESTV, 31, 0⟩
def AEU_JSTAT_CFGBAD : Fld := ⟨R.AEU_JSTAT, 0, 0⟩
def AEU_JSTAT_ENC_OK : Fld := ⟨R.AEU_JSTAT, 1, 1⟩
def AEU_JSTAT_AT_REST : Fld := ⟨R.AEU_JSTAT, 2, 2⟩
def AEU_JSTAT_SEEDED : Fld := ⟨R.AEU_JSTAT, 3, 3⟩
def AEU_JSTAT_FROMHOLD : Fld := ⟨R.AEU_JSTAT, 4, 4⟩
def AEU_JSTAT_LASTREASON : Fld := ⟨R.AEU_JSTAT, 15, 8⟩
def AEU_JLASTP_P : Fld := ⟨R.AEU_JLASTP, 31, 0⟩
def AEU_JMEASP_Q : Fld := ⟨R.AEU_JMEASP, 31, 0⟩
def AEU_JMEASV_V : Fld := ⟨R.AEU_JMEASV, 31, 0⟩
def AEU_JREJ_N : Fld := ⟨R.AEU_JREJ, 31, 0⟩
def AEU_JCMD_RESEED : Fld := ⟨R.AEU_JCMD, 0, 0⟩
def AEU_REST_LO_JOINTS : Fld := ⟨R.AEU_REST_LO, 31, 0⟩
def AEU_REST_HI_JOINTS : Fld := ⟨R.AEU_REST_HI, 31, 0⟩
def AEU_ENCOK_LO_JOINTS : Fld := ⟨R.AEU_ENCOK_LO, 31, 0⟩
def AEU_ENCOK_HI_JOINTS : Fld := ⟨R.AEU_ENCOK_HI, 31, 0⟩
def AEU_JUDGED_N : Fld := ⟨R.AEU_JUDGED, 31, 0⟩
def AEU_REJECTS_N : Fld := ⟨R.AEU_REJECTS, 31, 0⟩
def AEU_LASTREJ_JOINT : Fld := ⟨R.AEU_LASTREJ, 5, 0⟩
def AEU_LASTREJ_STREAM : Fld := ⟨R.AEU_LASTREJ, 11, 6⟩
def AEU_LASTREJ_HOLD : Fld := ⟨R.AEU_LASTREJ, 12, 12⟩
def AEU_LASTREJ_REASON : Fld := ⟨R.AEU_LASTREJ, 23, 16⟩
def AEU_CLR_CLR : Fld := ⟨R.AEU_CLR, 0, 0⟩
def DCI_CFG_TYPE : Fld := ⟨R.DCI_CFG, 1, 0⟩
def DCI_CFG_INTLK : Fld := ⟨R.DCI_CFG, 2, 2⟩
def DCI_CFG_RSTSEL : Fld := ⟨R.DCI_CFG, 7, 3⟩
def DCI_CFG_FILT : Fld := ⟨R.DCI_CFG, 25, 16⟩
def DCI_TD_D : Fld := ⟨R.DCI_TD, 17, 0⟩
def DCI_STAT_STATE : Fld := ⟨R.DCI_STAT, 2, 0⟩
def DCI_STAT_RAWA : Fld := ⟨R.DCI_STAT, 3, 3⟩
def DCI_STAT_RAWB : Fld := ⟨R.DCI_STAT, 4, 4⟩
def DCI_STAT_FILTA : Fld := ⟨R.DCI_STAT, 5, 5⟩
def DCI_STAT_FILTB : Fld := ⟨R.DCI_STAT, 6, 6⟩
def DCI_STAT_DISAG : Fld := ⟨R.DCI_STAT, 7, 7⟩
def DCI_STAT_DTICKS : Fld := ⟨R.DCI_STAT, 25, 8⟩
def DCI_NDEM_N : Fld := ⟨R.DCI_NDEM, 31, 0⟩
def DCI_NDISC_N : Fld := ⟨R.DCI_NDISC, 31, 0⟩
def DCI_SCLR_CLR : Fld := ⟨R.DCI_SCLR, 0, 0⟩
def SBO_CFG_EN : Fld := ⟨R.SBO_CFG, 0, 0⟩
def SBO_CFG_KIND : Fld := ⟨R.SBO_CFG, 1, 1⟩
def SBO_CFG_GROUP : Fld := ⟨R.SBO_CFG, 4, 2⟩
def SBO_CFG_FBKPOL : Fld := ⟨R.SBO_CFG, 5, 5⟩
def SBO_CFG_TPEN : Fld := ⟨R.SBO_CFG, 6, 6⟩
def SBO_CFG_TFB : Fld := ⟨R.SBO_CFG, 15, 8⟩
def SBO_TP_TPPER : Fld := ⟨R.SBO_TP, 9, 0⟩
def SBO_TP_TPW : Fld := ⟨R.SBO_TP, 22, 16⟩
def SBO_BT_JOINT : Fld := ⟨R.SBO_BT, 5, 0⟩
def SBO_BT_BTEN : Fld := ⟨R.SBO_BT, 6, 6⟩
def SBO_BT_BTINT : Fld := ⟨R.SBO_BT, 29, 16⟩
def SBO_STAT_STATE : Fld := ⟨R.SBO_STAT, 1, 0⟩
def SBO_STAT_DRVA : Fld := ⟨R.SBO_STAT, 2, 2⟩
def SBO_STAT_DRVB : Fld := ⟨R.SBO_STAT, 3, 3⟩
def SBO_STAT_RBA : Fld := ⟨R.SBO_STAT, 4, 4⟩
def SBO_STAT_RBB : Fld := ⟨R.SBO_STAT, 5, 5⟩
def SBO_STAT_FBKA : Fld := ⟨R.SBO_STAT, 6, 6⟩
def SBO_STAT_FBKB : Fld := ⟨R.SBO_STAT, 7, 7⟩
def SBO_STAT_DUE : Fld := ⟨R.SBO_STAT, 8, 8⟩
def SBO_STAT_OVERDUE : Fld := ⟨R.SBO_STAT, 9, 9⟩
def SBO_STAT_BTFAILED : Fld := ⟨R.SBO_STAT, 10, 10⟩
def SBO_STAT_LASTFLT : Fld := ⟨R.SBO_STAT, 13, 11⟩
def SBO_BTLAST_SEC_LO_SEC : Fld := ⟨R.SBO_BTLAST_SEC_LO, 31, 0⟩
def SBO_BTLAST_SEC_HI_SEC : Fld := ⟨R.SBO_BTLAST_SEC_HI, 15, 0⟩
def SBO_SCMD_RELATCH : Fld := ⟨R.SBO_SCMD, 0, 0⟩
def SBO_NTRIP_N : Fld := ⟨R.SBO_NTRIP, 31, 0⟩
def SIO_G_DCI_PAIRS : Fld := ⟨R.SIO_G_DCI, 31, 0⟩
def SIO_G_STR_LO_STREAMS : Fld := ⟨R.SIO_G_STR_LO, 31, 0⟩
def SIO_G_STR_HI_STREAMS : Fld := ⟨R.SIO_G_STR_HI, 31, 0⟩
def SIO_G_CTRL_SENT : Fld := ⟨R.SIO_G_CTRL, 7, 0⟩
def SIO_G_CTRL_HOLDOK : Fld := ⟨R.SIO_G_CTRL, 8, 8⟩
def SIO_G_CTRL_AUTORST : Fld := ⟨R.SIO_G_CTRL, 9, 9⟩
def SIO_G_CTRL_EN : Fld := ⟨R.SIO_G_CTRL, 10, 10⟩
def SIO_G_STAT_PERMIT : Fld := ⟨R.SIO_G_STAT, 0, 0⟩
def SIO_G_STAT_ONREQ : Fld := ⟨R.SIO_G_STAT, 1, 1⟩
def SIO_G_STAT_BLOCK : Fld := ⟨R.SIO_G_STAT, 6, 2⟩
def SIO_G_CMD_ON : Fld := ⟨R.SIO_G_CMD, 0, 0⟩
def SIO_G_CMD_OFF : Fld := ⟨R.SIO_G_CMD, 1, 1⟩
def SIO_OUTST_ON : Fld := ⟨R.SIO_OUTST, 23, 0⟩
def SIO_RUNST_RUN : Fld := ⟨R.SIO_RUNST, 31, 0⟩
def SIO_BTCMD_OUT : Fld := ⟨R.SIO_BTCMD, 4, 0⟩
def SIO_BTCMD_START : Fld := ⟨R.SIO_BTCMD, 8, 8⟩
def SIO_BTCMD_ABORT : Fld := ⟨R.SIO_BTCMD, 9, 9⟩
def SIO_BTTIME_HOLD : Fld := ⟨R.SIO_BTTIME, 13, 0⟩
def SIO_BTTIME_SETTLE : Fld := ⟨R.SIO_BTTIME, 25, 16⟩
def SIO_BTTQ_TORQUE : Fld := ⟨R.SIO_BTTQ, 31, 0⟩
def SIO_BTDEV_DEVLIM : Fld := ⟨R.SIO_BTDEV, 31, 0⟩
def SIO_BTFRAME_PORT_A : Fld := ⟨R.SIO_BTFRAME, 3, 0⟩
def SIO_BTFRAME_PORT_B : Fld := ⟨R.SIO_BTFRAME, 7, 4⟩
def SIO_BTFRAME_QUEUE : Fld := ⟨R.SIO_BTFRAME, 10, 8⟩
def SIO_BTFRAME_DATA_ID : Fld := ⟨R.SIO_BTFRAME, 31, 16⟩
def SIO_BTSTAT_STATE : Fld := ⟨R.SIO_BTSTAT, 2, 0⟩
def SIO_BTSTAT_OUT : Fld := ⟨R.SIO_BTSTAT, 7, 3⟩
def SIO_BTSTAT_RESULT : Fld := ⟨R.SIO_BTSTAT, 10, 8⟩
def SIO_BTSTAT_WHY : Fld := ⟨R.SIO_BTSTAT, 14, 11⟩
def SIO_BTMAXDEV_PU : Fld := ⟨R.SIO_BTMAXDEV, 31, 0⟩
def SIO_BTCNT_PASS : Fld := ⟨R.SIO_BTCNT, 15, 0⟩
def SIO_BTCNT_FAIL : Fld := ⟨R.SIO_BTCNT, 31, 16⟩
def FCU_PFLT_BITS : Fld := ⟨R.FCU_PFLT, 31, 0⟩
def FCU_PLVL0_LVL (n : Nat) : Fld := ⟨R.FCU_PLVL0, 2 * n + 1, 2 * n⟩
def FCU_PLVL1_LVL (n : Nat) : Fld := ⟨R.FCU_PLVL1, 2 * n + 1, 2 * n⟩
def FCU_PCNT_N : Fld := ⟨R.FCU_PCNT, 31, 0⟩
def FCU_PESC_N : Fld := ⟨R.FCU_PESC, 31, 0⟩
def FCU_PINJ_PASS : Fld := ⟨R.FCU_PINJ, 15, 0⟩
def FCU_PINJ_SILENT : Fld := ⟨R.FCU_PINJ, 31, 16⟩
def FCU_SUMM_PAGES : Fld := ⟨R.FCU_SUMM, 27, 0⟩
def FCU_SUMU_PAGES : Fld := ⟨R.FCU_SUMU, 27, 0⟩
def FCU_SUMF_PAGES : Fld := ⟨R.FCU_SUMF, 27, 0⟩
def FCU_LAST_PAGE : Fld := ⟨R.FCU_LAST, 4, 0⟩
def FCU_LAST_SRC : Fld := ⟨R.FCU_LAST, 9, 5⟩
def FCU_LAST_LVL : Fld := ⟨R.FCU_LAST, 11, 10⟩
def FCU_LAST_ESC : Fld := ⟨R.FCU_LAST, 12, 12⟩
def FCU_LAST_CHAN : Fld := ⟨R.FCU_LAST, 31, 16⟩
def FCU_LAST_NS_NS : Fld := ⟨R.FCU_LAST_NS, 31, 0⟩
def FCU_LAST_SEC_LO_SEC : Fld := ⟨R.FCU_LAST_SEC_LO, 31, 0⟩
def FCU_LAST_SEC_HI_SEC : Fld := ⟨R.FCU_LAST_SEC_HI, 15, 0⟩
def FCU_FIRSTF_PAGE : Fld := ⟨R.FCU_FIRSTF, 4, 0⟩
def FCU_FIRSTF_SRC : Fld := ⟨R.FCU_FIRSTF, 9, 5⟩
def FCU_FIRSTF_ESC : Fld := ⟨R.FCU_FIRSTF, 12, 12⟩
def FCU_FIRSTF_CORE : Fld := ⟨R.FCU_FIRSTF, 13, 13⟩
def FCU_FIRSTF_VALID : Fld := ⟨R.FCU_FIRSTF, 15, 15⟩
def FCU_FIRSTF_CHAN : Fld := ⟨R.FCU_FIRSTF, 31, 16⟩
def FCU_FIRSTF_NS_NS : Fld := ⟨R.FCU_FIRSTF_NS, 31, 0⟩
def FCU_FIRSTF_SEC_LO_SEC : Fld := ⟨R.FCU_FIRSTF_SEC_LO, 31, 0⟩
def FCU_FIRSTF_SEC_HI_SEC : Fld := ⟨R.FCU_FIRSTF_SEC_HI, 15, 0⟩
def FCU_INJWIN_CYC : Fld := ⟨R.FCU_INJWIN, 9, 0⟩
def FCU_IRQ_VEC : Fld := ⟨R.FCU_IRQ, 5, 0⟩
def FCU_IRQ_CIRQ : Fld := ⟨R.FCU_IRQ, 8, 8⟩
def FCU_INJPASS_N : Fld := ⟨R.FCU_INJPASS, 31, 0⟩
def FCU_CLR_CLR : Fld := ⟨R.FCU_CLR, 0, 0⟩
def FCU_CLR_CLRFIRST : Fld := ⟨R.FCU_CLR, 1, 1⟩
def SSC_SCFG_MODE : Fld := ⟨R.SSC_SCFG, 1, 0⟩
def SSC_SCFG_MARKCLR : Fld := ⟨R.SSC_SCFG, 15, 8⟩
def SSC_SSTAT_RSTATE : Fld := ⟨R.SSC_SSTAT, 1, 0⟩
def SSC_SSTAT_OK : Fld := ⟨R.SSC_SSTAT, 2, 2⟩
def SSC_SSTAT_EFFRST : Fld := ⟨R.SSC_SSTAT, 3, 3⟩
def SSC_SSTAT_VCNT : Fld := ⟨R.SSC_SSTAT, 15, 8⟩
def SSC_SNTRIG_N : Fld := ⟨R.SSC_SNTRIG, 31, 0⟩
def SSC_CLSMODE_A : Fld := ⟨R.SSC_CLSMODE, 1, 0⟩
def SSC_CLSMODE_B : Fld := ⟨R.SSC_CLSMODE, 3, 2⟩
def SSC_CLSMODE_C : Fld := ⟨R.SSC_CLSMODE, 5, 4⟩
def SSC_TRESTART_MS : Fld := ⟨R.SSC_TRESTART, 12, 0⟩
def SSC_REL_KEY : Fld := ⟨R.SSC_REL, 7, 0⟩
def SSC_CICADA_HALF : Fld := ⟨R.SSC_CICADA, 11, 0⟩
def SSC_RSTLAST_US : Fld := ⟨R.SSC_RSTLAST, 31, 0⟩
def SSC_RSTCNT_N : Fld := ⟨R.SSC_RSTCNT, 31, 0⟩
def SSC_RELCNT_N : Fld := ⟨R.SSC_RELCNT, 31, 0⟩
def SSC_CLR_CLR : Fld := ⟨R.SSC_CLR, 0, 0⟩
def ACB_CCFG_TIMEOUT_US : Fld := ⟨R.ACB_CCFG, 23, 0⟩
def ACB_CCFG_EN : Fld := ⟨R.ACB_CCFG, 31, 31⟩
def ACB_COPEN_N : Fld := ⟨R.ACB_COPEN, 10, 0⟩
def ACB_CHANG_N : Fld := ⟨R.ACB_CHANG, 31, 0⟩
def ACB_CMAX_US : Fld := ⟨R.ACB_CMAX, 31, 0⟩
def ACB_CCLR_CLR : Fld := ⟨R.ACB_CCLR, 0, 0⟩
def ACB_NOPEN_N : Fld := ⟨R.ACB_NOPEN, 10, 0⟩
def ACB_RSTHOLD_US : Fld := ⟨R.ACB_RSTHOLD, 13, 0⟩
def ACB_RSTLONG_MS : Fld := ⟨R.ACB_RSTLONG, 9, 0⟩
def ACB_RDYTO_MS : Fld := ⟨R.ACB_RDYTO, 12, 0⟩
def ACB_RDYTOF_MS : Fld := ⟨R.ACB_RDYTOF, 12, 0⟩
def ACB_RPLTO_MS : Fld := ⟨R.ACB_RPLTO, 12, 0⟩
def ACB_RHSTRIDE_N : Fld := ⟨R.ACB_RHSTRIDE, 15, 0⟩
def ACB_RHOFF_N : Fld := ⟨R.ACB_RHOFF, 15, 0⟩
def ACB_RHN_N : Fld := ⟨R.ACB_RHN, 31, 0⟩
def ACB_RPLMODE_LO_MODE : Fld := ⟨R.ACB_RPLMODE_LO, 31, 0⟩
def ACB_RPLMODE_HI_MODE : Fld := ⟨R.ACB_RPLMODE_HI, 31, 0⟩
def ACB_RCMD_REPLAY_DONE : Fld := ⟨R.ACB_RCMD, 0, 0⟩
def ACB_RCMD_CLRSKIP : Fld := ⟨R.ACB_RCMD, 1, 1⟩
def ACB_RCMD_CLRRELOAD : Fld := ⟨R.ACB_RCMD, 2, 2⟩
def ACB_RCNT_N : Fld := ⟨R.ACB_RCNT, 31, 0⟩
def ACB_LEDIDX_IDX : Fld := ⟨R.ACB_LEDIDX, 2, 0⟩
def ACB_LED0_ATT : Fld := ⟨R.ACB_LED0, 31, 0⟩
def ACB_LED1_STEP : Fld := ⟨R.ACB_LED1, 2, 0⟩
def ACB_LED1_OUTCOME : Fld := ⟨R.ACB_LED1, 5, 3⟩
def ACB_LED1_VARIANT : Fld := ⟨R.ACB_LED1, 9, 6⟩
def ACB_LED1_CAUSE : Fld := ⟨R.ACB_LED1, 14, 10⟩
def ACB_LED1_STREAM : Fld := ⟨R.ACB_LED1, 20, 15⟩
def ACB_LED1_VALID : Fld := ⟨R.ACB_LED1, 31, 31⟩
def ACB_LED_NS_NS : Fld := ⟨R.ACB_LED_NS, 31, 0⟩
def ACB_LED_SEC_LO_SEC : Fld := ⟨R.ACB_LED_SEC_LO, 31, 0⟩
def ACB_LED_DUR_US : Fld := ⟨R.ACB_LED_DUR, 31, 0⟩
def ACB_NDISC_N : Fld := ⟨R.ACB_NDISC, 31, 0⟩
def ACB_CLR_CLR : Fld := ⟨R.ACB_CLR, 0, 0⟩
def TBU_NOW_FNS_FNS : Fld := ⟨R.TBU_NOW_FNS, 15, 0⟩
def TBU_NOW_NS_NS : Fld := ⟨R.TBU_NOW_NS, 31, 0⟩
def TBU_NOW_SEC_LO_SEC : Fld := ⟨R.TBU_NOW_SEC_LO, 31, 0⟩
def TBU_NOW_SEC_HI_SEC : Fld := ⟨R.TBU_NOW_SEC_HI, 15, 0⟩
def TBU_RATE_RATE : Fld := ⟨R.TBU_RATE, 31, 0⟩
def TBU_STEP_NS_NS : Fld := ⟨R.TBU_STEP_NS, 31, 0⟩
def TBU_STEP_SEC_SEC : Fld := ⟨R.TBU_STEP_SEC, 31, 0⟩
def TBU_CMD_STEP : Fld := ⟨R.TBU_CMD, 0, 0⟩
def TBU_STEPMAX_NS : Fld := ⟨R.TBU_STEPMAX, 31, 0⟩
def TBU_SRV_KP : Fld := ⟨R.TBU_SRV, 3, 0⟩
def TBU_SRV_KI : Fld := ⟨R.TBU_SRV, 7, 4⟩
def TBU_SRV_SRVSTEP : Fld := ⟨R.TBU_SRV, 23, 8⟩
def TBU_LOCKTHR_NS : Fld := ⟨R.TBU_LOCKTHR, 15, 0⟩
def TBU_OFFSET_NS : Fld := ⟨R.TBU_OFFSET, 31, 0⟩
def TBU_INTEG_I : Fld := ⟨R.TBU_INTEG, 31, 0⟩
def TBU_NSTEP_N : Fld := ⟨R.TBU_NSTEP, 31, 0⟩
def TBU_CLR_CLR : Fld := ⟨R.TBU_CLR, 0, 0⟩
def TSN_PCFG_EN : Fld := ⟨R.TSN_PCFG, 0, 0⟩
def TSN_PCFG_SPEED : Fld := ⟨R.TSN_PCFG, 2, 1⟩
def TSN_PCFG_IF : Fld := ⟨R.TSN_PCFG, 3, 3⟩
def TSN_PCFG_CUT : Fld := ⟨R.TSN_PCFG, 4, 4⟩
def TSN_PCFG_GATE_EN : Fld := ⟨R.TSN_PCFG, 5, 5⟩
def TSN_PCFG_PTPROLE : Fld := ⟨R.TSN_PCFG, 7, 6⟩
def TSN_PCFG_TC : Fld := ⟨R.TSN_PCFG, 8, 8⟩
def TSN_PCFG_PVID : Fld := ⟨R.TSN_PCFG, 27, 16⟩
def TSN_PCFG_PPCP : Fld := ⟨R.TSN_PCFG, 30, 28⟩
def TSN_PMAC_LO_MAC : Fld := ⟨R.TSN_PMAC_LO, 31, 0⟩
def TSN_PMAC_HI_MAC : Fld := ⟨R.TSN_PMAC_HI, 15, 0⟩
def TSN_PLAT_RXLAT : Fld := ⟨R.TSN_PLAT, 15, 0⟩
def TSN_PLAT_TXLAT : Fld := ⟨R.TSN_PLAT, 31, 16⟩
def TSN_PCYC_NS : Fld := ⟨R.TSN_PCYC, 29, 0⟩
def TSN_PBASE_NS_NS : Fld := ⟨R.TSN_PBASE_NS, 31, 0⟩
def TSN_PBASE_SEC_LO_SEC : Fld := ⟨R.TSN_PBASE_SEC_LO, 31, 0⟩
def TSN_PBASE_SEC_HI_SEC : Fld := ⟨R.TSN_PBASE_SEC_HI, 15, 0⟩
def TSN_PGLEN_NGCL : Fld := ⟨R.TSN_PGLEN, 7, 0⟩
def TSN_PSYNC_LOGSYNC : Fld := ⟨R.TSN_PSYNC, 7, 0⟩
def TSN_PSYNC_LOGPDELAY : Fld := ⟨R.TSN_PSYNC, 15, 8⟩
def TSN_PTCMAP_TC (n : Nat) : Fld := ⟨R.TSN_PTCMAP, 3 * n + 2, 3 * n⟩
def TSN_PMAXLEN_BYTES : Fld := ⟨R.TSN_PMAXLEN, 13, 0⟩
def TSN_PLTLIM_NS : Fld := ⟨R.TSN_PLTLIM, 15, 0⟩
def TSN_PDELAY_NS : Fld := ⟨R.TSN_PDELAY, 31, 0⟩
def TSN_PRR_RR : Fld := ⟨R.TSN_PRR, 31, 0⟩
def TSN_PPSTAT_ASCAP : Fld := ⟨R.TSN_PPSTAT, 0, 0⟩
def TSN_PPSTAT_LINKUP : Fld := ⟨R.TSN_PPSTAT, 1, 1⟩
def TSN_PRX_N : Fld := ⟨R.TSN_PRX, 31, 0⟩
def TSN_PTX_N : Fld := ⟨R.TSN_PTX, 31, 0⟩
def TSN_PDROP_N : Fld := ⟨R.TSN_PDROP, 31, 0⟩
def TSN_PLTD_N : Fld := ⟨R.TSN_PLTD, 31, 0⟩
def TSN_PCLR_CLR : Fld := ⟨R.TSN_PCLR, 0, 0⟩
def TSN_GCL_GATES : Fld := ⟨R.TSN_GCL, 7, 0⟩
def TSN_GCL_INTERVAL : Fld := ⟨R.TSN_GCL, 31, 8⟩
def TSN_GCFG_GUARDET : Fld := ⟨R.TSN_GCFG, 15, 0⟩
def TSN_GCFG_DOMAIN : Fld := ⟨R.TSN_GCFG, 22, 16⟩
def TSN_GCFG_P2P : Fld := ⟨R.TSN_GCFG, 24, 24⟩
def TSN_GCFG_GM : Fld := ⟨R.TSN_GCFG, 25, 25⟩
def TSN_PDTHR_NS : Fld := ⟨R.TSN_PDTHR, 15, 0⟩
def TSN_FDBMISS_N : Fld := ⟨R.TSN_FDBMISS, 31, 0⟩
def TSN_TCSKIP_N : Fld := ⟨R.TSN_TCSKIP, 31, 0⟩
def TSN_CLR_CLR : Fld := ⟨R.TSN_CLR, 0, 0⟩
def TSN_FDB_MACLO_MAC : Fld := ⟨R.TSN_FDB_MACLO, 31, 0⟩
def TSN_FDB_MACHI_MAC : Fld := ⟨R.TSN_FDB_MACHI, 15, 0⟩
def TSN_FDB_MACHI_VID : Fld := ⟨R.TSN_FDB_MACHI, 27, 16⟩
def TSN_FDB_MACHI_VALID : Fld := ⟨R.TSN_FDB_MACHI, 31, 31⟩
def TSN_FDB_FWD_PORTS : Fld := ⟨R.TSN_FDB_FWD, 11, 0⟩
def TSN_FDB_FWD_GUARD : Fld := ⟨R.TSN_FDB_FWD, 12, 12⟩
def TSN_FDB_FWD_SFI : Fld := ⟨R.TSN_FDB_FWD, 23, 16⟩
def TSN_SF_CFG_MAXSDU : Fld := ⟨R.TSN_SF_CFG, 13, 0⟩
def TSN_SF_CFG_GATE : Fld := ⟨R.TSN_SF_CFG, 20, 16⟩
def TSN_SF_CFG_METER : Fld := ⟨R.TSN_SF_CFG, 27, 21⟩
def TSN_SF_CFG_BLOCKED : Fld := ⟨R.TSN_SF_CFG, 30, 30⟩
def TSN_SF_CFG_BLOCKOVS : Fld := ⟨R.TSN_SF_CFG, 31, 31⟩
def TSN_SF_PASS_N : Fld := ⟨R.TSN_SF_PASS, 31, 0⟩
def TSN_SF_DROP_N : Fld := ⟨R.TSN_SF_DROP, 31, 0⟩
def TSN_SF_CMD_UNBLOCK : Fld := ⟨R.TSN_SF_CMD, 0, 0⟩
def TSN_SG_CTRL_NENT : Fld := ⟨R.TSN_SG_CTRL, 5, 0⟩
def TSN_SG_CTRL_EN : Fld := ⟨R.TSN_SG_CTRL, 8, 8⟩
def TSN_SG_CTRL_CLOSEDINV : Fld := ⟨R.TSN_SG_CTRL, 9, 9⟩
def TSN_SG_CYC_NS : Fld := ⟨R.TSN_SG_CYC, 29, 0⟩
def TSN_SG_BASE_NS_NS : Fld := ⟨R.TSN_SG_BASE_NS, 31, 0⟩
def TSN_SG_BASE_SEC_LO_SEC : Fld := ⟨R.TSN_SG_BASE_SEC_LO, 31, 0⟩
def TSN_SG_BASE_SEC_HI_SEC : Fld := ⟨R.TSN_SG_BASE_SEC_HI, 15, 0⟩
def TSN_SG_E_OPEN : Fld := ⟨R.TSN_SG_E, 0, 0⟩
def TSN_SG_E_IPV : Fld := ⟨R.TSN_SG_E, 4, 1⟩
def TSN_SG_E_INTERVAL : Fld := ⟨R.TSN_SG_E, 31, 8⟩
def TSN_FM_CIR_KBPS : Fld := ⟨R.TSN_FM_CIR, 31, 0⟩
def TSN_FM_CBS_BYTES : Fld := ⟨R.TSN_FM_CBS, 23, 0⟩
def TSN_FM_CBS_DROPYELLOW : Fld := ⟨R.TSN_FM_CBS, 31, 31⟩
def TSN_FM_EIR_KBPS : Fld := ⟨R.TSN_FM_EIR, 31, 0⟩
def TSN_FM_EBS_BYTES : Fld := ⟨R.TSN_FM_EBS, 23, 0⟩
def CVU_CFG_ALG : Fld := ⟨R.CVU_CFG, 1, 0⟩
def CVU_CFG_TAGORD : Fld := ⟨R.CVU_CFG, 2, 2⟩
def CVU_CFG_MODE : Fld := ⟨R.CVU_CFG, 3, 3⟩
def CVU_CFG_BRIDGE : Fld := ⟨R.CVU_CFG, 8, 8⟩
def CVU_TAG_LO_TAG : Fld := ⟨R.CVU_TAG_LO, 31, 0⟩
def CVU_TAG_HI_TAG : Fld := ⟨R.CVU_TAG_HI, 31, 0⟩
def CVU_CMD_START : Fld := ⟨R.CVU_CMD, 0, 0⟩
def CVU_CMD_FINISH : Fld := ⟨R.CVU_CMD, 1, 1⟩
def CVU_DATA_DATA : Fld := ⟨R.CVU_DATA, 31, 0⟩
def CVU_DATAB_DATA : Fld := ⟨R.CVU_DATAB, 7, 0⟩
def CVU_RUN_LO_RUN : Fld := ⟨R.CVU_RUN_LO, 31, 0⟩
def CVU_RUN_HI_RUN : Fld := ⟨R.CVU_RUN_HI, 31, 0⟩
def CVU_RES_LO_RES : Fld := ⟨R.CVU_RES_LO, 31, 0⟩
def CVU_RES_HI_RES : Fld := ⟨R.CVU_RES_HI, 31, 0⟩
def CVU_USTAT_DONE : Fld := ⟨R.CVU_USTAT, 0, 0⟩
def CVU_USTAT_MATCH : Fld := ⟨R.CVU_USTAT, 1, 1⟩
def CVU_NFRM_N : Fld := ⟨R.CVU_NFRM, 31, 0⟩
def CVU_NFAIL_N : Fld := ⟨R.CVU_NFAIL, 31, 0⟩
def CVU_GT_CFG_DATA_ID : Fld := ⟨R.CVU_GT_CFG, 15, 0⟩
def CVU_GT_CFG_VALID : Fld := ⟨R.CVU_GT_CFG, 16, 16⟩
def CVU_GT_CFG_DIR : Fld := ⟨R.CVU_GT_CFG, 17, 17⟩
def CVU_GT_CFG_ALG : Fld := ⟨R.CVU_GT_CFG, 19, 18⟩
def CVU_GT_CFG_RTAG : Fld := ⟨R.CVU_GT_CFG, 20, 20⟩
def CVU_GT_PORT_PORTS : Fld := ⟨R.CVU_GT_PORT, 11, 0⟩
def CVU_GT_PORT_LEN : Fld := ⟨R.CVU_GT_PORT, 29, 16⟩
def CVU_GT_CB_TSSKEW : Fld := ⟨R.CVU_GT_CB, 19, 0⟩
def CVU_GT_CB_CBHIST : Fld := ⟨R.CVU_GT_CB, 25, 20⟩
def CVU_GT_TX_CBRST : Fld := ⟨R.CVU_GT_TX, 15, 0⟩
def CVU_GT_TX_VID : Fld := ⟨R.CVU_GT_TX, 27, 16⟩
def CVU_GT_TX_PCP : Fld := ⟨R.CVU_GT_TX, 30, 28⟩
def CVU_GT_DMAC_LO_MAC : Fld := ⟨R.CVU_GT_DMAC_LO, 31, 0⟩
def CVU_GT_DMAC_HI_MAC : Fld := ⟨R.CVU_GT_DMAC_HI, 15, 0⟩
def CVU_GT_FCNT_FCNT : Fld := ⟨R.CVU_GT_FCNT, 31, 0⟩
def CVU_GT_CNT_NGAP : Fld := ⟨R.CVU_GT_CNT, 15, 0⟩
def CVU_GT_CNT_NFAIL : Fld := ⟨R.CVU_GT_CNT, 31, 16⟩
def REED_PCFG_EN : Fld := ⟨R.REED_PCFG, 0, 0⟩
def REED_PCFG_ALLOWX2 : Fld := ⟨R.REED_PCFG, 1, 1⟩
def REED_PSTAT_LSTATE : Fld := ⟨R.REED_PSTAT, 2, 0⟩
def REED_PSTAT_X2 : Fld := ⟨R.REED_PSTAT, 3, 3⟩
def REED_PSTAT_NBRDEV : Fld := ⟨R.REED_PSTAT, 9, 4⟩
def REED_PSTAT_NBRVALID : Fld := ⟨R.REED_PSTAT, 10, 10⟩
def REED_PDELAY_PS : Fld := ⟨R.REED_PDELAY, 31, 0⟩
def REED_PTX_LO_N : Fld := ⟨R.REED_PTX_LO, 31, 0⟩
def REED_PTX_HI_N : Fld := ⟨R.REED_PTX_HI, 31, 0⟩
def REED_PRX_LO_N : Fld := ⟨R.REED_PRX_LO, 31, 0⟩
def REED_PRX_HI_N : Fld := ⟨R.REED_PRX_HI, 31, 0⟩
def REED_PCRC_N : Fld := ⟨R.REED_PCRC, 31, 0⟩
def REED_PREPLAY_N : Fld := ⟨R.REED_PREPLAY, 31, 0⟩
def REED_PRETRAIN_N : Fld := ⟨R.REED_PRETRAIN, 31, 0⟩
def REED_PCLR_CLR : Fld := ⟨R.REED_PCLR, 0, 0⟩
def REED_GCFG_DEV : Fld := ⟨R.REED_GCFG, 5, 0⟩
def REED_GCFG_TOPO : Fld := ⟨R.REED_GCFG, 7, 6⟩
def REED_GCFG_NDEV : Fld := ⟨R.REED_GCFG, 14, 8⟩
def REED_GCFG_W : Fld := ⟨R.REED_GCFG, 19, 16⟩
def REED_GCFG_TUP : Fld := ⟨R.REED_GCFG, 23, 20⟩
def REED_AUDCFG_AUDFRAC : Fld := ⟨R.REED_AUDCFG, 1, 0⟩
def REED_AUDCFG_AUD_TGT : Fld := ⟨R.REED_AUDCFG, 13, 8⟩
def REED_AUDCFG_AUD_SRC : Fld := ⟨R.REED_AUDCFG, 21, 16⟩
def REED_AUDCFG_AUD_EN : Fld := ⟨R.REED_AUDCFG, 24, 24⟩
def REED_AUDRSV_LANE_MOPS : Fld := ⟨R.REED_AUDRSV_LANE, 31, 0⟩
def REED_AUDRSV_VEC_MSLOTS : Fld := ⟨R.REED_AUDRSV_VEC, 31, 0⟩
def REED_AUDRSV_DRAM_MBPS : Fld := ⟨R.REED_AUDRSV_DRAM, 31, 0⟩
def REED_TPER_US : Fld := ⟨R.REED_TPER, 13, 0⟩
def REED_TROOT_ROOT : Fld := ⟨R.REED_TROOT, 5, 0⟩
def REED_TROOT_DEPTH : Fld := ⟨R.REED_TROOT, 11, 8⟩
def REED_TROOT_VALID : Fld := ⟨R.REED_TROOT, 31, 31⟩
def REED_TOFF_PS : Fld := ⟨R.REED_TOFF, 31, 0⟩
def REED_XPEND_N : Fld := ⟨R.REED_XPEND, 12, 0⟩
def REED_XORPH_N : Fld := ⟨R.REED_XORPH, 31, 0⟩
def REED_XDROP_N : Fld := ⟨R.REED_XDROP, 31, 0⟩
def REED_AUDN_N : Fld := ⟨R.REED_AUDN, 31, 0⟩
def REED_AUDND_N : Fld := ⟨R.REED_AUDND, 31, 0⟩
def REED_AUDSKIP_N : Fld := ⟨R.REED_AUDSKIP, 31, 0⟩
def REED_CLR_CLR : Fld := ⟨R.REED_CLR, 0, 0⟩
def KCU_LIFE_LC : Fld := ⟨R.KCU_LIFE, 1, 0⟩
def KCU_LIFE_DBGOPEN : Fld := ⟨R.KCU_LIFE, 2, 2⟩
def KCU_LIFE_PUFOK : Fld := ⟨R.KCU_LIFE, 3, 3⟩
def KCU_OSLOT_SLOT (n : Nat) : Fld := ⟨R.KCU_OSLOT, 4 * n + 2, 4 * n⟩
def KCU_ARB0_CNT : Fld := ⟨R.KCU_ARB0, 31, 0⟩
def KCU_ARB1_CNT : Fld := ⟨R.KCU_ARB1, 7, 0⟩
def KCU_ARBADV_CTR : Fld := ⟨R.KCU_ARBADV, 2, 0⟩
def KCU_ARBADV_VALUE : Fld := ⟨R.KCU_ARBADV, 15, 8⟩
def KCU_ARBADV_GO : Fld := ⟨R.KCU_ARBADV, 31, 31⟩
def KCU_KADDR_LO_ADDR : Fld := ⟨R.KCU_KADDR_LO, 31, 0⟩
def KCU_KADDR_HI_ADDR : Fld := ⟨R.KCU_KADDR_HI, 31, 0⟩
def KCU_KCMD_OP : Fld := ⟨R.KCU_KCMD, 2, 0⟩
def KCU_KCMD_SLOT : Fld := ⟨R.KCU_KCMD, 5, 4⟩
def KCU_KCMD_SESS : Fld := ⟨R.KCU_KCMD, 10, 8⟩
def KCU_KSTAT_RESULT : Fld := ⟨R.KCU_KSTAT, 2, 0⟩
def KCU_HSADDR_LO_ADDR : Fld := ⟨R.KCU_HSADDR_LO, 31, 12⟩
def KCU_HSADDR_HI_ADDR : Fld := ⟨R.KCU_HSADDR_HI, 31, 0⟩
def KCU_HSCMD_SESS : Fld := ⟨R.KCU_HSCMD, 2, 0⟩
def KCU_HSCMD_START : Fld := ⟨R.KCU_HSCMD, 8, 8⟩
def KCU_HSCMD_RESP : Fld := ⟨R.KCU_HSCMD, 9, 9⟩
def KCU_HSCMD_DROP : Fld := ⟨R.KCU_HSCMD, 10, 10⟩
def KCU_SESSST_STATE (n : Nat) : Fld := ⟨R.KCU_SESSST, 2 * n + 1, 2 * n⟩
def KCU_SESSACT_MS : Fld := ⟨R.KCU_SESSACT, 9, 0⟩
def KCU_STRSESS_SESS (n : Nat) : Fld := ⟨R.KCU_STRSESS, 4 * n + 2, 4 * n⟩
def KCU_HVKEY_KEY : Fld := ⟨R.KCU_HVKEY, 31, 0⟩
def KCU_HVSTAT_AVAIL : Fld := ⟨R.KCU_HVSTAT, 0, 0⟩
def KCU_QADDR_LO_ADDR : Fld := ⟨R.KCU_QADDR_LO, 31, 6⟩
def KCU_QADDR_HI_ADDR : Fld := ⟨R.KCU_QADDR_HI, 31, 0⟩
def KCU_QNONCE_NONCE : Fld := ⟨R.KCU_QNONCE, 31, 0⟩
def KCU_QCMD_GO : Fld := ⟨R.KCU_QCMD, 0, 0⟩
def KCU_NRESEED_N : Fld := ⟨R.KCU_NRESEED, 31, 0⟩
def KCU_NTAG_LO_N : Fld := ⟨R.KCU_NTAG_LO, 31, 0⟩
def KCU_NTAG_HI_N : Fld := ⟨R.KCU_NTAG_HI, 31, 0⟩
def KCU_CLR_CLR : Fld := ⟨R.KCU_CLR, 0, 0⟩
def CLK_DSTAT_DIV : Fld := ⟨R.CLK_DSTAT, 2, 0⟩
def CLK_DSTAT_MHZ : Fld := ⟨R.CLK_DSTAT, 13, 3⟩
def CLK_DSTAT_RUN : Fld := ⟨R.CLK_DSTAT, 14, 14⟩
def CLK_DSTAT_GATED : Fld := ⟨R.CLK_DSTAT, 15, 15⟩
def CLK_DSTAT_PSTOP : Fld := ⟨R.CLK_DSTAT, 16, 16⟩
def CLK_DSTAT_MONFAIL : Fld := ⟨R.CLK_DSTAT, 17, 17⟩
def CLK_DCNT_N : Fld := ⟨R.CLK_DCNT, 15, 0⟩
def CLK_PWR_REQ : Fld := ⟨R.CLK_PWR, 1, 0⟩
def CLK_PWR_STATE : Fld := ⟨R.CLK_PWR, 9, 8⟩
def CLK_PWR_BUSY : Fld := ⟨R.CLK_PWR, 16, 16⟩
def CLK_PEST_MW : Fld := ⟨R.CLK_PEST, 15, 0⟩
def CLK_BURSTMS_MS : Fld := ⟨R.CLK_BURSTMS, 12, 0⟩
def CLK_TMAX_T : Fld := ⟨R.CLK_TMAX, 11, 0⟩
def CLK_TS_T : Fld := ⟨R.CLK_TS, 11, 0⟩
def CLK_TS_VALID : Fld := ⟨R.CLK_TS, 12, 12⟩
def CLK_TS_EXCL : Fld := ⟨R.CLK_TS, 13, 13⟩
def CLK_THMAX_T : Fld := ⟨R.CLK_THMAX, 11, 0⟩
def CLK_NCAP_N : Fld := ⟨R.CLK_NCAP, 31, 0⟩
def CLK_CLR_CLR : Fld := ⟨R.CLK_CLR, 0, 0⟩
def MNA_SRAMPER_S : Fld := ⟨R.MNA_SRAMPER, 9, 0⟩
def MNA_DRAMPER_S : Fld := ⟨R.MNA_DRAMPER, 16, 0⟩
def MNA_DRAMBUD_GBPS : Fld := ⟨R.MNA_DRAMBUD, 7, 0⟩
def MNA_RKLANE_MOPS : Fld := ⟨R.MNA_RKLANE, 31, 0⟩
def MNA_RKDRAM_MBPS : Fld := ⟨R.MNA_RKDRAM, 15, 0⟩
def MNA_GRANT_ACT : Fld := ⟨R.MNA_GRANT, 6, 0⟩
def MNA_REQ_ACT : Fld := ⟨R.MNA_REQ, 6, 0⟩
def MNA_BGL_MOPS : Fld := ⟨R.MNA_BGL, 31, 0⟩
def MNA_DRB_MBPS : Fld := ⟨R.MNA_DRB, 15, 0⟩
def MNA_SRAMPROG_PCT : Fld := ⟨R.MNA_SRAMPROG, 7, 0⟩
def MNA_SRAMPROG_PASSES : Fld := ⟨R.MNA_SRAMPROG, 31, 16⟩
def MNA_DRAMPROG_PCT : Fld := ⟨R.MNA_DRAMPROG, 7, 0⟩
def MNA_DRAMPROG_PASSES : Fld := ⟨R.MNA_DRAMPROG, 31, 16⟩
def MNA_DEFER_N : Fld := ⟨R.MNA_DEFER, 31, 0⟩
def MNA_CMPPOS_SHGRP : Fld := ⟨R.MNA_CMPPOS, 3, 0⟩
def MNA_CMPPOS_BLK : Fld := ⟨R.MNA_CMPPOS, 11, 8⟩
def MNA_CLR_CLR : Fld := ⟨R.MNA_CLR, 0, 0⟩
def BOOT_CAUSE_CAUSE : Fld := ⟨R.BOOT_CAUSE, 2, 0⟩
def BOOT_WRST_KEY : Fld := ⟨R.BOOT_WRST, 7, 0⟩
def BOOT_VAR_VAR : Fld := ⟨R.BOOT_VAR, 4, 0⟩
def BOOT_CMD_CLRVAR : Fld := ⟨R.BOOT_CMD, 0, 0⟩
def BOOT_ATT_LO_N : Fld := ⟨R.BOOT_ATT_LO, 31, 0⟩
def BOOT_ATT_HI_N : Fld := ⟨R.BOOT_ATT_HI, 31, 0⟩
def BOOT_READYT_US : Fld := ⟨R.BOOT_READYT, 31, 0⟩
def BOOT_NREPAIR_N : Fld := ⟨R.BOOT_NREPAIR, 12, 0⟩
def BOOT_IMGROLL_ROLLBACK : Fld := ⟨R.BOOT_IMGROLL, 31, 0⟩
def BOOT_LED_WORD : Fld := ⟨R.BOOT_LED, 31, 0⟩
def ERC_HEAD_LO_ESEQ : Fld := ⟨R.ERC_HEAD_LO, 31, 0⟩
def ERC_HEAD_HI_ESEQ : Fld := ⟨R.ERC_HEAD_HI, 31, 0⟩
def ERC_IDX_LO_ESEQ : Fld := ⟨R.ERC_IDX_LO, 31, 0⟩
def ERC_IDX_HI_ESEQ : Fld := ⟨R.ERC_IDX_HI, 31, 0⟩
def ERC_RSTAT_MATCH : Fld := ⟨R.ERC_RSTAT, 0, 0⟩
def ERC_RSTAT_SNAP : Fld := ⟨R.ERC_RSTAT, 1, 1⟩
def ERC_RSTAT_BUSY : Fld := ⟨R.ERC_RSTAT, 2, 2⟩
def ERC_RSTAT_UE : Fld := ⟨R.ERC_RSTAT, 3, 3⟩
def ERC_REC_WORD : Fld := ⟨R.ERC_REC, 31, 0⟩
def ERC_ANN_DATA : Fld := ⟨R.ERC_ANN, 31, 0⟩
def ERC_ANNCMD_APPEND : Fld := ⟨R.ERC_ANNCMD, 0, 0⟩
def ERC_ANNCMD_REPLACE : Fld := ⟨R.ERC_ANNCMD, 1, 1⟩
def ERC_DROP_N : Fld := ⟨R.ERC_DROP, 31, 0⟩
def ERC_RING_BASE_LO_ADDR : Fld := ⟨R.ERC_RING_BASE_LO, 31, 12⟩
def ERC_RING_BASE_HI_ADDR : Fld := ⟨R.ERC_RING_BASE_HI, 31, 0⟩
def ERC_RINGCFG_LOG2N : Fld := ⟨R.ERC_RINGCFG, 4, 0⟩
def ERC_RINGCFG_EN : Fld := ⟨R.ERC_RINGCFG, 5, 5⟩
def ERC_RINGCFG_VEC : Fld := ⟨R.ERC_RINGCFG, 13, 8⟩
def ERC_RINGCFG_MODCNT : Fld := ⟨R.ERC_RINGCFG, 23, 16⟩
def ERC_RINGCFG_MINLVL : Fld := ⟨R.ERC_RINGCFG, 25, 24⟩
def ERC_RINGMOD_US : Fld := ⟨R.ERC_RINGMOD, 15, 0⟩
def ERC_RINGWB_LO_ADDR : Fld := ⟨R.ERC_RINGWB_LO, 31, 3⟩
def ERC_RINGWB_HI_ADDR : Fld := ⟨R.ERC_RINGWB_HI, 31, 0⟩
def ERC_RPIDX_N : Fld := ⟨R.ERC_RPIDX, 31, 0⟩
def ERC_RLOST_N : Fld := ⟨R.ERC_RLOST, 31, 0⟩
def ERC_CLR_CLR : Fld := ⟨R.ERC_CLR, 0, 0⟩
def MEM_PRJSIZE_MIB : Fld := ⟨R.MEM_PRJSIZE, 13, 0⟩
def MEM_KVCSIZE_MIB : Fld := ⟨R.MEM_KVCSIZE, 14, 0⟩
def MEM_RBASE_MIB : Fld := ⟨R.MEM_RBASE, 14, 0⟩
def MEM_RSIZE_MIB : Fld := ⟨R.MEM_RSIZE, 14, 0⟩
def MEM_NCE_N : Fld := ⟨R.MEM_NCE, 31, 0⟩
def MEM_NUE_N : Fld := ⟨R.MEM_NUE, 31, 0⟩
def MEM_LASTUE_LO_ADDR : Fld := ⟨R.MEM_LASTUE_LO, 31, 0⟩
def MEM_LASTUE_HI_ADDR : Fld := ⟨R.MEM_LASTUE_HI, 2, 0⟩
def MEM_CLR_CLR : Fld := ⟨R.MEM_CLR, 0, 0⟩
def TAP_CTRL_EN : Fld := ⟨R.TAP_CTRL, 0, 0⟩
def TAP_CTRL_BLK_RST : Fld := ⟨R.TAP_CTRL, 1, 1⟩
def TAP_CTRL_QUIESCE : Fld := ⟨R.TAP_CTRL, 8, 8⟩
def TAP_CTRL_FLUSH : Fld := ⟨R.TAP_CTRL, 9, 9⟩
def TAP_CTRL_ACCEPT_WCHUNK : Fld := ⟨R.TAP_CTRL, 10, 10⟩
def TAP_CTRL_BPLIM : Fld := ⟨R.TAP_CTRL, 23, 16⟩
def TAP_STAT_STATE : Fld := ⟨R.TAP_STAT, 1, 0⟩
def TAP_STAT_RST_BUSY : Fld := ⟨R.TAP_STAT, 2, 2⟩
def TAP_STAT_PSTATE : Fld := ⟨R.TAP_STAT, 9, 8⟩
def TAP_STAT_RSCAUSE : Fld := ⟨R.TAP_STAT, 12, 10⟩
def TAP_STAT_BP : Fld := ⟨R.TAP_STAT, 13, 13⟩
def TAP_STAT_LINKUP : Fld := ⟨R.TAP_STAT, 14, 14⟩
def TAP_STAT_ACB_Q : Fld := ⟨R.TAP_STAT, 15, 15⟩
def PST_CTRL_EN : Fld := ⟨R.PST_CTRL, 0, 0⟩
def PST_CTRL_REKEY_EN : Fld := ⟨R.PST_CTRL, 8, 8⟩
def PST_CTRL_REKEY_ON_FAIL : Fld := ⟨R.PST_CTRL, 9, 9⟩
def PST_CTRL_RK_PAUSE : Fld := ⟨R.PST_CTRL, 10, 10⟩
def PST_STAT_STATE : Fld := ⟨R.PST_STAT, 1, 0⟩
def PST_STAT_RST_BUSY : Fld := ⟨R.PST_STAT, 2, 2⟩
def PST_STAT_RK_BUSY : Fld := ⟨R.PST_STAT, 8, 8⟩
def PST_STAT_KEYUP_ANY : Fld := ⟨R.PST_STAT, 9, 9⟩
def TE_CTRL_EN : Fld := ⟨R.TE_CTRL, 0, 0⟩
def TE_CTRL_BLK_RST : Fld := ⟨R.TE_CTRL, 1, 1⟩
def TE_CTRL_NOGATE : Fld := ⟨R.TE_CTRL, 8, 8⟩
def TE_STAT_STATE : Fld := ⟨R.TE_STAT, 1, 0⟩
def TE_STAT_RST_BUSY : Fld := ⟨R.TE_STAT, 2, 2⟩
def TE_STAT_ROLE : Fld := ⟨R.TE_STAT, 11, 8⟩
def TE_STAT_NQ : Fld := ⟨R.TE_STAT, 16, 12⟩
def TE_STAT_GATED : Fld := ⟨R.TE_STAT, 17, 17⟩
def TE_STAT_STPHASE : Fld := ⟨R.TE_STAT, 20, 18⟩
def TE_STAT_STPASS : Fld := ⟨R.TE_STAT, 21, 21⟩
def TE_STAT_REPLAYING : Fld := ⟨R.TE_STAT, 22, 22⟩
def VDU_STAT_STATE : Fld := ⟨R.VDU_STAT, 1, 0⟩
def VDU_STAT_RST_BUSY : Fld := ⟨R.VDU_STAT, 2, 2⟩
def VDU_STAT_FREESLOT : Fld := ⟨R.VDU_STAT, 18, 8⟩
def VDU_STAT_FORCE : Fld := ⟨R.VDU_STAT, 19, 19⟩
def VDU_STAT_DEFICIT : Fld := ⟨R.VDU_STAT, 23, 20⟩
def VDU_STAT_TDEF : Fld := ⟨R.VDU_STAT, 24, 24⟩
def SEM_STAT_STATE : Fld := ⟨R.SEM_STAT, 1, 0⟩
def SEM_STAT_RST_BUSY : Fld := ⟨R.SEM_STAT, 2, 2⟩
def SEM_STAT_NBLOCKED : Fld := ⟨R.SEM_STAT, 15, 8⟩
def SEM_STAT_DLRUN : Fld := ⟨R.SEM_STAT, 16, 16⟩
def SEM_STAT_SNAPV : Fld := ⟨R.SEM_STAT, 17, 17⟩
def SH_CTRL_EN : Fld := ⟨R.SH_CTRL, 0, 0⟩
def SH_CTRL_BLK_RST : Fld := ⟨R.SH_CTRL, 1, 1⟩
def SH_CTRL_RETURN : Fld := ⟨R.SH_CTRL, 8, 8⟩
def SH_STAT_STATE : Fld := ⟨R.SH_STAT, 1, 0⟩
def SH_STAT_RST_BUSY : Fld := ⟨R.SH_STAT, 2, 2⟩
def SH_STAT_ROLE : Fld := ⟨R.SH_STAT, 10, 8⟩
def SH_STAT_WARMENG : Fld := ⟨R.SH_STAT, 11, 11⟩
def SH_STAT_STPASS : Fld := ⟨R.SH_STAT, 12, 12⟩
def MNT_CTRL_EN : Fld := ⟨R.MNT_CTRL, 0, 0⟩
def MNT_CTRL_HOLD_REQ : Fld := ⟨R.MNT_CTRL, 8, 8⟩
def MNT_CTRL_HOLD_RELEASE : Fld := ⟨R.MNT_CTRL, 9, 9⟩
def MNT_CTRL_SPLIT_REQ : Fld := ⟨R.MNT_CTRL, 10, 10⟩
def MNT_CTRL_SENT_OFF_ALARM : Fld := ⟨R.MNT_CTRL, 11, 11⟩
def MNT_STAT_STATE : Fld := ⟨R.MNT_STAT, 1, 0⟩
def MNT_STAT_RST_BUSY : Fld := ⟨R.MNT_STAT, 2, 2⟩
def MNT_STAT_PSTATE : Fld := ⟨R.MNT_STAT, 10, 8⟩
def MNT_STAT_WARM : Fld := ⟨R.MNT_STAT, 11, 11⟩
def MNT_STAT_HOLDSRC : Fld := ⟨R.MNT_STAT, 14, 12⟩
def MNT_STAT_MON_RUN : Fld := ⟨R.MNT_STAT, 15, 15⟩
def MNT_STAT_SENT : Fld := ⟨R.MNT_STAT, 23, 16⟩
def AEU_CTRL_EN : Fld := ⟨R.AEU_CTRL, 0, 0⟩
def AEU_STAT_STATE : Fld := ⟨R.AEU_STAT, 1, 0⟩
def AEU_STAT_RST_BUSY : Fld := ⟨R.AEU_STAT, 2, 2⟩
def AEU_STAT_NJEN : Fld := ⟨R.AEU_STAT, 14, 8⟩
def AEU_STAT_WAITING : Fld := ⟨R.AEU_STAT, 15, 15⟩
def SIO_CTRL_EN : Fld := ⟨R.SIO_CTRL, 0, 0⟩
def SIO_STAT_STATE : Fld := ⟨R.SIO_STAT, 1, 0⟩
def SIO_STAT_RST_BUSY : Fld := ⟨R.SIO_STAT, 2, 2⟩
def SIO_STAT_NRUN : Fld := ⟨R.SIO_STAT, 13, 8⟩
def SIO_STAT_NON : Fld := ⟨R.SIO_STAT, 18, 14⟩
def SIO_STAT_FORCED : Fld := ⟨R.SIO_STAT, 19, 19⟩
def SIO_STAT_BTSTATE : Fld := ⟨R.SIO_STAT, 22, 20⟩
def FCU_STAT_STATE : Fld := ⟨R.FCU_STAT, 1, 0⟩
def FCU_STAT_RST_BUSY : Fld := ⟨R.FCU_STAT, 2, 2⟩
def FCU_STAT_LATCH : Fld := ⟨R.FCU_STAT, 8, 8⟩
def FCU_STAT_NARMED : Fld := ⟨R.FCU_STAT, 14, 9⟩
def FCU_STAT_CORE_OK : Fld := ⟨R.FCU_STAT, 15, 15⟩
def SSC_STAT_STATE : Fld := ⟨R.SSC_STAT, 1, 0⟩
def SSC_STAT_RST_BUSY : Fld := ⟨R.SSC_STAT, 2, 2⟩
def SSC_STAT_SAFE : Fld := ⟨R.SSC_STAT, 8, 8⟩
def SSC_STAT_RESTART : Fld := ⟨R.SSC_STAT, 9, 9⟩
def SSC_STAT_RELBLOCK : Fld := ⟨R.SSC_STAT, 14, 10⟩
def SSC_STAT_RELPEND : Fld := ⟨R.SSC_STAT, 15, 15⟩
def ACB_CTRL_EN : Fld := ⟨R.ACB_CTRL, 0, 0⟩
def ACB_CTRL_ACC_RUN : Fld := ⟨R.ACB_CTRL, 8, 8⟩
def ACB_CTRL_RDYPORT : Fld := ⟨R.ACB_CTRL, 9, 9⟩
def ACB_CTRL_REPLAY : Fld := ⟨R.ACB_CTRL, 10, 10⟩
def ACB_CTRL_ATTEMPTS : Fld := ⟨R.ACB_CTRL, 14, 12⟩
def ACB_STAT_STATE : Fld := ⟨R.ACB_STAT, 1, 0⟩
def ACB_STAT_RST_BUSY : Fld := ⟨R.ACB_STAT, 2, 2⟩
def ACB_STAT_STEP : Fld := ⟨R.ACB_STAT, 10, 8⟩
def ACB_STAT_LONGRST : Fld := ⟨R.ACB_STAT, 11, 11⟩
def ACB_STAT_FULLRH : Fld := ⟨R.ACB_STAT, 12, 12⟩
def ACB_STAT_SKIPRPL : Fld := ⟨R.ACB_STAT, 13, 13⟩
def ACB_STAT_RELOAD : Fld := ⟨R.ACB_STAT, 14, 14⟩
def ACB_STAT_RBA : Fld := ⟨R.ACB_STAT, 15, 15⟩
def ACB_STAT_RBB : Fld := ⟨R.ACB_STAT, 16, 16⟩
def ACB_STAT_ATTEMPT : Fld := ⟨R.ACB_STAT, 19, 17⟩
def TBU_CTRL_EN : Fld := ⟨R.TBU_CTRL, 0, 0⟩
def TBU_CTRL_SRC : Fld := ⟨R.TBU_CTRL, 9, 8⟩
def TBU_STAT_STATE : Fld := ⟨R.TBU_STAT, 1, 0⟩
def TBU_STAT_RST_BUSY : Fld := ⟨R.TBU_STAT, 2, 2⟩
def TBU_STAT_SSTATE : Fld := ⟨R.TBU_STAT, 9, 8⟩
def TBU_STAT_SLAVE : Fld := ⟨R.TBU_STAT, 13, 10⟩
def TSN_STAT_STATE : Fld := ⟨R.TSN_STAT, 1, 0⟩
def TSN_STAT_RST_BUSY : Fld := ⟨R.TSN_STAT, 2, 2⟩
def TSN_STAT_LINKUP : Fld := ⟨R.TSN_STAT, 19, 8⟩
def TSN_STAT_GMACT : Fld := ⟨R.TSN_STAT, 20, 20⟩
def REED_STAT_STATE : Fld := ⟨R.REED_STAT, 1, 0⟩
def REED_STAT_RST_BUSY : Fld := ⟨R.REED_STAT, 2, 2⟩
def REED_STAT_UP : Fld := ⟨R.REED_STAT, 11, 8⟩
def REED_STAT_TLOCK : Fld := ⟨R.REED_STAT, 12, 12⟩
def KCU_STAT_STATE : Fld := ⟨R.KCU_STAT, 1, 0⟩
def KCU_STAT_RST_BUSY : Fld := ⟨R.KCU_STAT, 2, 2⟩
def KCU_STAT_DRBG : Fld := ⟨R.KCU_STAT, 9, 8⟩
def KCU_STAT_BUSY : Fld := ⟨R.KCU_STAT, 10, 10⟩
def CLK_STAT_STATE : Fld := ⟨R.CLK_STAT, 1, 0⟩
def CLK_STAT_RST_BUSY : Fld := ⟨R.CLK_STAT, 2, 2⟩
def CLK_STAT_PSTATE : Fld := ⟨R.CLK_STAT, 9, 8⟩
def CLK_STAT_BURSTOK : Fld := ⟨R.CLK_STAT, 10, 10⟩
def CLK_STAT_CAP : Fld := ⟨R.CLK_STAT, 11, 11⟩
def CLK_STAT_FTH : Fld := ⟨R.CLK_STAT, 15, 12⟩
def CLK_STAT_PLLLOCK : Fld := ⟨R.CLK_STAT, 16, 16⟩
def CLK_STAT_REFOK : Fld := ⟨R.CLK_STAT, 17, 17⟩
def MNA_CTRL_EN : Fld := ⟨R.MNA_CTRL, 0, 0⟩
def MNA_CTRL_SCRUB_EN : Fld := ⟨R.MNA_CTRL, 8, 8⟩
def MNA_CTRL_DSCRUB_EN : Fld := ⟨R.MNA_CTRL, 9, 9⟩
def MNA_STAT_STATE : Fld := ⟨R.MNA_STAT, 1, 0⟩
def MNA_STAT_RST_BUSY : Fld := ⟨R.MNA_STAT, 2, 2⟩
def MNA_STAT_SUSP_RK : Fld := ⟨R.MNA_STAT, 8, 8⟩
def MNA_STAT_SUSP_PWR : Fld := ⟨R.MNA_STAT, 9, 9⟩
def BOOT_STAT_STATE : Fld := ⟨R.BOOT_STAT, 1, 0⟩
def BOOT_STAT_RST_BUSY : Fld := ⟨R.BOOT_STAT, 2, 2⟩
def BOOT_STAT_STEP : Fld := ⟨R.BOOT_STAT, 11, 8⟩
def BOOT_STAT_READY : Fld := ⟨R.BOOT_STAT, 12, 12⟩
def BOOT_STAT_STUCK : Fld := ⟨R.BOOT_STAT, 13, 13⟩
def BOOT_STAT_IMAGE : Fld := ⟨R.BOOT_STAT, 14, 14⟩
def BOOT_STAT_BFAIL : Fld := ⟨R.BOOT_STAT, 16, 15⟩
def ERC_STAT_STATE : Fld := ⟨R.ERC_STAT, 1, 0⟩
def ERC_STAT_RST_BUSY : Fld := ⟨R.ERC_STAT, 2, 2⟩
def ERC_STAT_QFILL : Fld := ⟨R.ERC_STAT, 18, 8⟩
def MEM_STAT_STATE : Fld := ⟨R.MEM_STAT, 1, 0⟩
def MEM_STAT_RST_BUSY : Fld := ⟨R.MEM_STAT, 2, 2⟩
def MEM_STAT_TRAINED : Fld := ⟨R.MEM_STAT, 8, 8⟩
def MEM_STAT_SLOW : Fld := ⟨R.MEM_STAT, 9, 9⟩
def MEM_STAT_SREF : Fld := ⟨R.MEM_STAT, 10, 10⟩
def MEM_STAT_DERATE : Fld := ⟨R.MEM_STAT, 11, 11⟩
def GLB_CTRL_EN : Fld := ⟨R.GLB_CTRL, 0, 0⟩
def GLB_STAT_STATE : Fld := ⟨R.GLB_STAT, 1, 0⟩
def GLB_STAT_RST_BUSY : Fld := ⟨R.GLB_STAT, 2, 2⟩
def CLK_CTRL_EN : Fld := ⟨R.CLK_CTRL, 0, 0⟩
def FCU_CTRL_EN : Fld := ⟨R.FCU_CTRL, 0, 0⟩
def SSC_CTRL_EN : Fld := ⟨R.SSC_CTRL, 0, 0⟩
def SEM_CTRL_EN : Fld := ⟨R.SEM_CTRL, 0, 0⟩
def VDU_CTRL_EN : Fld := ⟨R.VDU_CTRL, 0, 0⟩
def TSN_CTRL_EN : Fld := ⟨R.TSN_CTRL, 0, 0⟩
def CVU_CTRL_EN : Fld := ⟨R.CVU_CTRL, 0, 0⟩
def CVU_STAT_STATE : Fld := ⟨R.CVU_STAT, 1, 0⟩
def CVU_STAT_RST_BUSY : Fld := ⟨R.CVU_STAT, 2, 2⟩
def REED_CTRL_EN : Fld := ⟨R.REED_CTRL, 0, 0⟩
def REED_CTRL_BLK_RST : Fld := ⟨R.REED_CTRL, 1, 1⟩
def KCU_CTRL_EN : Fld := ⟨R.KCU_CTRL, 0, 0⟩
def MEM_CTRL_EN : Fld := ⟨R.MEM_CTRL, 0, 0⟩
def ERC_CTRL_EN : Fld := ⟨R.ERC_CTRL, 0, 0⟩
def BOOT_CTRL_EN : Fld := ⟨R.BOOT_CTRL, 0, 0⟩
def HEAD_FLT_BITS : Fld := ⟨R.HEAD_FLT, 31, 0⟩
def HEAD_FLTDIS_BITS : Fld := ⟨R.HEAD_FLTDIS, 31, 0⟩
def HEAD_INJ_SRC : Fld := ⟨R.HEAD_INJ, 4, 0⟩
def HEAD_INJ_CHAN : Fld := ⟨R.HEAD_INJ, 23, 8⟩
def HEAD_INJ_ARMED : Fld := ⟨R.HEAD_INJ, 30, 30⟩
def HEAD_INJ_ARM : Fld := ⟨R.HEAD_INJ, 31, 31⟩
def HEAD_CHSEL_CH : Fld := ⟨R.HEAD_CHSEL, 15, 0⟩
end F

/-- Part 0 of the register table. -/
def regTable0 : List Reg := [
  R.GLB_DEVID, R.GLB_SERIAL_LO, R.GLB_SERIAL_HI, R.GLB_DIM0, R.GLB_DIM1,
  R.GLB_DIM2, R.GLB_PAGEMAP, R.GLB_LOCK, R.GLB_TXN_CTRL, R.GLB_TXN_BOUND,
  R.GLB_TXN_TIME_NS, R.GLB_TXN_TIME_SEC_LO, R.GLB_TXN_TIME_SEC_HI, R.GLB_TXN_TIMEOUT, R.GLB_TXN_ARMLIM,
  R.GLB_TXN_STAT, R.GLB_TXN_ID, R.GLB_TXN_APPLY_NS, R.GLB_TXN_APPLY_SEC_LO, R.GLB_TXN_APPLY_SEC_HI,
  R.GLB_STG_IDX, R.GLB_STG_ADDR, R.GLB_STG_CH, R.GLB_STG_DATA, R.GLB_SCRATCH,
  R.TAP_SSTAT, R.TAP_SNEXTSEQ, R.TAP_SRES_LO, R.TAP_SRES_HI, R.TAP_SRSV,
  R.TAP_SHELD, R.TAP_SPEAK, R.TAP_SACC_LO, R.TAP_SACC_HI, R.TAP_SGAP,
  R.TAP_SDUP, R.TAP_SSTALE, R.TAP_SMAL, R.TAP_SDISC, R.TAP_SRETR,
  R.TAP_SCLR, R.TAP_CONSPTR, R.TAP_CURSOR, R.TAP_RSGEN, R.TAP_DISC_LO,
  R.TAP_DISC_HI, R.TAP_PARTDROP, R.TAP_CRCCNT, R.TAP_BPTIME_LO, R.TAP_BPTIME_HI,
  R.TAP_BPMAX, R.TAP_PNEXTSEQ, R.TAP_POOL, R.TAP_WCACC, R.TAP_WCREJ,
  R.TAP_PMAL, R.TAP_LASTBAD, R.TAP_CLR, R.PST_CSTAT, R.PST_CGEN]
/-- Part 1 of the register table. -/
def regTable1 : List Reg := [
  R.PST_CRES, R.PST_CMAT, R.PST_CCHK_LO, R.PST_CCHK_HI, R.PST_CAGE,
  R.PST_CINEX, R.PST_CSPILL, R.PST_CRKFAIL, R.PST_CCMD, R.PST_CKUPTIME,
  R.PST_EPOCH, R.PST_KUPTO, R.PST_FREE, R.PST_MAXEXT, R.PST_RKCUR,
  R.PST_RKPROG, R.PST_RKQ, R.PST_RKCNT, R.PST_WINLOSS, R.PST_SATND,
  R.PST_CLR, R.TE_FLAG, R.TE_QSLOT, R.TE_LANEOPS_LO, R.TE_LANEOPS_HI,
  R.TE_VSLOTS_LO, R.TE_VSLOTS_HI, R.TE_JOBS_LO, R.TE_JOBS_HI, R.TE_REPLAYS,
  R.TE_ILLPC, R.TE_STCNT, R.TE_STLAST, R.TE_OUTCAUSE, R.TE_FREE,
  R.TE_CLR, R.TE_LQMAP, R.VDU_PLD_CTRL, R.VDU_PLD_ADDR_LO, R.VDU_PLD_ADDR_HI,
  R.VDU_PLD_LEN, R.VDU_PLD_STAT, R.VDU_PLD_CTXST, R.VDU_SCTRL, R.VDU_SOMAP,
  R.VDU_SSTAT, R.VDU_SLAST_LO, R.VDU_SLAST_HI, R.VDU_SNVALID, R.VDU_SNINVALID,
  R.VDU_SNUNVER, R.VDU_SNRETR, R.VDU_SNABND, R.VDU_SMINMARG, R.VDU_SLASTCAUSE,
  R.VDU_SCLR, R.VDU_RING_BASE_LO, R.VDU_RING_BASE_HI, R.VDU_RING_CFG, R.VDU_RING_MOD]
/-- Part 2 of the register table. -/
def regTable2 : List Reg := [
  R.VDU_RING_WB_LO, R.VDU_RING_WB_HI, R.VDU_RING_PIDX, R.VDU_RING_LOST, R.VDU_ALERT,
  R.VDU_HOLD, R.VDU_TSNLATE, R.VDU_CLR, R.SEM_SSTAT, R.SEM_SCMD,
  R.SEM_SSIG, R.SEM_SGRANT, R.SEM_SLAST, R.SEM_CTXSEL, R.SEM_CTXBASE,
  R.SEM_CTXSIZE, R.SEM_CTXBANKS, R.SEM_FREE, R.SEM_MAXEXT, R.SEM_DLCNT,
  R.SEM_OVFCNT, R.SEM_RESCNT, R.SEM_RESLAST, R.SEM_ABNDDISC, R.SEM_REMREJ,
  R.SEM_SNAPIDX, R.SEM_WAITSNAP, R.SEM_WAITSNAPN, R.SEM_SNAPN, R.SEM_SNAPTIME_NS,
  R.SEM_SNAPTIME_SEC_LO, R.SEM_SNAPTIME_SEC_HI, R.SEM_CLR, R.SH_MACS_LO, R.SH_MACS_HI,
  R.SH_SARJOBS, R.SH_SARABORT, R.SH_SARQ, R.SH_CKSUM, R.SH_STCNT,
  R.SH_CLR, R.MNT_HOLDLAT, R.MNT_HOLDT0_NS, R.MNT_HOLDT0_SEC_LO, R.MNT_HOLDT0_SEC_HI,
  R.MNT_HOLDOUT, R.MNT_HOLDAPPLY, R.MNT_HOLDMAXF, R.MNT_STPER, R.MNT_SLOAD,
  R.MNT_HANDOVERS, R.MNT_HOLAST, R.MNT_HOLDSTEPS, R.MNT_HOLDFAILS, R.MNT_ALARMS,
  R.MNT_CLR, R.MNT_IMG_CTRL, R.MNT_IMG_ADDR_LO, R.MNT_IMG_ADDR_HI, R.MNT_IMG_LEN]
/-- Part 3 of the register table. -/
def regTable3 : List Reg := [
  R.MNT_IMG_STAT, R.MNT_IMG_LOADED, R.AEU_JCFG, R.AEU_JENC, R.AEU_JPMIN,
  R.AEU_JPMAX, R.AEU_JVMAX, R.AEU_JAMAX, R.AEU_JJMAX, R.AEU_JABRK,
  R.AEU_JTIME, R.AEU_JDT, R.AEU_JTRK, R.AEU_JKA, R.AEU_JKV,
  R.AEU_JTQMAX, R.AEU_JREST, R.AEU_JRESTV, R.AEU_JSTAT, R.AEU_JLASTP,
  R.AEU_JMEASP, R.AEU_JMEASV, R.AEU_JREJ, R.AEU_JCMD, R.AEU_REST_LO,
  R.AEU_REST_HI, R.AEU_ENCOK_LO, R.AEU_ENCOK_HI, R.AEU_JUDGED, R.AEU_REJECTS,
  R.AEU_LASTREJ, R.AEU_CLR, R.DCI_CFG, R.DCI_TD, R.DCI_STAT,
  R.DCI_NDEM, R.DCI_NDISC, R.DCI_SCLR, R.SBO_CFG, R.SBO_TP,
  R.SBO_BT, R.SBO_STAT, R.SBO_BTLAST_SEC_LO, R.SBO_BTLAST_SEC_HI, R.SBO_SCMD,
  R.SBO_NTRIP, R.SIO_G_DCI, R.SIO_G_STR_LO, R.SIO_G_STR_HI, R.SIO_G_CTRL,
  R.SIO_G_STAT, R.SIO_G_CMD, R.SIO_OUTST, R.SIO_RUNST, R.SIO_BTCMD,
  R.SIO_BTTIME, R.SIO_BTTQ, R.SIO_BTDEV, R.SIO_BTFRAME, R.SIO_BTSTAT]
/-- Part 4 of the register table. -/
def regTable4 : List Reg := [
  R.SIO_BTMAXDEV, R.SIO_BTCNT, R.FCU_PFLT, R.FCU_PLVL0, R.FCU_PLVL1,
  R.FCU_PCNT, R.FCU_PESC, R.FCU_PINJ, R.FCU_SUMM, R.FCU_SUMU,
  R.FCU_SUMF, R.FCU_LAST, R.FCU_LAST_NS, R.FCU_LAST_SEC_LO, R.FCU_LAST_SEC_HI,
  R.FCU_FIRSTF, R.FCU_FIRSTF_NS, R.FCU_FIRSTF_SEC_LO, R.FCU_FIRSTF_SEC_HI, R.FCU_INJWIN,
  R.FCU_IRQ, R.FCU_INJPASS, R.FCU_CLR, R.SSC_SCFG, R.SSC_SSTAT,
  R.SSC_SNTRIG, R.SSC_CLSMODE, R.SSC_TRESTART, R.SSC_REL, R.SSC_CICADA,
  R.SSC_RSTLAST, R.SSC_RSTCNT, R.SSC_RELCNT, R.SSC_CLR, R.ACB_CCFG,
  R.ACB_COPEN, R.ACB_CHANG, R.ACB_CMAX, R.ACB_CCLR, R.ACB_NOPEN,
  R.ACB_RSTHOLD, R.ACB_RSTLONG, R.ACB_RDYTO, R.ACB_RDYTOF, R.ACB_RPLTO,
  R.ACB_RHSTRIDE, R.ACB_RHOFF, R.ACB_RHN, R.ACB_RPLMODE_LO, R.ACB_RPLMODE_HI,
  R.ACB_RCMD, R.ACB_RCNT, R.ACB_LEDIDX, R.ACB_LED0, R.ACB_LED1,
  R.ACB_LED_NS, R.ACB_LED_SEC_LO, R.ACB_LED_DUR, R.ACB_NDISC, R.ACB_CLR]
/-- Part 5 of the register table. -/
def regTable5 : List Reg := [
  R.TBU_NOW_FNS, R.TBU_NOW_NS, R.TBU_NOW_SEC_LO, R.TBU_NOW_SEC_HI, R.TBU_RATE,
  R.TBU_STEP_NS, R.TBU_STEP_SEC, R.TBU_CMD, R.TBU_STEPMAX, R.TBU_SRV,
  R.TBU_LOCKTHR, R.TBU_OFFSET, R.TBU_INTEG, R.TBU_NSTEP, R.TBU_CLR,
  R.TSN_PCFG, R.TSN_PMAC_LO, R.TSN_PMAC_HI, R.TSN_PLAT, R.TSN_PCYC,
  R.TSN_PBASE_NS, R.TSN_PBASE_SEC_LO, R.TSN_PBASE_SEC_HI, R.TSN_PGLEN, R.TSN_PSYNC,
  R.TSN_PTCMAP, R.TSN_PMAXLEN, R.TSN_PLTLIM, R.TSN_PDELAY, R.TSN_PRR,
  R.TSN_PPSTAT, R.TSN_PRX, R.TSN_PTX, R.TSN_PDROP, R.TSN_PLTD,
  R.TSN_PCLR, R.TSN_GCL, R.TSN_GCFG, R.TSN_PDTHR, R.TSN_FDBMISS,
  R.TSN_TCSKIP, R.TSN_CLR, R.TSN_FDB_MACLO, R.TSN_FDB_MACHI, R.TSN_FDB_FWD,
  R.TSN_SF_CFG, R.TSN_SF_PASS, R.TSN_SF_DROP, R.TSN_SF_CMD, R.TSN_SG_CTRL,
  R.TSN_SG_CYC, R.TSN_SG_BASE_NS, R.TSN_SG_BASE_SEC_LO, R.TSN_SG_BASE_SEC_HI, R.TSN_SG_E,
  R.TSN_FM_CIR, R.TSN_FM_CBS, R.TSN_FM_EIR, R.TSN_FM_EBS, R.CVU_CFG]
/-- Part 6 of the register table. -/
def regTable6 : List Reg := [
  R.CVU_TAG_LO, R.CVU_TAG_HI, R.CVU_CMD, R.CVU_DATA, R.CVU_DATAB,
  R.CVU_RUN_LO, R.CVU_RUN_HI, R.CVU_RES_LO, R.CVU_RES_HI, R.CVU_USTAT,
  R.CVU_NFRM, R.CVU_NFAIL, R.CVU_GT_CFG, R.CVU_GT_PORT, R.CVU_GT_CB,
  R.CVU_GT_TX, R.CVU_GT_DMAC_LO, R.CVU_GT_DMAC_HI, R.CVU_GT_FCNT, R.CVU_GT_CNT,
  R.REED_PCFG, R.REED_PSTAT, R.REED_PDELAY, R.REED_PTX_LO, R.REED_PTX_HI,
  R.REED_PRX_LO, R.REED_PRX_HI, R.REED_PCRC, R.REED_PREPLAY, R.REED_PRETRAIN,
  R.REED_PCLR, R.REED_GCFG, R.REED_AUDCFG, R.REED_AUDRSV_LANE, R.REED_AUDRSV_VEC,
  R.REED_AUDRSV_DRAM, R.REED_TPER, R.REED_TROOT, R.REED_TOFF, R.REED_XPEND,
  R.REED_XORPH, R.REED_XDROP, R.REED_AUDN, R.REED_AUDND, R.REED_AUDSKIP,
  R.REED_CLR, R.KCU_LIFE, R.KCU_OSLOT, R.KCU_ARB0, R.KCU_ARB1,
  R.KCU_ARBADV, R.KCU_KADDR_LO, R.KCU_KADDR_HI, R.KCU_KCMD, R.KCU_KSTAT,
  R.KCU_HSADDR_LO, R.KCU_HSADDR_HI, R.KCU_HSCMD, R.KCU_SESSST, R.KCU_SESSACT]
/-- Part 7 of the register table. -/
def regTable7 : List Reg := [
  R.KCU_STRSESS, R.KCU_HVKEY, R.KCU_HVSTAT, R.KCU_QADDR_LO, R.KCU_QADDR_HI,
  R.KCU_QNONCE, R.KCU_QCMD, R.KCU_NRESEED, R.KCU_NTAG_LO, R.KCU_NTAG_HI,
  R.KCU_CLR, R.CLK_DSTAT, R.CLK_DCNT, R.CLK_PWR, R.CLK_PEST,
  R.CLK_BURSTMS, R.CLK_TMAX, R.CLK_TS, R.CLK_THMAX, R.CLK_NCAP,
  R.CLK_CLR, R.MNA_SRAMPER, R.MNA_DRAMPER, R.MNA_DRAMBUD, R.MNA_RKLANE,
  R.MNA_RKDRAM, R.MNA_GRANT, R.MNA_REQ, R.MNA_BGL, R.MNA_DRB,
  R.MNA_SRAMPROG, R.MNA_DRAMPROG, R.MNA_DEFER, R.MNA_CMPPOS, R.MNA_CLR,
  R.BOOT_CAUSE, R.BOOT_WRST, R.BOOT_VAR, R.BOOT_CMD, R.BOOT_ATT_LO,
  R.BOOT_ATT_HI, R.BOOT_READYT, R.BOOT_NREPAIR, R.BOOT_IMGROLL, R.BOOT_LED,
  R.ERC_HEAD_LO, R.ERC_HEAD_HI, R.ERC_IDX_LO, R.ERC_IDX_HI, R.ERC_RSTAT,
  R.ERC_REC, R.ERC_ANN, R.ERC_ANNCMD, R.ERC_DROP, R.ERC_RING_BASE_LO,
  R.ERC_RING_BASE_HI, R.ERC_RINGCFG, R.ERC_RINGMOD, R.ERC_RINGWB_LO, R.ERC_RINGWB_HI]
/-- Part 8 of the register table. -/
def regTable8 : List Reg := [
  R.ERC_RPIDX, R.ERC_RLOST, R.ERC_CLR, R.MEM_PRJSIZE, R.MEM_KVCSIZE,
  R.MEM_RBASE, R.MEM_RSIZE, R.MEM_NCE, R.MEM_NUE, R.MEM_LASTUE_LO,
  R.MEM_LASTUE_HI, R.MEM_CLR, R.TAP_CTRL, R.TAP_STAT, R.PST_CTRL,
  R.PST_STAT, R.TE_CTRL, R.TE_STAT, R.VDU_STAT, R.SEM_STAT,
  R.SH_CTRL, R.SH_STAT, R.MNT_CTRL, R.MNT_STAT, R.AEU_CTRL,
  R.AEU_STAT, R.SIO_CTRL, R.SIO_STAT, R.FCU_STAT, R.SSC_STAT,
  R.ACB_CTRL, R.ACB_STAT, R.TBU_CTRL, R.TBU_STAT, R.TSN_STAT,
  R.REED_STAT, R.KCU_STAT, R.CLK_STAT, R.MNA_CTRL, R.MNA_STAT,
  R.BOOT_STAT, R.ERC_STAT, R.MEM_STAT, R.GLB_CTRL, R.GLB_STAT,
  R.CLK_CTRL, R.FCU_CTRL, R.SSC_CTRL, R.SEM_CTRL, R.VDU_CTRL,
  R.TSN_CTRL, R.CVU_CTRL, R.CVU_STAT, R.REED_CTRL, R.KCU_CTRL,
  R.MEM_CTRL, R.ERC_CTRL, R.BOOT_CTRL, R.HEAD_FLT, R.HEAD_FLTDIS]
/-- Part 9 of the register table. -/
def regTable9 : List Reg := [
  R.HEAD_INJ, R.HEAD_CHSEL]

/-- Every register of the page tables, apart from the common head (R63). -/
def regTable : List Reg :=
  regTable0 ++ regTable1 ++ regTable2 ++ regTable3 ++ regTable4 ++ regTable5 ++ regTable6 ++ regTable7 ++ regTable8 ++ regTable9

end Sys2Proof.Machine
end

