-- ==== Sys2Proof/Machine/FaultMap.lean ====
section
/-!
DEFINITION. The fault sources: for each page the sources of its chapter's source table with their classes
(R82, R189, R240, R328, R391, R422, R464, R467, R487, R521, R557, R561, R591, R639, R643, R647, R683, R716,
R747, R750, R777, R780, R784), and the levels the FCU gives them (R524).
-/
namespace Sys2Proof.Machine

/-- The level the FCU keeps for a source, and the class a source has (R72, R524). -/
inductive Level where
  | none | c | u | f
deriving DecidableEq, Repr

/-- The two-bit code of a level (R72, R555). -/
def Level.code : Level → Nat
  | .none => 0 | .c => 1 | .u => 2 | .f => 3

/-- The level of a two-bit code. -/
def Level.ofCode : Nat → Level
  | 0 => .none | 1 => .c | 2 => .u | _ => .f

/-- The next level above (R524): F is the highest. -/
def Level.above : Level → Level
  | .none => .c | .c => .u | .u => .f | .f => .f

/-- A fault source: the page index (the first of its type) and the source number. -/
structure Src where
  page : Nat
  num : Nat
deriving DecidableEq, Repr

/-- The source on page `i` of a page type that has several pages. -/
def Src.at (x : Src) (i : Nat) : Src := { x with page := x.page + i }

namespace S
def GLB_TXN_TIMEOUT : Src := ⟨0, 0⟩
def GLB_TXN_NOOPEN : Src := ⟨0, 1⟩
def GLB_TXN_BUSY : Src := ⟨0, 2⟩
def GLB_STG_OVF : Src := ⟨0, 3⟩
def GLB_COMMIT_FAIL : Src := ⟨0, 4⟩
def GLB_SIGFAIL : Src := ⟨0, 5⟩
def GLB_UNMAPPED : Src := ⟨0, 6⟩
def GLB_ACCESS : Src := ⟨0, 7⟩
def GLB_LOCKWR : Src := ⟨0, 8⟩
def GLB_STG_ECC : Src := ⟨0, 9⟩
def GLB_APPLY_INCOMPLETE : Src := ⟨0, 10⟩
def TAP_CRC : Src := ⟨6, 0⟩
def TAP_HDR : Src := ⟨6, 1⟩
def TAP_OOP : Src := ⟨6, 2⟩
def TAP_MALFORMED : Src := ⟨6, 3⟩
def TAP_ORPHAN : Src := ⟨6, 4⟩
def TAP_GAP : Src := ⟨6, 5⟩
def TAP_DUP_CONFLICT : Src := ⟨6, 6⟩
def TAP_STALE : Src := ⟨6, 7⟩
def TAP_SEQ_JUMP : Src := ⟨6, 8⟩
def TAP_ING_OVR : Src := ⟨6, 9⟩
def TAP_BP_LONG : Src := ⟨6, 10⟩
def TAP_BADTLP : Src := ⟨6, 11⟩
def TAP_LATE_RETRACT : Src := ⟨6, 12⟩
def TAP_WCHUNK_HASH : Src := ⟨6, 13⟩
def TAP_RING_RD : Src := ⟨6, 14⟩
def TAP_LINK_DOWN : Src := ⟨6, 15⟩
def TAP_BUF_CE : Src := ⟨6, 16⟩
def TAP_BUF_UE : Src := ⟨6, 17⟩
def TAP_PART_TO : Src := ⟨6, 18⟩
def PST_ECC_CE : Src := ⟨15, 0⟩
def PST_ECC_UE : Src := ⟨15, 1⟩
def PST_GEN_MISMATCH : Src := ⟨15, 2⟩
def PST_SPILL_FULL : Src := ⟨15, 3⟩
def PST_WIN_LOSS : Src := ⟨15, 4⟩
def PST_REKEY_LATE : Src := ⟨15, 5⟩
def PST_REKEY_EXPIRED : Src := ⟨15, 6⟩
def PST_KEYUP_TO : Src := ⟨15, 7⟩
def PST_PRJ_AUTH : Src := ⟨15, 8⟩
def PST_PRJ_RANGE : Src := ⟨15, 9⟩
def TE_DUP_MISMATCH : Src := ⟨8, 0⟩
def TE_LBUF_CE : Src := ⟨8, 1⟩
def TE_LBUF_UE : Src := ⟨8, 2⟩
def TE_CMD_ILL : Src := ⟨8, 3⟩
def TE_TERMS_OVF : Src := ⟨8, 4⟩
def TE_FLAG_OVF : Src := ⟨8, 5⟩
def TE_STEST_FAIL : Src := ⟨8, 6⟩
def TE_STATE_LOST : Src := ⟨8, 7⟩
def TE_XFER_TO : Src := ⟨8, 8⟩
def TE_QM_MISMATCH : Src := ⟨8, 9⟩
def VDU_CHK_FAIL : Src := ⟨16, 0⟩
def VDU_OVERRUN3 : Src := ⟨16, 1⟩
def VDU_RATE_EXCESS : Src := ⟨16, 2⟩
def VDU_LEDGER_CE : Src := ⟨16, 3⟩
def VDU_LEDGER_UE : Src := ⟨16, 4⟩
def VDU_RET_UE : Src := ⟨16, 5⟩
def VDU_REPORT_BAD : Src := ⟨16, 6⟩
def VDU_HRING_LOST : Src := ⟨16, 7⟩
def VDU_TSN_LATE : Src := ⟨16, 8⟩
def VDU_TSN_DROP : Src := ⟨16, 9⟩
def VDU_DUP_MISMATCH : Src := ⟨16, 10⟩
def SEM_SEM_OVF : Src := ⟨5, 0⟩
def SEM_DEADLOCK : Src := ⟨5, 1⟩
def SEM_RESIDUE : Src := ⟨5, 2⟩
def SEM_OWNER : Src := ⟨5, 3⟩
def SEM_REMOTE_BAD : Src := ⟨5, 4⟩
def SEM_SEM_CE : Src := ⟨5, 5⟩
def SEM_SEM_UE : Src := ⟨5, 6⟩
def SEM_DUP_MISMATCH : Src := ⟨5, 7⟩
def SH_LBUF_CE : Src := ⟨12, 0⟩
def SH_LBUF_UE : Src := ⟨12, 1⟩
def SH_CKSUM_ERR : Src := ⟨12, 2⟩
def SH_STEST_FAIL : Src := ⟨12, 3⟩
def MNT_LOCK_MISMATCH : Src := ⟨14, 0⟩
def MNT_HOLD_MISMATCH : Src := ⟨14, 1⟩
def MNT_HANDOVER_FAIL : Src := ⟨14, 2⟩
def MNT_HOLD_STEP : Src := ⟨14, 3⟩
def MNT_HOLD_FAIL : Src := ⟨14, 4⟩
def MNT_HOLD_REFUSED : Src := ⟨14, 5⟩
def MNT_WARM_MISS : Src := ⟨14, 6⟩
def MNT_SENT_ALARM : Src := ⟨14, 7⟩
def MNT_SST_CE : Src := ⟨14, 8⟩
def MNT_SST_UE : Src := ⟨14, 9⟩
def MNT_MANTIS_DEGRADED : Src := ⟨14, 10⟩
def AEU_CFG_BAD : Src := ⟨17, 0⟩
def AEU_ENC_STALE : Src := ⟨17, 1⟩
def AEU_STATE_CE : Src := ⟨17, 2⟩
def AEU_STATE_UE : Src := ⟨17, 3⟩
def AEU_DUP_MISMATCH : Src := ⟨17, 4⟩
def SIO_DISCREP : Src := ⟨18, 0⟩
def SIO_RESET_BAD : Src := ⟨18, 1⟩
def SIO_READBACK : Src := ⟨18, 2⟩
def SIO_TESTPULSE : Src := ⟨18, 3⟩
def SIO_FEEDBACK : Src := ⟨18, 4⟩
def SIO_BT_FAIL : Src := ⟨18, 5⟩
def SIO_BT_DUE : Src := ⟨18, 6⟩
def SIO_BT_OVERDUE : Src := ⟨18, 7⟩
def SIO_BT_ABORT : Src := ⟨18, 8⟩
def SIO_CFG_BAD : Src := ⟨18, 9⟩
def SIO_DUP_MISMATCH : Src := ⟨18, 10⟩
def FCU_CHECKER_SILENT : Src := ⟨2, 0⟩
def FCU_RAIL : Src := ⟨2, 1⟩
def FCU_CORE_LOSS : Src := ⟨2, 2⟩
def FCU_DUP_MISMATCH : Src := ⟨2, 3⟩
def FCU_INJ_NOTXN : Src := ⟨2, 4⟩
def SSC_SAFEN_RB : Src := ⟨3, 0⟩
def SSC_CICADA_RB : Src := ⟨3, 1⟩
def SSC_RESTART_TO : Src := ⟨3, 2⟩
def SSC_REL_REFUSED : Src := ⟨3, 3⟩
def SSC_RESTART_DEGR : Src := ⟨3, 4⟩
def SSC_DUP_MISMATCH : Src := ⟨3, 5⟩
def ACB_HANG : Src := ⟨19, 0⟩
def ACB_CMD_PROTO : Src := ⟨19, 1⟩
def ACB_CMD_ERR : Src := ⟨19, 2⟩
def ACB_RST_RB : Src := ⟨19, 3⟩
def ACB_READY_TO : Src := ⟨19, 4⟩
def ACB_REHASH_BAD : Src := ⟨19, 5⟩
def ACB_REPLAY_TO : Src := ⟨19, 6⟩
def ACB_RESTART_ABANDON : Src := ⟨19, 7⟩
def ACB_TBL_CE : Src := ⟨19, 8⟩
def ACB_TBL_UE : Src := ⟨19, 9⟩
def ACB_DUP_MISMATCH : Src := ⟨19, 10⟩
def TBU_SYNC_LOST : Src := ⟨4, 0⟩
def TBU_UNLOCK : Src := ⟨4, 1⟩
def TBU_STEP : Src := ⟨4, 2⟩
def TBU_STEP_REFUSED : Src := ⟨4, 3⟩
def TBU_DUP_MISMATCH : Src := ⟨4, 4⟩
def TSN_LINK_DOWN : Src := ⟨20, 0⟩
def TSN_PTP_LOSS : Src := ⟨20, 1⟩
def TSN_PTP_CFG : Src := ⟨20, 2⟩
def TSN_LT_DROP : Src := ⟨20, 3⟩
def TSN_QCI_BLOCK : Src := ⟨20, 4⟩
def TSN_BUF_CE : Src := ⟨20, 5⟩
def TSN_BUF_UE : Src := ⟨20, 6⟩
def TSN_DUP_MISMATCH : Src := ⟨20, 7⟩
def CVU_GUARD_CHK : Src := ⟨21, 0⟩
def CVU_GUARD_SEQ : Src := ⟨21, 1⟩
def CVU_GUARD_GAP : Src := ⟨21, 2⟩
def CVU_GUARD_SKEW : Src := ⟨21, 3⟩
def CVU_CB_MISMATCH : Src := ⟨21, 4⟩
def CVU_GUARD_NOOUT : Src := ⟨21, 5⟩
def CVU_DUP_MISMATCH : Src := ⟨21, 6⟩
def REED_LINK_DOWN : Src := ⟨22, 0⟩
def REED_LINK_DEGR : Src := ⟨22, 1⟩
def REED_RETRY_EXH : Src := ⟨22, 2⟩
def REED_KEY_FAIL : Src := ⟨22, 3⟩
def REED_CFG_BAD : Src := ⟨22, 4⟩
def REED_XVAL_OVF : Src := ⟨22, 5⟩
def REED_XKEY_MISS : Src := ⟨22, 6⟩
def REED_AUDIT_DIFF : Src := ⟨22, 7⟩
def REED_PEER_MISS : Src := ⟨22, 8⟩
def REED_PEER_DIFF : Src := ⟨22, 9⟩
def REED_BUF_CE : Src := ⟨22, 10⟩
def REED_BUF_UE : Src := ⟨22, 11⟩
def REED_DUP_MISMATCH : Src := ⟨22, 12⟩
def KCU_ENT_HEALTH : Src := ⟨23, 0⟩
def KCU_ENT_FAIL : Src := ⟨23, 1⟩
def KCU_OKEY_BAD : Src := ⟨23, 2⟩
def KCU_ENDO_BAD : Src := ⟨23, 3⟩
def KCU_HS_FAIL : Src := ⟨23, 4⟩
def KCU_SESS_NONE : Src := ⟨23, 5⟩
def KCU_ARB_REFUSED : Src := ⟨23, 6⟩
def KCU_STORE_AUTH : Src := ⟨23, 7⟩
def KCU_KEY_CE : Src := ⟨23, 8⟩
def KCU_KEY_UE : Src := ⟨23, 9⟩
def KCU_DBG_BAD : Src := ⟨23, 10⟩
def KCU_DBG_OPEN : Src := ⟨23, 11⟩
def KCU_DUP_MISMATCH : Src := ⟨23, 12⟩
def CLK_REF_LOSS : Src := ⟨1, 0⟩
def CLK_PLL_UNLOCK : Src := ⟨1, 1⟩
def CLK_DOM_FREQ : Src := ⟨1, 2⟩
def CLK_ENG_FREQ : Src := ⟨1, 3⟩
def CLK_TH_BURST : Src := ⟨1, 4⟩
def CLK_TH_SHED : Src := ⟨1, 5⟩
def CLK_THERM_FATAL : Src := ⟨1, 6⟩
def CLK_THERM_SENS : Src := ⟨1, 7⟩
def CLK_THERM_BLIND : Src := ⟨1, 8⟩
def CLK_PWR_REFUSED : Src := ⟨1, 9⟩
def CLK_PWR_CAP : Src := ⟨1, 10⟩
def MNA_SCRUB_LATE : Src := ⟨26, 0⟩
def MNA_CMP_LATE : Src := ⟨26, 1⟩
def MNA_ROT_LATE : Src := ⟨26, 2⟩
def MNA_DUP_MISMATCH : Src := ⟨26, 3⟩
def BOOT_MRAM_CE : Src := ⟨27, 0⟩
def BOOT_MRAM_UE : Src := ⟨27, 1⟩
def BOOT_LEDGER_COPY : Src := ⟨27, 2⟩
def BOOT_VARIANT : Src := ⟨27, 3⟩
def ERC_MRAM_CE : Src := ⟨25, 0⟩
def ERC_MRAM_UE : Src := ⟨25, 1⟩
def ERC_REC_DROP : Src := ⟨25, 2⟩
def ERC_ERING_LOST : Src := ⟨25, 3⟩
def MEM_DRAM_CE : Src := ⟨24, 0⟩
def MEM_DRAM_UE : Src := ⟨24, 1⟩
def MEM_TEMP_DERATE : Src := ⟨24, 2⟩
def MEM_TRAIN_DEGR : Src := ⟨24, 3⟩
end S

/-- The classes of a page's sources, from source 0 upwards (R72 and the pages' source tables). -/
def pageClasses : Nat → List Level
  | 0 => [.c, .c, .c, .c, .c, .c, .c, .c, .c, .c, .f]
  | 1 => [.f, .f, .f, .u, .c, .c, .f, .u, .f, .c, .c]
  | 2 => [.f, .f, .f, .f, .c]
  | 3 => [.f, .f, .f, .c, .c, .f]
  | 4 => [.c, .c, .c, .c, .f]
  | 5 => [.u, .u, .u, .u, .c, .c, .u, .f]
  | 6 => [.c, .c, .c, .c, .c, .c, .u, .c, .u, .u, .c, .c, .c, .c, .c, .c, .c, .u, .c]
  | 7 => [.c, .c, .c, .c, .c, .c, .u, .c, .u, .u, .c, .c, .c, .c, .c, .c, .c, .u, .c]
  | 8 => [.u, .c, .u, .u, .u, .u, .u, .u, .c, .f]
  | 9 => [.u, .c, .u, .u, .u, .u, .u, .u, .c]
  | 10 => [.u, .c, .u, .u, .u, .u, .u, .u, .c]
  | 11 => [.u, .c, .u, .u, .u, .u, .u, .u, .c]
  | 12 => [.c, .u, .u, .u]
  | 13 => [.c, .u, .u, .u]
  | 14 => [.u, .f, .f, .u, .f, .c, .c, .c, .c, .u, .u]
  | 15 => [.c, .u, .u, .c, .c, .c, .u, .c, .u, .u]
  | 16 => [.c, .u, .c, .c, .u, .u, .u, .c, .c, .c, .f]
  | 17 => [.c, .c, .c, .u, .f]
  | 18 => [.u, .c, .u, .u, .u, .u, .c, .u, .c, .c, .f]
  | 19 => [.u, .u, .c, .u, .u, .u, .c, .u, .c, .u, .f]
  | 20 => [.c, .c, .c, .c, .c, .c, .u, .f]
  | 21 => [.c, .c, .c, .c, .c, .c, .f]
  | 22 => [.c, .c, .c, .u, .c, .c, .c, .c, .u, .c, .c, .u, .f]
  | 23 => [.u, .f, .c, .c, .c, .c, .c, .u, .c, .u, .c, .f, .f]
  | 24 => [.c, .u, .c, .c]
  | 25 => [.c, .u, .c, .c]
  | 26 => [.c, .c, .c, .f]
  | 27 => [.c, .u, .c, .c]
  | _ => []

/-- Number of sources a page implements (R65). -/
def nsrc (page : Nat) : Nat := (pageClasses page).length

/-- The class of a source, none where the page implements no such source (R72). -/
def Src.cls (x : Src) : Level := (pageClasses x.page).getD x.num .none

end Sys2Proof.Machine
end

