-- ==== Sys2Proof/Machine/State.lean ====
section
/-!
DEFINITION. The state of the companion as plain data (R14): the register store, the commands that wait, the time
base, and each block's own state beside its registers; and the state after power-on.
-/
namespace Sys2Proof.Machine

/-- A 64-byte event record before its layout as bytes (R767). `src` and `n` are its ordering source and sequence
number, `t` the TBU time in units of 2^-56 ns, `lock` half of its LOCK word while it is stable, `ue` an uncorrectable word. -/
structure EvRec where
  typ : Nat
  lvl : Level
  esc : Bool
  src : Nat
  n : Nat
  t : Nat
  page : Nat
  code : Nat
  chan : Nat
  eseq : Nat
  stream : Nat
  aux : Nat
  unit : Nat
  ref : Nat
  detail : List Byte
  ue : Bool
  lock : Nat := 0
deriving DecidableEq, Repr

/-- Something the companion sends out of its balls or ports. `State.out` lists them, the newest first. -/
inductive Out where
  /-- A posted write to host memory. -/
  | hostWrite (addr : Nat) (data : List Byte)
  /-- A message-signalled interrupt of a host-port function. -/
  | msix (pf : Nat) (vector : Nat)
  /-- A frame that starts on an Ethernet port; `good` is false when its FCS goes out inverted (R615). -/
  | frame (port : Nat) (data : List Byte) (good : Bool)
  /-- A gPTP message on an Ethernet port: domain number (R614), message type, sequence, origin or response time and correction in
  2^-16 ns, and the cumulativeScaledRateOffset of a Follow_Up (R621). -/
  | ptp (port : Nat) (domain : Nat) (kind : Nat) (seq : Nat) (time : Int) (corr : Int) (rate : Int)
  /-- A flit sent on a Reed port. -/
  | flit (port : Nat) (data : List Byte)
  /-- Bytes the service port shifts out. -/
  | spi (data : List Byte)
  /-- A value the test port shifts out, least significant bit first. -/
  | jtag (width : Nat) (value : Nat)
  /-- A completion with status UR to a request at a tap or host port. -/
  | ur (port : Nat)
  /-- A report through Advanced Error Reporting of a port's function (R133, R785). -/
  | aer (port : Nat)
deriving DecidableEq, Repr

/-- One staging entry (R86): the register's key without the accessor part, its staged word and, from the apply instant on, the
word the register held before (R95). -/
structure StgEntry where
  key : Nat
  val : Word
  old : Word
deriving DecidableEq, Repr

/-- The configuration transaction's own state beside GLB_TXN_STAT (R83 to R92). Times are fabric cycles; `blobs` are the owner keys
that were cached when step 4 of R90 started (R713); `dueAt` is the cycle of the apply instant of an ARMED commit of mode TIME where a
step of the time has fixed it (R96). -/
structure Txn where
  staging : List StgEntry
  openAt : Nat
  timeoutMs : Nat
  armedAt : Nat
  applyAt : Nat
  mode : Nat
  stream : Nat
  commitNs : Nat
  images : List (Nat × List Byte)
  blobs : List (Option (List Byte))
  dueAt : Option Nat
deriving DecidableEq, Repr

/-- No transaction. -/
def Txn.reset : Txn := ⟨[], 0, 100, 0, 0, 0, 0, 0, [], [], none⟩

/-- One expected-injection entry of the FCU (R547): page, source, channel, the cycle of the arm, and the cycle of
the injected check once it has happened. -/
structure InjEntry where
  page : Nat
  src : Nat
  chan : Nat
  armedAt : Nat
  injectedAt : Option Nat
deriving DecidableEq, Repr

/-- A stream's reaction state beside SSC_SSTAT (R542, R545): the formation number from which records count
towards the run, whether the restart was reported complete, the cycle at which a RESTARTING stream's line falls unless it has
fallen, and the cycle of the last trigger, since all triggers of one cycle make one (R541). -/
structure SscStream where
  runFrom : Nat
  complete : Bool
  lineFall : Option Nat
  trigAt : Option Nat
deriving DecidableEq, Repr

/-- The safe state controller's own state (R532 to R546): cycle of the first release key, cycle at which the restart timer began,
cycle of the first occurrence at level F since the last release (R527, R552), and the streams. -/
structure Ssc where
  relKeyAt : Option Nat
  restartAt : Option Nat
  firstFAt : Option Nat
  streams : List SscStream
deriving DecidableEq, Repr

/-- After reset no release is pending and no restart runs. -/
def Ssc.reset : Ssc := ⟨none, none, none, List.replicate 64 ⟨0, false, none, none⟩⟩

/-- One entry of the restart ledger (R582). -/
structure AcbLedger where
  att : Nat
  stream : Nat
  step : Nat
  outcome : Nat
  variants : Nat
  cause : Nat
  startNs : Nat
  durUs : Nat
deriving DecidableEq, Repr

/-- An open command of the command table (R562, R563). Times are TBU nanoseconds. -/
structure CmdEntry where
  cmdid : Nat
  stream : Nat
  cls : Nat
  opNum : Nat
  begunNs : Nat
deriving DecidableEq, Repr

/-- The settings that an attempt samples at its start (R94, R587). -/
structure AcbSet where
  rdyPort : Nat
  replay : Bool
  attempts : Nat
  rstHold : Nat
  rstLong : Nat
  rdyTo : Nat
  rdyToF : Nat
  rplTo : Nat
  rplMode : Nat
deriving DecidableEq, Repr

/-- The accelerator control block beside its registers (R562 to R583): the command table in order of opening, the ledger,
the triggering stream, the cycle at which the present step began, the time of step 1, whether a restart holds the
reset, the variants and settings of the attempt, its expected digest, and the streams that were admitted at step 1. -/
structure Acb where
  table : List CmdEntry
  ledger : List AcbLedger
  trigStream : Nat
  stepAt : Nat
  startNs : Nat
  startCyc : Nat
  rst : Bool
  vars : Nat
  set : AcbSet
  digest : Nat
  admitted : List Nat
deriving DecidableEq, Repr

/-- After power-on the table and the ledger are empty and no restart runs (R568, R582). -/
def Acb.reset : Acb := ⟨[], [], 0, 0, 0, 0, false, 0, ⟨0, true, 2, 20, 100, 500, 4000, 1000, 0⟩, 0, []⟩

/-- One entry of the boot ledger (R764). -/
structure LedEntry where
  attempt : Nat
  cause : Nat
  lastStep : Nat
  outcome : Nat
  image : Nat
  stepRes : List Nat
  variant : Nat
  detail : Nat
  tstep : List Nat
deriving DecidableEq, Repr

/-- An entry that no attempt has written. -/
def LedEntry.blank : LedEntry := ⟨0, 0, 0, 0, 0, List.replicate 10 0, 0, 0, List.replicate 10 0⟩

/-- One copy of the boot ledger (R762, R763). -/
structure LedCopy where
  next : Nat
  bfail : Nat
  variant : Nat
  attcnt : Nat
  entries : Vector LedEntry 16
deriving DecidableEq, Repr

/-- A ledger in which no attempt has been recorded. -/
def LedCopy.blank : LedCopy := ⟨0, 0, 0, 0, Vector.replicate 16 LedEntry.blank⟩

/-- The boot sequencer (R755 to R758) with the cycles at which the reset was released and the step in progress began, the levels at XSPI_RESET_N and PHY_RST_N and whether the other xSPI balls are high-impedance
(R793, R798), and the ledger bank of the MRAM (R762), which keeps its contents through every reset. -/
structure Boot where
  running : Bool
  released : Bool
  relCyc : Nat
  stepAt : Nat
  wrstKeyAt : Option Nat
  clrvar : Bool
  inForce : Nat
  copyA : LedCopy
  copyB : LedCopy
  repairs : List Nat
  btLast : Vector Nat 24
  xspiRst : Bool
  xspiZ : Bool
  phyRst : Bool
deriving DecidableEq, Repr

/-- Before the first attempt; the flash and the PHYs are held in reset (R793, R798). -/
def Boot.reset : Boot :=
  ⟨false, false, 0, 0, none, false, 0, LedCopy.blank, LedCopy.blank, [], Vector.replicate 24 0, false, true, false⟩

/-- One host ring (R374 to R378, R770): producer and consumer index, records held for it (R377), those not yet
signalled by an interrupt and the cycle of the first of them, and records lost since the last LOST record. -/
structure Ring (α : Type) where
  pidx : Nat
  cidx : Nat
  hold : List α
  unsig : Nat
  unsigAt : Nat
  lostPend : Nat
deriving DecidableEq, Repr

/-- A ring that holds nothing. -/
def Ring.empty (α : Type) : Ring α := ⟨0, 0, [], 0, 0, 0⟩

/-- The event recorder (R767 to R772): the MRAM write queue, oldest first; the records of the MRAM array, newest
first; the next sequence number; the head checkpoint; records lost since the last overflow record; the service
port's snapshot; and the counts of the ordering sources (R632). -/
structure Erc where
  queue : List EvRec
  mram : List EvRec
  head : Nat
  checkpoint : Nat
  lost : Nat
  snap : Option EvRec
  ring : Ring EvRec
  count : Nat
  nowAt : Nat
  now : List (Nat × Nat)
  ackAt : Nat
  acks : List (Nat × Nat)
deriving DecidableEq, Repr

/-- An empty recorder. -/
def Erc.reset : Erc := ⟨[], [], 0, 0, 0, none, Ring.empty EvRec, 0, 0, [], 0, []⟩

/-- The identities in a function's configuration space (R786). -/
structure CfgId where
  vendor : Nat
  device : Nat
  revision : Nat
  class_ : Nat
  subVendor : Nat
  subsystem : Nat
deriving DecidableEq, Repr

/-- An entry of a function's MSI-X table in BAR4 with its bit of the PBA (R53, R785). -/
structure MsixVec where
  addr : Nat
  data : Nat
  masked : Bool
  pend : Bool
deriving DecidableEq, Repr

/-- The MSI-X table of a function at reset: 64 entries, which no command of the host writes (log 116). -/
def msixReset : List MsixVec := List.replicate 64 ⟨0, 0, false, false⟩

/-- The host port and the functions of the tap ports (R53, R785 to R790): the host link, whether PF0, PF1 and the functions of
TAP0 and TAP1 are in D0, whether PF0 and PF1 may master, the identities of those four functions, the MSI-X tables of PF0 and PF1, and the Max_Payload_Size of the
tap ports in bytes (R133). -/
structure HostPort where
  linkUp : Bool
  d0 : Vector Bool 4
  bme : Vector Bool 2
  ids : Vector CfgId 4
  vectors : Vector (List MsixVec) 2
  maxPay : Vector Nat 2
deriving DecidableEq, Repr

/-- Identities of a function with a device ID (R786); the subsystem IDs come with the boot image (0 before it: DESIGN CHOICE, log 117). -/
def cfgId (device : Nat) : CfgId := ⟨0x1F3C, device, R.GLB_DEVID.rst / 2 ^ 24, 0x120000, 0, 0⟩

/-- A base address register of a function: its number and size, and whether it is 64 bits wide and prefetchable where the spec says so
(R131, R785). -/
structure Bar where
  num : Nat
  size : Nat
  wide : Option Bool
  prefetch : Option Bool
deriving DecidableEq, Repr

/-- The BARs of PF0, PF1 and the functions of TAP0 and TAP1, and no others (R53, R131, R376, R770, R785). -/
def bars (fn : Nat) : List Bar :=
  match fn with
  | 0 => [⟨0, 0x4000000, some true, some false⟩, ⟨4, 0x2000, none, none⟩]
  | 1 => [⟨2, 0x10000, some true, some false⟩, ⟨4, 0x2000, none, none⟩]
  | 2 | 3 => [⟨0, 0x1000000, some true, some true⟩, ⟨2, 0x1000, some true, some false⟩]
  | _ => []

/-- Receive credits that a port advertises (R788): posted and non-posted headers and data, data in units of 16 bytes; the completion
credits are infinite. -/
structure RxCredits where
  postedHdr : Nat
  postedData : Nat
  nonPostedHdr : Nat
  nonPostedData : Nat
deriving DecidableEq, Repr

/-- Credits of the host port and of a tap port (R788). -/
def hostCredits : RxCredits := ⟨64, 1024, 32, 8⟩
def tapCredits : RxCredits := ⟨128, 2048, 32, 4⟩

/-- The host port is disabled until B9 (R755). No command programs the tap ports' Max_Payload_Size, which is the largest that they accept
(DESIGN CHOICE, log 125). -/
def HostPort.reset : HostPort :=
  ⟨false, Vector.replicate 4 true, Vector.replicate 2 false, #v[cfgId 0x0640, cfgId 0x0641, cfgId 0x0642, cfgId 0x0642],
    Vector.replicate 2 msixReset, Vector.replicate 2 512⟩

/-- The always-on balls and the inputs of the fatal aggregator that no register holds: SAFE_N; whether CICADA toggles, a boundary of its
half-periods (in cycles), the level of CICADA_A from there on and the length of a half-period since, in cycles (R535, R536);
whether a core-loss input is active, whether a readback comparator has found a ball high that is to be low (R18, R534 to R537), and
whether the drivers are high-impedance for want of a supply (R805). -/
structure Balls where
  safeN : Bool
  cicada : Bool
  cicAt : Nat
  cicA : Bool
  cicHalf : Nat
  coreLoss : Bool
  high : Bool
  hiZ : Bool
deriving DecidableEq, Repr

/-- Safe levels, as at every reset (R531, R533). -/
def Balls.reset : Balls := ⟨false, false, 0, false, 400, false, false, false⟩

/-- A dyadic number m times 2^e. Every operand of a check is one; sums and products of them are exact (R203). -/
structure Dy where
  m : Int
  e : Int
deriving DecidableEq, Repr

/-- A site contract as the SITE section encodes it (R115, R333). -/
structure SiteC where
  site : Nat
  stype : Nat
  fmtIn : Nat
  fmtW : Nat
  fmtOut : Nat
  mx : Bool
  rnd : Nat
  subn : Nat
  sat : Nat
  accFmt : Nat
  accDepth : Nat
  tolc : Nat
  ftol : Nat
  func : Nat
  gammaAcc : Nat
  epsAbs : Nat
deriving DecidableEq, Repr

/-- A matrix as the MAT section declares it (R332). -/
structure MatD where
  site : Nat
  k : Nat
  resid : Bool
  streamed : Bool
  gather : Bool
  dOut : Nat
  dIn : Nat
  firstEntry : Nat
  nchunk : Nat
deriving DecidableEq, Repr

/-- A stream contract as the STREAM section encodes it (R335). -/
structure StreamC where
  sidx : Nat
  cls : Nat
  port : Nat
  ovr : Nat
  rateMax : Nat
  deadlineUs : Nat
  ntokMax : Nat
  minPpm : Nat
  planPpm : Nat
  required : Nat
  sarPairs : Nat
  retain : Nat
  nPlan : Nat
  kvwin : Nat
  semBanks : Nat
  ingressPeak : Nat
  tPlan : Nat
  laneops : Nat
  vslots : Nat
  macs : Nat
  dramBytes : Nat
  tapBytes : Nat
  latUs : Nat
  envState : Nat
deriving DecidableEq, Repr

/-- An entry of the SHED section (R353). -/
structure ShedE where
  sidx : Nat
  kind : Nat
  group : Nat
  lu : Nat
  laneops : Nat
  vslots : Nat
  macs : Nat
deriving DecidableEq, Repr

/-- An attention site of the GRAPH section (R264): its layer, query and KV heads, head size, attended window (0: the
whole context), the site whose output holds queries, keys and values with the element offsets of their segments (R145,
R262), its output tensor, and whether it is plain softmax attention (R270). -/
structure AttnD where
  site : Nat
  layer : Nat
  qHeads : Nat
  kvHeads : Nat
  dHead : Nat
  window : Nat
  kvSite : Nat
  qOff : Nat
  kOff : Nat
  vOff : Nat
  outTensor : Nat
  plain : Bool
deriving DecidableEq, Repr

/-- A router of the GRAPH section (R250): its logits tensor, expert count, selections per token, the sites of its
experts, whether gates are renormalised, and the gate site (R252). -/
structure RouterD where
  site : Nat
  logits : Nat
  experts : Nat
  topK : Nat
  renorm : Bool
  gateSite : Nat
  expertSites : List (List Nat)
deriving DecidableEq, Repr

/-- A tensor of the plan graph: its number, elements per token, format and MX. -/
structure TensD where
  num : Nat
  count : Nat
  fmt : Nat
  mx : Bool
deriving DecidableEq, Repr

/-- A model input of the plan graph (R276, R278): its index, tensor, origin kind, and the bytes of the plan constant it must
equal. -/
structure InputD where
  input : Nat
  tensor : Nat
  origin : Nat
  const : List Byte
deriving DecidableEq, Repr

/-- The plan graph (R332): tensors, the tensor of each (SITE, ROLE) pair, with role 2 for accumulators (R171), the operand list of each site (R295),
attention sites, routers, model inputs, and the tensor each plan stream retains (R385). -/
structure GraphD where
  tensors : List TensD
  ports : List (Nat × Nat × Nat)
  opnds : List (Nat × List Nat)
  attn : List AttnD
  routers : List RouterD
  inputs : List InputD
  retained : List (Nat × Nat)
deriving DecidableEq, Repr

/-- A job of the dispatch table (R287): plan-relative queue, first command, site, and the check its DONE reports (kind
0: none). -/
structure JobD where
  queue : Nat
  pc : Nat
  site : Nat
  chk : Nat
  kind : Nat
deriving DecidableEq, Repr

/-- A job group: plan stream, the tensors that trigger it, and its jobs. -/
structure GroupD where
  num : Nat
  sidx : Nat
  triggers : List Nat
  jobs : List JobD
deriving DecidableEq, Repr

/-- A plan-relative logical queue of the QUEUE section. -/
structure QueueD where
  pages : Nat
  flags : Nat
  state : Nat
  fallback : Bool
deriving DecidableEq, Repr

/-- A SAR fallback program (R28): the pair it recomputes, its commands' first index, its queue and its run time in µs. -/
structure SarProg where
  pair : Nat
  pc : Nat
  queue : Nat
  chk : Nat
  runUs : Nat
  join : Nat
deriving DecidableEq, Repr

/-- The SEM section (R332, R401): bank size, plan-wide count, SAR programs, the fallback commands, the semaphores that the
VDU and the parser signal, and the COMMIT and REBUILD jobs that the VDU enqueues, each with its plan stream (R305). -/
structure SemD where
  bank : Nat
  planWide : Nat
  sar : List SarProg
  cmds : List Nat
  commit : List (Nat × Nat)
  rebuild : List (Nat × Nat)
  landed : List (Nat × Nat)
  commitJobs : List (Nat × JobD)
  rebuildJobs : List (Nat × JobD)
deriving DecidableEq, Repr

/-- A token site of the DECODE section (R257): GUMBEL or GREEDY, temperature as an FP32 code, filter width. -/
structure TokD where
  site : Nat
  gumbel : Bool
  temp : Nat
  topK : Nat
deriving DecidableEq, Repr

/-- A transfer site of the XFER section (R332, R666, R670): projections, peer device, timeout in µs, whether this side
sends, the peer's global stream paired with each plan stream, the checks that produce the moved vector, and the semaphores of a bank
that the peer feeds (R408). -/
structure XferD where
  site : Nat
  k : Nat
  peer : Nat
  timeoutUs : Nat
  sends : Bool
  pairs : List (Nat × Nat)
  producers : List Nat
  sems : List Nat
deriving DecidableEq, Repr

/-- A bindable data ID of the BIND section (R274 to R277, R332): its retention, AGELIM in µs (0: no limit), and whether it is
marked DIRECT. -/
structure BindD where
  id : Nat
  retain : Nat
  ageUs : Nat
  direct : Bool
deriving DecidableEq, Repr

/-- A plan image taken apart (R329 to R335): its hash, header fields and sections. -/
structure Plan where
  hash : Nat
  slot : Nat
  rollback : Nat
  imglen : Nat
  modelId : List Byte
  build : Nat
  sites : List SiteC
  mats : List MatD
  manifest : List Nat
  prog : List Nat
  streams : List StreamC
  shed : List ShedE
  lu : List (Nat × Nat)
  graph : GraphD
  groups : List GroupD
  queues : List QueueD
  sem : SemD
  tok : List TokD
  xfer : List XferD
  binds : List BindD
  bindKey : Nat
  const : List Byte
deriving DecidableEq, Repr

/-- One assigned check of a result (R359): its index, kind, site, job group (none for SAR, BIND and ACT), the drawn pair
of a SAR check, and the LU credits it earns by site (R122). -/
structure ChkD where
  chk : Nat
  kind : Nat
  site : Nat
  group : Option Nat
  pair : Nat
  lu : List (Nat × Nat)
deriving DecidableEq, Repr

/-- A stored projection or residue vector (R191 to R202, R217, R220): index, sign key, generation of its install, the
mantissa values of p_j, their spill remainders (0: none), the roundings ε_j, the residues modulo both primes, and its spill and rounded counts. -/
structure PVec where
  kidx : Nat
  resid : Bool
  key : Nat
  gen : Nat
  p : List Dy
  rem : List Dy
  eps : List Dy
  q1 : List Nat
  q2 : List Nat
  nspill : Nat
  ninex : Nat
deriving DecidableEq, Repr

/-- A matrix of a loaded plan (R224, R230 to R234): its installed vectors, the newest first; the cycle of the install;
whether it was out of range (R200) or holds a poisoned word (R46); the keys, rows and chunks of its open key-up or
re-key; and the marks that its age was acted on: requested, late, expired. -/
structure MatK where
  site : Nat
  vecs : List PVec
  doneAt : Nat
  range : Bool
  poison : Bool
  openK : Bool
  keys : List Nat
  rows : List (Nat × List Dy)
  chunks : List Nat
  req : Bool
  late : Bool
  expired : Bool
deriving DecidableEq, Repr

/-- A plan context beside its PST registers: the plan, global stream of plan stream 0, semaphore base, the cycle of its
apply, its logical queues by plan-relative number, its matrices, a LOAD that waits until the contexts of a list are EMPTY (R813),
and whether its key-up has passed PST_KUPTO (R227). -/
structure PlanCtx where
  plan : Option Plan
  sbase : Nat
  pwbase : Nat
  at_ : Nat
  lqs : List Nat
  mats : List MatK
  next : Option (Plan × List Nat)
  kupTo : Bool
deriving DecidableEq, Repr

/-- A context that holds nothing. -/
def PlanCtx.reset : PlanCtx := ⟨none, 0, 0, 0, [], [], none, false⟩

/-- A segment of a streamed vector as it lies in the PRJ region (R101, R199, R708): the vector, the segment's number within it, its
index, the write count of its IV, what the die writes, and the tag. -/
structure PrjSeg where
  ctx : Nat
  site : Nat
  kidx : Nat
  gen : Nat
  num : Nat
  index : Nat
  writes : Nat
  data : List Byte
  tag : List Byte
deriving DecidableEq, Repr

/-- The projection store beside its registers: queued re-keys as (context, site, priority), in order, the open one, the segments in the
PRJ region, and the segment writes so far (R708). -/
structure Pst where
  queue : List (Nat × Nat × Bool)
  cur : Option (Nat × Nat)
  prj : List PrjSeg
  writes : Nat
deriving DecidableEq, Repr

/-- No re-key, nothing in the PRJ region. -/
def Pst.reset : Pst := ⟨[], none, [], 0⟩

/-- A Reed flit apart from its LSEQ, ACKSEQ and CRC, which the sending port adds (R651). -/
structure RFlit where
  typ : Nat
  vc : Nat
  src : Nat
  dst : Nat
  bcast : Bool
  hops : Nat
  bseq : Nat
  payload : List Byte
deriving DecidableEq, Repr

/-- A sequenced flit that ACKSEQ does not cover yet: its LSEQ, the cycle it was last sent and its replays (R653,
R654). -/
structure RetryE where
  lseq : Nat
  flit : RFlit
  sentAt : Nat
  replays : Nat
deriving DecidableEq, Repr

/-- One direction pair of a Reed port (R653, R654): next LSEQ to send, last good LSEQ received, whether a NAK is out,
the retry buffer, the flits of both virtual channels that wait for a credit (R655), retrains that failed in a row, a failed key agreement, the link key,
and the wraps made and taken under it, one for each KEY flit of a direction (R705). -/
structure RPort where
  txNext : Nat
  rxLast : Nat
  nak : Bool
  retry : List RetryE
  wait : List RFlit
  failed : Nat
  keyFail : Bool
  linkKey : Nat
  wraps : Nat
  unwraps : Nat
deriving DecidableEq, Repr

/-- A port as a block reset leaves it: LSEQ numbering starts at 1, so that ACKSEQ 0 covers nothing. -/
def RPort.reset : RPort := ⟨1, 0, false, [], [], 0, false, 0, 0, 0⟩

/-- An entry of the pending table (R667, R671): an XVAL, or a remote SIG that waits for its result. -/
structure XPend where
  isSig : Bool
  src : Nat
  xid : Nat
  resseq : Nat
  token : Nat
  stream : Nat
  arrived : Nat
  expires : Nat
  prod : Nat
  kgen : Nat
  wins : List (Nat × Nat)
  sem : Nat
  cnt : Nat
deriving DecidableEq, Repr

/-- A transfer or audit key (R664, R665, R674): purpose, site, receiver's stream, peer, generation, first RESSEQ and
the key; `acked` on the sending side. -/
structure XKey where
  purpose : Nat
  site : Nat
  stream : Nat
  peer : Nat
  kgen : Nat
  fromRes : Nat
  key : Nat
  drawnAt : Nat
  acked : Bool
deriving DecidableEq, Repr

/-- An audited check whose outcome is awaited, or whose operands arrive (R675, R676). -/
structure AudE where
  peer : Nat
  stream : Nat
  resseq : Nat
  chk : Nat
  site : Nat
  outcome : Nat
deriving DecidableEq, Repr

/-- An XVAL that waits until every producer of the moved vector has an outcome (R666). -/
structure XOut where
  peer : Nat
  stream : Nat
  resseq : Nat
  xid : Nat
  token : Nat
  dst : Nat
  kgen : Nat
  wins : List (Nat × Nat)
  notDone : Bool
  producers : List Nat
deriving DecidableEq, Repr

/-- What audits use of an engine in a second (R677): lane-operations, vector slots and bytes of memory. -/
structure AudUse where
  lane : Nat
  vec : Nat
  dram : Nat
deriving DecidableEq, Repr

/-- The Reed block beside its registers. `sent` and `recv` hold keys, the newest first; `seen` the broadcasts acted on
(R659); `unreach` the devices treated as down (R660); `t0` the TIME request that waits for its answer (R661); `down` the
peers whose DOWN has been received, `ups` those of them whose UP has been (R585); `xwait` the XVALs that wait for their
producers; `audSpent` what audits have used in the second `audSec` (R677);
`aud` what the AUD region holds of the audit in hand (R50, R675); `keyDue` the keys that wait for
their draw, by purpose, site, stream, peer and first RESSEQ (R690). -/
structure Reed where
  ports : List RPort
  bseq : Nat
  seen : List (Nat × Nat)
  unreach : List Nat
  down : List Nat
  pend : List XPend
  sent : List XKey
  recv : List XKey
  audits : List AudE
  t0 : Option Nat
  lastEx : Option Nat
  missed : Nat
  audSpent : AudUse
  audSec : Nat
  aud : List Byte
  ups : List Nat
  xwait : List XOut
  reqAt : Option Nat
  keyDue : List (List Nat)
deriving DecidableEq, Repr

/-- Every port as after a block reset. -/
def Reed.reset : Reed := ⟨List.replicate 4 RPort.reset, 0, [], [], [], [], [], [], [], none, none, 0, ⟨0, 0, 0⟩, 0, [], [], [], none, []⟩

/-- A dual-channel input beside its registers (R491 to R497): for each ball the ticks its sample has differed from the
filtered level and the captured edge; the start tick of the disagreement if its channels have disagreed since; the tick
of entry to ARMED; the tick of the rising edge of a reset input; an inconsistent configuration; the configuration
words sampled at the last tick; and the tick of a configuration change, until it no longer holds a latch (R516). -/
structure Dci where
  difA : Option Nat
  difB : Option Nat
  edgeA : Nat
  edgeB : Nat
  disAt : Option Nat
  armedAt : Nat
  riseAt : Option Nat
  bad : Bool
  cfg : Nat
  cfgTd : Nat
  cfgAt : Option Nat
deriving DecidableEq, Repr

/-- No difference, no disagreement. -/
def Dci.reset : Dci := ⟨none, none, 0, 0, none, 0, none, false, 0, 100, none⟩

/-- A safe output beside its registers (R498 to R503, R505, R522): the ticks since which the samples of its feedback
inputs differ from their filtered levels; those levels at the ball; the tick of its last change; for each input the tick
since which it has differed from its expected level; the tick of its entry to ON; the ball in a test pulse with the
pulse's start; whether FEEDBACK is raised for the present difference, whether a command ON has been refused, and whether
a released latch waits for a new request; the cause of FAULT; an inconsistent configuration, and the words it was
judged on; a fault that the next tick acts on (R502); the drive levels that its last event record shows (R514); and whether it has been
reported overdue since its last pass (R521). -/
structure Sbo where
  fDifA : Option Nat
  fDifB : Option Nat
  fLevA : Bool
  fLevB : Bool
  changed : Nat
  diffA : Option Nat
  diffB : Option Nat
  onAt : Nat
  pulse : Option (Nat × Nat)
  raised : Bool
  refused : Bool
  need : Bool
  cause : Nat
  bad : Bool
  cfg : Nat
  cfgBt : Nat
  pend : Option Nat
  drv : Nat
  overdue : Bool
deriving DecidableEq, Repr

/-- After reset the filtered feedback levels are low. -/
def Sbo.reset : Sbo :=
  ⟨none, none, false, false, 0, none, none, 0, none, false, false, false, 0, false, 0x3240, 0x00A80000, none, 0, false⟩

/-- The running brake test (R507): the ticks of its start and its grant, those of TON, TOFF and its end, TON and TOFF as
times in ns, the reference position and the largest deviation, whether a frame has exceeded DEVLIM, and an end from outside that the next
tick brings (R502): its reason, and whether the END frame goes out. -/
structure Bt where
  startAt : Nat
  grantAt : Option Nat
  tonAt : Nat
  toffAt : Nat
  endAt : Nat
  tonNs : Nat
  toffNs : Nat
  qref : Int
  maxDev : Nat
  slip : Bool
  stop : Option (Nat × Bool)
deriving DecidableEq, Repr

/-- No test has run. -/
def Bt.reset : Bt := ⟨0, none, 0, 0, 0, 0, 0, 0, 0, false, none⟩

/-- The safety I/O beside its registers. `tick` counts the ticks since power-on; `seen`
says that a tick has acted on the present fatal assertion (R511). -/
structure Sio where
  tick : Nat
  seen : Bool
  dci : List Dci
  sbo : List Sbo
  bt : Bt
deriving DecidableEq, Repr

/-- No tick yet. -/
def Sio.reset : Sio :=
  ⟨0, false, List.replicate 32 Dci.reset, List.replicate 24 Sbo.reset, Bt.reset⟩

/-- A guarded frame that has passed its check: data ID, counter, SFD arrival in nanoseconds, and the payload after the
Guard header (R446, R470). -/
structure GFrame where
  id : Nat
  fcnt : Nat
  sfd : Nat
  payload : List Byte
deriving DecidableEq, Repr

/-- A joint's state beside its registers (R470 to R473, R481): accepted commands (setpoint, time in ns), the newest
first, at most three; counter, SFD arrival, position and velocity of the measured frame, the frame before the updates of the cycle
`measAt`, which a judgement in that cycle uses (R483); reference position and start of the rest interval. -/
structure Joint where
  hist : List (Int × Int)
  meas : Option (Nat × Nat × Int × Int)
  prev : Option (Nat × Nat × Int × Int)
  measAt : Nat
  rest : Option (Int × Nat)
deriving DecidableEq, Repr

/-- A joint's history is empty at power-on and warm reset (R473). -/
def Joint.reset : Joint := ⟨[], none, none, 0, none⟩

/-- An entry of a sentinel image's input table (R446). -/
structure SnIn where
  dataId : Nat
  offset : Nat
  count : Nat
  etype : Nat
  ageUs : Nat
  dst : Nat
deriving DecidableEq, Repr

/-- An entry of a sentinel image's layer table (R446). -/
structure SnLayer where
  op : Nat
  shift : Nat
  nout : Nat
  nin : Nat
  src : Nat
  dst : Nat
  woff : Nat
  mult : Nat
  arg : Nat
deriving DecidableEq, Repr

/-- A loaded sentinel image: its header fields and tables (R445, R446) and its data area. -/
structure SnImage where
  slot : Nat
  coldOk : Bool
  rollback : Nat
  periodUs : Nat
  nout : Nat
  warmup : Nat
  maxStale : Nat
  stateBytes : Nat
  macs : Nat
  nw : Nat
  ins : List SnIn
  layers : List SnLayer
  data : List Byte
  hash : Nat
deriving DecidableEq, Repr

/-- A sampled-recompute job (R270, R437): its result, check, layer and KV-head pair, class, the order of its enqueue, whether it runs
again after a poisoned word (R46), and the engine that must run it again after a checksum error (R435). -/
structure SarJob where
  stream : Nat
  resseq : Nat
  gen : Nat
  chk : Nat
  pair : Nat
  cls : Nat
  order : Nat
  again : Bool
  aborted : Bool
  on : Option Nat
deriving DecidableEq, Repr

/-- A policy or monitor step between its start and its completion, or a completed hold step that waits for its launch:
index, setpoints or scores, flags; `offGrid` where a transaction has moved the grid of its index since (R449); TAPPLY of its
frame in ns, once that is built (R452); and the engine on which a warm step started. -/
structure StepRun where
  k : Int
  outs : List Int
  stale : Bool
  failed : Bool
  hold : Bool
  offGrid : Bool
  queued : Bool
  tapply : Int
  eng : Nat
deriving DecidableEq, Repr

/-- A model's running memory: activation bytes, where int32 vectors stand (offset and bytes), last input vectors and the
count of consecutive stale steps of each input. -/
structure SnRun where
  acts : List (Nat × Byte)
  wide : List (Nat × Nat)
  lastIn : List (List Int)
  staleN : List Nat
deriving DecidableEq, Repr

/-- A model that has not run. -/
def SnRun.reset : SnRun := ⟨[], [], [], []⟩

/-- A position of a stream's KV copy for one KV site: the codes and scales of the tensor (R261, R262), and whether it has
been folded into the committed hull (R266). -/
structure KvRow where
  site : Nat
  pos : Nat
  codes : List Nat
  scales : List Nat
  folded : Bool
deriving DecidableEq, Repr

/-- One Mantis engine beside its registers: queue and running SAR job, cycle of its last CKSUM_ERR, whether it is out,
the sources of its page that took it out or kept it so since its last reset (16 for ENG_FREQ: R526), block-reset since, probe passed, in
a self-test slot, the cycle its next slot is due, and its local buffer (R424): policy state and hold-policy memory, the monitor's
activations with the places of its int32 vectors, and of the SAR staging the KV tiles (log 140). -/
structure Sh where
  queue : List SarJob
  run : Option SarJob
  ckAt : Option Nat
  out : Bool
  causes : List Nat
  wasReset : Bool
  probed : Bool
  testing : Bool
  slotAt : Nat
  policy : List Byte
  hrun : SnRun
  mact : List (Nat × Byte)
  mwide : List (Nat × Nat)
  stage : List KvRow
deriving DecidableEq, Repr

/-- An engine after boot. -/
def Sh.reset : Sh := ⟨[], none, none, false, [], false, false, false, 0, [], SnRun.reset, [], [], []⟩

/-- The monitor's activations at its initial state (R444). -/
def Sh.freshMon (x : Sh) : Sh := { x with mact := [], mwide := [] }

/-- The Mantis pair beside its registers (R426 to R459): loaded images, the monitor's last inputs, consecutive
completed steps towards WARM, consecutive failed hold steps, the intervals of the steps that have run, the newest first, the running step and
the completed one whose launch is to come, the running monitor step, a demand's arrival cycle during HANDOVER, an
accepted release with the launch instant that ends the hold and a demand since, a split request, the engines, guarded
frames of the images' inputs, the next enqueue number, a step that waits for a row reload (R46), and drawn SAR jobs whose
start condition does not hold yet (R273). -/
structure Mantis where
  hold : Option SnImage
  mon : Option SnImage
  mrun : SnRun
  warm : Nat
  fails : Nat
  ran : List (Int × Int)
  monK : Option Nat
  step : Option StepRun
  last : Option StepRun
  mstep : Option StepRun
  demandAt : Option Nat
  release : Option Nat
  again : Bool
  split : Bool
  shs : List Sh
  frames : List GFrame
  order : Nat
  reload : Bool
  waitSar : List SarJob
deriving DecidableEq, Repr

/-- The pair is off until boot (R426). -/
def Mantis.reset : Mantis :=
  { hold := none, mon := none, mrun := SnRun.reset, warm := 0, fails := 0,
    ran := [], monK := none, step := none, last := none, mstep := none, demandAt := none, release := none,
    again := false, split := false, shs := [Sh.reset, Sh.reset], frames := [], order := 0, reload := false,
    waitSar := [] }

/-- A gPTP message in an egress queue: its message type (0 Sync, 2 Pdelay_Req, 3 Pdelay_Resp, 8 Follow_Up, 10
Pdelay_Resp_Follow_Up), its sequence number, the time and correction that it carries in 2^-16 ns with the rate offset of a Follow_Up, and
whether it relays the slave port's Sync (R620, R621). -/
structure PtpMsg where
  kind : Nat
  seq : Nat
  time : Int
  corr : Int
  rate : Int
  relay : Bool
deriving DecidableEq, Repr

/-- A frame in an egress queue (R618, R814): its bytes without the FCS, its launch time in ns, whether it is a hold
command frame, stream and RESSEQ of a verdict copy, the time of its host copy's TLP in ns once that has left (R382), the ingress SFD time (2^-16 ns) and port of
a forwarded frame, whether its FCS is inverted, its time of entry in ns (R381), and the gPTP message that it is. -/
structure QFrame where
  data : List Byte
  launch : Option Nat
  hold : Bool
  verdict : Option (Nat × Nat)
  hostAt : Option Nat
  ingress : Option (Int × Nat)
  good : Bool
  entered : Nat
  ptp : Option PtpMsg := none
deriving DecidableEq, Repr

/-- A Sync that waits for its Follow_Up: sequence, SFD stamp and correction in 2^-16 ns (R598). -/
structure SyncWait where
  seq : Nat
  stamp : Int
  corr : Int
deriving DecidableEq, Repr

/-- The Sync that the master ports relay (R621): its port, its SFD stamp in 2^-16 ns, and once its origin time is known that time, its
correction, and the rate ratio to the grandmaster in units of 2^-41. -/
structure Relay where
  port : Nat
  stamp : Int
  info : Option (Int × Int × Int)
deriving DecidableEq, Repr

/-- One Ethernet port beside its registers: a queue for each traffic class, the end of its running transmission in ns,
and its gPTP exchanges (R620): sequence and sending time of the open Pdelay_Req, exchanges and losses in a row, the
times of the last exchange that the rate ratio is measured from, the next Sync's sequence, and the cycles of the last Pdelay_Req and
of the last Sync that the port sent at its own interval, and the sequence and departure in 2^-16 ns of a relayed Sync whose Follow_Up is
to come (R620, R621). -/
structure EthPort where
  queues : List (List QFrame)
  busyNs : Nat
  reqSeq : Nat
  reqT1 : Option Int
  okN : Nat
  lossN : Nat
  prev : Option (Int × Int)
  syncSeq : Nat
  reqAt : Option Nat
  syncAt : Option Nat
  fup : Option (Nat × Int)
deriving DecidableEq, Repr

/-- A port with empty queues. -/
def EthPort.reset : EthPort := ⟨List.replicate 8 [], 0, 0, none, 0, 0, none, 0, none, none, none⟩

/-- A guard table entry beside its registers (R607, R608, R631): whether a frame has been accepted or sent since it
became valid; the vector recovery state: take any, sequence number, received history with each CHECK, and the cycle of
the last acceptance. -/
structure GuardSt where
  seen : Bool
  takeAny : Bool
  seq : Nat
  hist : List (Nat × Nat)
  lastAt : Nat
deriving DecidableEq, Repr

/-- An entry that has just become valid. -/
def GuardSt.reset : GuardSt := ⟨false, true, 0, [], 0⟩

/-- A host check-value unit (R611 to R613): whether a computation has been started and not finished, the bytes strip mode holds back,
the cycle in which data was last fed, and for each running value whose computation was put aside the bytes held back with it. -/
structure CvuSt where
  feeding : Bool
  back : List Byte
  fedAt : Option Nat
  aside : List (Nat × List Byte)
deriving DecidableEq, Repr

/-- A unit without a computation. -/
def CvuSt.reset : CvuSt := ⟨false, [], none, []⟩

/-- A digest table entry (R275), for the plan context whose BINDKEY formed it. -/
structure Digest where
  ctx : Nat
  id : Nat
  fcnt : Nat
  sfd : Nat
  digest : Nat
  conflict : Bool
  poison : Bool
deriving DecidableEq, Repr

/-- A bindable data ID of a loaded plan (R274, R275): context, data ID, retention, AGELIM in µs, DIRECT, key, the highest
counter received, and the counters of frames that were received and have aged out (R276). -/
structure BindId where
  ctx : Nat
  id : Nat
  retain : Nat
  ageUs : Nat
  direct : Bool
  key : Nat
  high : Option Nat
  aged : List Nat
deriving DecidableEq, Repr

/-- The bridge, the guard path and the TBU servo beside their registers. `tokens` holds each flow meter's committed and
excess tokens in 10^-6 bits and the time of their last update; `sgOff` the stream gates that CLOSEDINV disabled. -/
structure Tsn where
  ports : List EthPort
  guard : List GuardSt
  cvu : List CvuSt
  digests : List Digest
  binds : List BindId
  tokens : List (Nat × Nat × Nat)
  sgOff : List Nat
  syncWait : Option SyncWait
  lastSync : Option Int
  lastSyncAt : Nat
  lockN : Nat
  relay : Option Relay
deriving DecidableEq, Repr

/-- The bridge after reset: flow meters full of the tokens their registers give, which is none. -/
def Tsn.reset : Tsn :=
  ⟨List.replicate 12 EthPort.reset, List.replicate 256 GuardSt.reset, List.replicate 32 CvuSt.reset, [], [],
    List.replicate 64 (0, 0, 0), [], none, none, 0, 0, none⟩

/-- Hold command frames whose launch time lies more than 1 µs after `now` are withdrawn (R455). -/
def Tsn.dropHold (t : Tsn) (now : Nat) : Tsn :=
  let away (f : QFrame) : Bool := f.hold && (match f.launch with | some l => decide (l > now + 1000) | none => true)
  { t with ports := t.ports.map (fun p => { p with queues := p.queues.map (fun q => q.filter (fun f => !away f)) }) }

/-- An accepted record while it is held or waits for dispatch (R23, R163 to R165): its bytes, its ring offset, the stamp of its
byte 0 in ns, its arrival number, the cycle of its acceptance, whether its turn has come, whether it is malformed, and whether
it followed a gap. -/
structure HeldRec where
  raw : List Byte
  off : Nat
  stamp : Nat
  arrival : Nat
  at_ : Nat
  done : Bool
  bad : Bool
  gap : Bool
deriving DecidableEq, Repr

/-- A tap port beside its registers (R153 to R160): the bytes of the partial record or candidate, the stamp of its byte 0,
the cycle its 200 µs run from, whether its header has been judged and was an ingress overrun (R140, R177); accepted records,
the oldest first; the next arrival number; the start of the present backpressure episode with its BP_LONG mark; the arrival of the last
TLP taken, in ns; the cycle from which TAP_BPTIME still has to count the episode; and complete records that wait for room in the port
pool though the port has dropped what it held in part (R157, R179), each with its ring offset and its stamp. -/
structure TapPort where
  buf : List Byte
  stamp : Nat
  lastAt : Nat
  hdr : Bool
  ovr : Bool
  recs : List HeldRec
  arrivals : Nat
  bpAt : Option Nat
  bpLong : Bool
  tlpAt : Nat
  bpFrom : Nat
  whole : List (Nat × Nat × List Byte)
deriving DecidableEq, Repr

/-- A port that holds nothing. -/
def TapPort.reset : TapPort := ⟨[], 0, 0, false, false, [], 0, none, false, 0, 0, []⟩

/-- One accepted part of a tensor for a token (R171): the site that a TENSOR record names, element offset, element codes, block scale bytes. -/
structure TPart where
  site : Option Nat
  tensor : Nat
  token : Nat
  off : Nat
  codes : List Nat
  scales : List Nat
deriving DecidableEq, Repr

/-- An INPUT_BIND entry (R147) with its outcome: 0 open, 1 PASS, 2 FAIL, 3 NOT DONE. -/
structure BindE where
  input : Nat
  origin : Nat
  id : Nat
  ref : Nat
  digest : Nat
  res : Nat
deriving DecidableEq, Repr

/-- An ACTION record of a result (R148): TAPPLY in ns, arrival in ns, its joints and setpoints, whether it has been judged, and the
joints of which a hold command has been accepted since (R472). -/
structure ActRec where
  tapply : Nat
  arrival : Nat
  ents : List (Nat × Int)
  judged : Bool
  held : List Nat
deriving DecidableEq, Repr

/-- A result in its ledger slot (R359), with its tensors. `checks` are the checks assigned to it, `issued` those
dispatched, `out` their outcomes (0 PASS, 1 FAIL, 2 NOT DONE), `aborted` those that can report no more;
`shedNd` counts the checks that shedding took from it (R110). A result whose record has left the output gate (`left`) occupies
no slot (R359); its entry stays while the result is still open at the port (R170). `sarFails` are the sites and pairs of failed SAR
checks, which no record shows before the verdict is formed (R271), `sarToks` the outcomes of its SAR fallback jobs, one for each token
(R28, R272). -/
structure Slot where
  num : Nat
  stream : Nat
  ctx : Nat
  resseq : Nat
  ctxpos : Nat
  ntok : Nat
  bank : Nat
  gen : Nat
  tfirst : Nat
  deadline : Nat
  dlast : Option Nat
  nrec : Nat
  closed : Bool
  incomplete : Bool
  formed : Bool
  suspended : Bool
  noRate : Bool
  engines : Bool
  internal : Bool
  fsum : Nat
  checks : List ChkD
  issued : List Nat
  out : List (Nat × Nat)
  aborted : List Nat
  failed : Option (Nat × Nat)
  parts : List TPart
  kvs : List (Nat × Nat)
  groups : List Nat
  sel : List (Nat × Nat × List Nat)
  rteBad : List Nat
  binds : List BindE
  bindBad : Bool
  bindEnd : Bool
  acts : List ActRec
  total : Nat
  minPpm : Nat
  required : Nat
  shedNd : Nat
  left : Bool
  sarFails : List (Nat × List Byte)
  sarToks : List (Nat × Nat)
deriving DecidableEq, Repr

/-- A verdict record before its tag and byte order (R368), with the number of its formation and the time from which
its TSN copy is timed (R382, R596). Times are ns. -/
structure VRec where
  stream : Nat
  resseq : Nat
  status : Nat
  dl : Bool
  cov : Nat
  margin : Int
  tfirst : Nat
  dlast : Nat
  dverdict : Nat
  cause : Nat
  fkind : Nat
  areason : Nat
  fsum : Nat
  epoch : Nat
  n : Nat
  formed : Nat
deriving DecidableEq, Repr

/-- One entry of a host ring's hold queue, or a written record. -/
structure RingRec where
  stream : Nat
  bytes : List Byte
  alert : Bool
deriving DecidableEq, Repr

/-- Beside a verdict ring's registers (R374 to R378): its indices and hold queue, its LOST count, and the times of the
first and last loss since the last LOST record. -/
structure VRing where
  ring : Ring RingRec
  lostSeq : Nat
  lostFrom : Nat
  lostTo : Nat
deriving DecidableEq, Repr

/-- What an element code stands for (R114, R116). -/
inductive Val where
  | fin (x : Dy)
  | inf (neg : Bool)
  | nan
deriving DecidableEq, Repr, Inhabited

/-- A committed hull (R266, R267): pair, block of 64 positions of a SLIDING layer (0 for CAUSAL), and the bounds. -/
structure Hull where
  pair : Nat
  block : Nat
  bounds : List (Val × Val)
deriving DecidableEq, Repr

/-- A semaphore bank that a result holds (R361): its number, the result, whether its result's withdrawal made it ABANDONED, and whether a
semaphore of it became ABANDONED otherwise (R409, R412). -/
structure BankH where
  bank : Nat
  resseq : Nat
  abandoned : Bool
  marred : Bool
deriving DecidableEq, Repr

/-- What a context reset leaves for the results before it (R280): the KV copy, the hulls, the pending rows, whether a hull was lost
and whether positions were evicted, for the results whose RESSEQ lies below `bound`. -/
structure KvSet where
  bound : Nat
  kv : List KvRow
  hulls : List Hull
  pend : List (Nat × Nat)
  hullBad : Bool
  evicted : Bool
deriving DecidableEq, Repr

/-- A stream (R161 to R168, R255, R263, R266, R338, R350, R372, R385). `maxUsed` is the largest RESSEQ used since the warm
reset, `last` that of the last BEGIN_RESULT since the admission; `open_` the open result; `bucket` the result bucket in
10^-9 tokens with the time of its last update; `emitQ` the records that have not passed the gate, in RESSEQ order, each
none until formed; `pend` the (pair, position) rows folded into the pending hull; `olds` what results before a context reset still use;
`seedDue` that the seed key waits for its draw (R690); `regain` that a restored stream has yet to take its resources back (R354), `retBad` the RESSEQs whose retained entry is uncorrectable
(R391). -/
structure Stream where
  admitted : Bool
  classA : Bool
  ctx : Nat
  sidx : Nat
  c : StreamC
  order : Nat
  maxUsed : Option Nat
  last : Option Nat
  open_ : Option Nat
  retracted : List Nat
  seedKey : Nat
  seedDue : Bool
  count : Nat
  kv : List KvRow
  bucket : Nat
  bucketAt : Nat
  bankLast : Nat
  banks : List BankH
  shed : List Nat
  suspended : Bool
  retained : List (Nat × Nat × List Byte)
  emitQ : List (Nat × Option VRec)
  hulls : List Hull
  pend : List (Nat × Nat)
  hullBad : Bool
  evicted : Bool
  olds : List KvSet
  regain : Bool
  retBad : List Nat
deriving DecidableEq, Repr

/-- A contract that binds nothing. -/
def StreamC.none : StreamC := ⟨0, 2, 0, 0, 1, 20, 1, 0, 0, 0, 0, 0, 0, 256, 1, 0, 0, 0, 0, 0, 0, 0, 0, 0⟩

/-- A stream that no plan has bound. -/
def Stream.reset : Stream :=
  ⟨false, false, 0, 0, StreamC.none, 0, none, none, none, [], 0, false, 0, [], 0, 0, 0, [], [], false, [], [], [], [], false,
    false, [], false, []⟩

/-- The shed controller and the VDU's rings beside their registers (R348 to R357): shed items in the order of shedding
(stream, entry or none for a suspension, resources in deficit then); the cycle from which the next item has been restorable; rings; and verdicts
that wait for a session key (R703). -/
structure Vdu where
  items : List (Nat × Option Nat × Nat)
  restAt : Option Nat
  rings : List VRing
  forms : Nat
deriving DecidableEq, Repr

/-- Empty rings. -/
def Vdu.reset : Vdu := ⟨[], none, List.replicate 8 ⟨Ring.empty RingRec, 0, 0, 0⟩, 0⟩

/-- An accumulation window (R203, R206, R217): its aligned terms, each with the exponent of its least significant bit; the
number of product terms; the side sum S2, the sum of |x_j| ε_j, the two residue accumulators, the sum of its non-finite terms
where one has entered (R114), and whether bits below the window's last have been lost (R205). -/
structure Win where
  terms : List Dy
  n : Nat
  s2 : Dy
  xeps : Dy
  m1 : Nat
  m2 : Nat
  nf : Option Val
  lost : Bool
deriving DecidableEq, Repr

/-- A cleared window. -/
def Win.zero : Win := ⟨[], 0, ⟨0, 0⟩, ⟨0, 0⟩, 0, 0, none, false⟩

/-- What lies in a queue's scratch at an address: the mantissa values or the trailer of a vector that LDP loaded (its site, index, whether
it is a residue vector, the first element, and the values, or the remainders and roundings, with the vector's GEN), a TOKSLICE partial (score, index,
largest logit), or an online-softmax partial of RECOMP by positions taken. -/
inductive Scr where
  | vec (site kidx gen off : Nat) (p : List Dy)
  | trail (site kidx gen off : Nat) (rem eps : List Dy)
  | best (score : Val) (idx : Nat) (top : Val)
  | soft (pos : List Nat)
deriving DecidableEq, Repr

/-- An outstanding LDP (R199, R298): its flag, what lands where (none when the segment cannot be had or nothing is fetched), and
the segments of the PRJ region that it reads and authenticates. -/
structure Ldp where
  flag : Nat
  dst : Nat
  data : Option Scr
  segs : List Nat
deriving DecidableEq, Repr

/-- A job (R289, R290, R310, R318, R319): its descriptor, the check it carries, its next command, its status bits, its progress record (SIGs
issued, WAIs satisfied, LDPs completed), and how many of each a replay still skips; `pos` is its token's position, `again` marks a replay for a poisoned word (R46),
`lost` a job that reads envelope state which a takeover could not copy (R269, R320), `vdu` a job of the VDU (R305), `sat` one whose PRY
has found a saturated output (R212). -/
structure Job where
  pc : Nat
  ctx : Nat
  stream : Nat
  resseq : Nat
  site : Nat
  token : Nat
  bank : Nat
  replay : Bool
  fallback : Bool
  enq : Nat
  chk : Nat
  cur : Nat
  started : Bool
  failed : Bool
  notDone : Bool
  purge : Bool
  sigs : Nat
  wais : Nat
  ldps : Nat
  skipS : Nat
  skipW : Nat
  skipL : Nat
  xfc : Option Nat
  xgen : Nat
  rslot : Nat
  pos : Nat
  again : Bool
  lost : Bool
  vdu : Bool
  sat : Bool
deriving DecidableEq, Repr

/-- A logical queue (R285, R286): its context and plan-relative number, the engine it is bound to, its FIFO with the head
first, windows, side sum S1, flags, scratch, outstanding LDPs, whether its head is blocked in WAI, whether its state is still
being copied to another engine (R315, R320), and whether a takeover lost the words of its scratch that nothing has written since
(R320). -/
structure LQ where
  ctx : Option (Nat × Nat)
  eng : Option Nat
  jobs : List Job
  wins : List Win
  s1 : Dy
  flags : List Nat
  scratch : List (Nat × Scr)
  ldps : List Ldp
  waiting : Bool
  copying : Bool
  lostScr : Bool
deriving DecidableEq, Repr

/-- A queue that no context owns. -/
def LQ.reset : LQ := ⟨none, none, [], List.replicate 8 Win.zero, ⟨0, 0⟩, [0, 0, 0], [], [], false, false, false⟩

/-- A tally engine beside its registers (R282, R293, R314 to R320): the engine whose state it is taking, the cycle of the last
self-test it passed (R741), the cycle at which its self-test slot began (R316), and its program cache: the programs of loaded
contexts, one after another. -/
structure Te where
  taking : Option Nat
  lastPass : Nat
  slotAt : Nat
  cache : List (Nat × List Nat)
deriving DecidableEq, Repr

/-- An engine that holds nothing. -/
def Te.reset : Te := ⟨none, 0, 0, []⟩

/-- A registered waiter (R405): semaphore, queue and count. -/
structure SemWait where
  sem : Nat
  lq : Nat
  n : Nat
deriving DecidableEq, Repr

/-- An entry of the deadlock snapshot (R416, R421). -/
structure SnapE where
  sem : Nat
  eng : Nat
  lq : Nat
  flag : Bool
  n : Nat
  count : Nat
deriving DecidableEq, Repr

/-- The semaphore block beside its registers: waiters in order of registration, the snapshot, and the cycle since which
every condition of R414 has held. -/
structure Sem where
  waits : List SemWait
  snap : List SnapE
  since : Option Nat
deriving DecidableEq, Repr

/-- An owner key slot of the OTP (R684): the hash of its public key blob and its two fuses. -/
structure OwnerSlot where
  hash : Nat
  valid : Bool
  revoked : Bool
deriving DecidableEq, Repr

/-- The one-time-programmable memory (R684): lifecycle, serial number, the hashes of the boot keys with their REVOKED
fuses, of the device CA and of the owner slots, the counts of blown anti-rollback fuses, ARB_BOOT first, and PUF_HELPER and OTP_SEED as
numbers. -/
structure Otp where
  life : Nat
  serial : Nat
  bootKeys : List (Nat × Bool)
  devca : Nat
  owners : List OwnerSlot
  arb : List Nat
  helper : Nat
  seed : Nat
deriving DecidableEq, Repr

/-- An OTP in which nothing has been programmed. -/
def Otp.blank : Otp :=
  ⟨0, 0, [(0, false), (0, false)], 0, List.replicate 4 ⟨0, false, false⟩, List.replicate 5 0, 0, 0⟩

/-- The endorsement bound to a session (R698): the controller's public key blob, owner slot and ROLLBACK. -/
structure Endo where
  pub : List Byte
  slot : Nat
  rollback : Nat
deriving DecidableEq, Repr

/-- A session slot (R699 to R703): its state, the state to which a failed handshake returns, endorsement, the key in force,
the keys that wait for their TACT in ns, the earliest first, and of the open handshake the HELLO message, the cycle of its write and the two secrets
drawn for it. -/
structure Sess where
  st : Nat
  prev : Nat
  endo : Option Endo
  key : Option Nat
  next : List (Nat × Nat)
  hello : List Byte
  helloAt : Nat
  priv : Nat
  seed : Nat
deriving DecidableEq, Repr

/-- A slot in NONE. -/
def Sess.reset : Sess := ⟨0, 0, none, none, [], [], 0, 0, 0⟩

/-- A TSN copy of a verdict record on its way to the bridge (R380, R703). -/
structure TsnCopy where
  sess : Nat
  rec_ : VRec
  hostAt : Option Nat
deriving DecidableEq, Repr

/-- A block of 4 KiB of the PLAN region, or of the HOLD region, with its write count and tag (R709); `owner` is the context, or the
descriptor of the sentinel image. -/
structure AuthBlk where
  hold : Bool
  owner : Nat
  block : Nat
  count : Nat
  tag : Nat
deriving DecidableEq, Repr

/-- The keystore and crypto unit beside its registers (R686 to R711): cached owner blobs, sessions, the storage, image and
host verdict keys, whether HVKEY can still be read, the boot image's hash and ROLLBACK, the cycles of the last failures of the
entropy source, the challenge nonce with the cycle of its draw, the scope of an open debug session, TSN copies that wait for
TACT, and of the DRBG the generate requests, the cycle of its last reseed, and the values of its personalisation string: SERIAL, ACB_RCNT and
the boot count (R192, R689). `drk`, `idEc` and `idPq` are the device root key and the identity keys (R686); `hvDue` tells that the host
verdict key waits for its draw (R690); `auth` holds the tags of the blocks of the PLAN and HOLD regions and `authN` counts their writes (R709). -/
structure Kcu where
  blobs : List (Option (List Byte))
  sess : List Sess
  ks : Nat
  ka : Nat
  hvKey : Nat
  bootHash : Nat
  bootRoll : Nat
  entFails : List Nat
  nonce : Option (Nat × Nat)
  scope : Nat
  wait : List TsnCopy
  draws : Nat
  seedAt : Nat
  pers : List Nat
  drk : Nat
  idEc : Nat
  idPq : Nat
  hvDue : Bool
  auth : List AuthBlk
  authN : Nat
deriving DecidableEq, Repr

/-- No key. -/
def Kcu.reset : Kcu :=
  ⟨List.replicate 4 none, List.replicate 8 Sess.reset, 0, 0, 0, 0, 0, [], none, 0, [], 0, 0, [], 0, 0, 0, false, [], 0⟩

/-- The CLK block beside its registers (R722 to R733): the burst milliseconds among the last 30,000 and the number of the
present millisecond; whether bursts ended for temperature and since which cycle Tj_max has been at or below 100 degrees; the number
of capping measures in force, how many milliseconds P_est has been 1 W below the cap; per sensor site the conversions in a row
whose diodes differed; the cycle at which the thermal factor falls next, and the one from which its next rise counts; whether an exit
test runs; whether domains 2 to 8 are stopped for temperature (R733); and the cycle at which the factor last fell. -/
structure Clk where
  bursts : List Nat
  ms : Nat
  ended : Bool
  coolAt : Option Nat
  measures : Nat
  under : Nat
  diff : List Nat
  hotAt : Option Nat
  lowAt : Option Nat
  testing : Bool
  stopped : Bool
  fellAt : Option Nat
deriving DecidableEq, Repr

/-- After reset bursts are permitted and no measure is in force. -/
def Clk.reset : Clk := ⟨[], 0, false, none, 0, 0, List.replicate 8 0, none, none, false, false, none⟩

/-- The maintenance arbiter beside its registers (R734 to R741): slots since the exit of reset, the cycle of the last comparator
test and its two positions before the first, the cycles at which the two scrub passes began with the chunks they have done, the
rows with corrected errors in the last SRAM pass and in this one (macro and row), lateness already raised for the SRAM pass, the
DRAM pass and each tally engine, the epoch-limit re-key that suspends the scrub, the last engine to be spare, and the engine that
abandoned its slot (R32, R35). -/
structure Mna where
  slots : Nat
  cmpAt : Nat
  started : Bool
  sramAt : Nat
  sramDone : Nat
  dramAt : Nat
  dramDone : Nat
  lastRows : List (Nat × Nat)
  rows : List (Nat × Nat)
  late : List Nat
  force : Bool
  lastSpare : Nat
  due : Option Nat
deriving DecidableEq, Repr

/-- Before the first slot. -/
def Mna.reset : Mna := ⟨0, 0, false, 0, 0, 0, 0, [], [], [], false, 3, none⟩

/-- The test port (R796): the instruction in force, the captured word of the last REGACC as DATA, DONE and REFUSED, and what the
boundary-scan cells drive (R797). -/
structure Jtag where
  ir : Nat
  data : Nat
  done : Bool
  refused : Bool
  cells : List Bool
deriving DecidableEq, Repr

/-- What blocks hold that an apply instant changes for the block alone (R95): the register store, tap ports, joints, Reed ports, the
tally engines with the logical queues, and the bridge. -/
structure Held where
  regs : List (Nat × Word)
  taps : List TapPort
  joints : List Joint
  reed : Reed
  tes : List Te
  lqs : List LQ
  tsn : Tsn
deriving DecidableEq, Repr

/-- What the blocks held before and right after the apply instant of the transaction that is APPLYING (R95). A block that does not acknowledge has not acted. -/
structure Before where
  pre : Held
  post : Held
deriving DecidableEq, Repr

/-- The companion. Field by field, with the rules of the spec that name it. -/
structure State where
  /-- The register store: by key, the difference of each register from its reset value (R56, R61, R75, R76). -/
  regs : List (Nat × Word)
  /-- The commands that wait, first in, first out. -/
  pending : List Instr
  /-- What has left the companion, the newest first. -/
  out : List Out
  /-- Number of free values drawn so far (the model's own field). -/
  freeCtr : Nat
  /-- TBU time in units of 2^-56 ns: seconds, nanoseconds, 16 bits of FNS and 40 bits below it (R592, R593). -/
  tbu : Nat
  /-- Fabric cycles since power-on, which interval timers count (R14). -/
  cyc : Nat
  /-- The configuration transaction (R83 to R92). -/
  txn : Txn
  /-- What the blocks held before the apply instant while a transaction is APPLYING (R95). -/
  before : Option Before
  /-- The expected-injection table (R547). -/
  inj : List InjEntry
  /-- The safe state controller (R532 to R546). -/
  ssc : Ssc
  /-- The accelerator control block (R562 to R583). -/
  acb : Acb
  /-- Boot sequencer and ledger bank (R755 to R766). -/
  boot : Boot
  /-- Event recorder (R767 to R772). -/
  erc : Erc
  /-- Host port (R785, R790). -/
  host : HostPort
  /-- Always-on balls (R534, R535) and core loss (R18). -/
  balls : Balls
  /-- Reed ports and their tables (R648 to R677). -/
  reed : Reed
  /-- Safety inputs and outputs (R491 to R513). -/
  sio : Sio
  /-- The bridge, the guard path and the servo (R592 to R631). -/
  tsn : Tsn
  /-- The AEU's joints (R468 to R473). -/
  joints : List Joint
  /-- The Mantis pair (R423 to R459). -/
  mnt : Mantis
  /-- Tap ports and the records they hold (R153 to R165). -/
  taps : List TapPort
  /-- The VDU's result slots (R358, R359). -/
  slots : List Slot
  /-- The streams. -/
  streams : List Stream
  /-- Verdict rings and the shed controller (R348 to R357, R374 to R378). -/
  vdu : Vdu
  /-- The plan contexts (R223 to R235, R342). -/
  ctxs : List PlanCtx
  /-- The queue of re-keys (R232 to R234). -/
  pst : Pst
  /-- Logical queues with their jobs (R285, R286). -/
  lqs : List LQ
  /-- Tally engines (R314). -/
  tes : List Te
  /-- Waiters and the deadlock snapshot (R405, R416). -/
  sem : Sem
  /-- The one-time-programmable memory (R684). -/
  otp : Otp
  /-- The keystore and crypto unit (R686 to R711). -/
  kcu : Kcu
  /-- The CLK block (R722 to R733). -/
  clk : Clk
  /-- The maintenance arbiter (R734 to R741). -/
  mna : Mna
  /-- The test port (R796). -/
  jtag : Jtag
deriving DecidableEq, Repr

/-- What the blocks hold now. -/
def State.heldNow (s : State) : Held := ⟨s.regs, s.taps, s.joints, s.reed, s.tes, s.lqs, s.tsn⟩

/-- Why a step stops. No command of the spec stops the companion: every row of the table has an effect or is discarded,
so no meaning answers a fault. -/
inductive Fault where
  /-- Raised by no meaning; safe. It stands for an operand that WellFormed refuses, which no board can send. -/
  | illFormed
deriving DecidableEq, Repr

/-- Why a command is refused. -/
inductive Refusal where
  /-- Raised by the dispatch alone, for a command that has no meaning in this model; safe. -/
  | notModelled (mnemonic : String)
deriving DecidableEq, Repr

/-- The companion right after power-on, before the release of the reset (R751, R753). -/
def State.reset : State where
  regs := []
  pending := []
  out := []
  freeCtr := 0
  tbu := 0
  cyc := 0
  txn := Txn.reset
  before := none
  inj := []
  ssc := Ssc.reset
  acb := Acb.reset
  boot := Boot.reset
  erc := Erc.reset
  host := HostPort.reset
  balls := Balls.reset
  reed := Reed.reset
  sio := Sio.reset
  tsn := Tsn.reset
  joints := List.replicate 64 Joint.reset
  mnt := Mantis.reset
  taps := List.replicate 2 TapPort.reset
  slots := []
  streams := List.replicate 64 Stream.reset
  vdu := Vdu.reset
  ctxs := List.replicate 16 PlanCtx.reset
  pst := Pst.reset
  lqs := List.replicate 48 LQ.reset
  tes := List.replicate 4 Te.reset
  sem := ⟨[], [], none⟩
  otp := Otp.blank
  kcu := Kcu.reset
  clk := Clk.reset
  mna := Mna.reset
  jtag := ⟨1, 0, false, false, []⟩

end Sys2Proof.Machine
end

