-- ==== Sys2Proof/Machine/Ops.lean ====
section
/-!
DEFINITION. The named operations every block uses: the register store and its fields (R56, R61, R75, R76), the time
base (R592, R593), free values, and what leaves the companion.
-/
namespace Sys2Proof.Machine

/-! ### The register store -/

/-- Key of a register: its place, with up to two indices (page, channel, table index or accessor). -/
def Reg.key (r : Reg) (a b : Nat) : Nat := r.base + r.sa * a + r.sb * b

/-- What a key holds, as its difference from the reset value; an unlisted key holds its reset value. -/
def Store.look : List (Nat × Word) → Nat → Word
  | [], _ => 0
  | (k, v) :: m, i => if i = k then v else Store.look m i

/-- An entry put before the first larger key. -/
def Store.ins : List (Nat × Word) → Nat → Word → List (Nat × Word)
  | [], i, w => [(i, w)]
  | (k, v) :: m, i, w => if i < k then (i, w) :: (k, v) :: m else (k, v) :: Store.ins m i w

/-- The store with one key's difference replaced; a difference of zero is not listed. -/
def Store.put (m : List (Nat × Word)) (i : Nat) (w : Word) : List (Nat × Word) :=
  if w = 0 then m.filter (fun e => e.1 != i) else Store.ins (m.filter fun e => e.1 != i) i w

/-- Every listed key lies above `lo`, keys rise strictly, and no listed difference is zero. -/
def Store.wfFrom : Nat → List (Nat × Word) → Bool
  | _, [] => true
  | lo, (k, v) :: m => decide (lo ≤ k) && decide (v ≠ 0) && Store.wfFrom (k + 1) m

/-- The store is in its one canonical form. -/
def Store.wf (m : List (Nat × Word)) : Bool := Store.wfFrom 0 m

/-- The word a register holds. -/
def State.word (s : State) (r : Reg) (a : Nat := 0) (b : Nat := 0) : Nat :=
  (Store.look s.regs (r.key a b) ^^^ BitVec.ofNat 32 r.rst).toNat

/-- A register takes a word. -/
def State.setWord (s : State) (r : Reg) (v : Nat) (a : Nat := 0) (b : Nat := 0) : State :=
  { s with regs := Store.put s.regs (r.key a b) (BitVec.ofNat 32 v ^^^ BitVec.ofNat 32 r.rst) }

/-- The value of a register field. -/
def State.rd (s : State) (f : Fld) (a : Nat := 0) (b : Nat := 0) : Nat := bits f.hi f.lo (s.word f.reg a b)

/-- A register field takes a value, cut to the field's width. -/
def State.wr (s : State) (f : Fld) (v : Nat) (a : Nat := 0) (b : Nat := 0) : State :=
  s.setWord f.reg (setBits f.hi f.lo v (s.word f.reg a b)) a b

/-- Whether a one-bit field reads 1. -/
def State.on (s : State) (f : Fld) (a : Nat := 0) (b : Nat := 0) : Bool := s.rd f a b != 0

/-- A counter field counts `n`, saturating at all ones. -/
def State.add (s : State) (f : Fld) (n : Nat) (a : Nat := 0) (b : Nat := 0) : State :=
  s.wr f (satAdd (f.hi + 1 - f.lo) (s.rd f a b) n) a b

/-- A counter field counts one, saturating at all ones. -/
def State.inc (s : State) (f : Fld) (a : Nat := 0) (b : Nat := 0) : State := s.add f 1 a b

/-- A counter field counts down by one, not below zero. -/
def State.dec (s : State) (f : Fld) (a : Nat := 0) (b : Nat := 0) : State := s.wr f (s.rd f a b - 1) a b

/-- A peak field takes a value when the value is larger; a value beyond the field stores all ones. -/
def State.peak (s : State) (f : Fld) (v : Nat) (a : Nat := 0) (b : Nat := 0) : State :=
  if s.rd f a b < v then s.wr f (min v (allOnes (f.hi + 1 - f.lo))) a b else s

/-- The 64-bit value of two adjacent registers (R58). -/
def State.rd64 (s : State) (lo hi : Reg) (a : Nat := 0) (b : Nat := 0) : Nat :=
  s.word lo a b + 2 ^ 32 * s.word hi a b

/-- Two adjacent registers take a 64-bit value (R58). -/
def State.wr64 (s : State) (lo hi : Reg) (v : Nat) (a : Nat := 0) (b : Nat := 0) : State :=
  (s.setWord lo v a b).setWord hi (v / 2 ^ 32) a b

/-- A 64-bit counter counts `n`, saturating at all ones. -/
def State.add64 (s : State) (lo hi : Reg) (n : Nat) (a : Nat := 0) (b : Nat := 0) : State :=
  s.wr64 lo hi (satAdd 64 (s.rd64 lo hi a b) n) a b

/-- `f` applied for each of the indices below `n`, in rising order. -/
def State.upto (s : State) (f : Nat → State → State) (n : Nat) : State :=
  (List.range n).foldl (fun s i => f i s) s

/-- `f` applied for each element of a list, in order. -/
def State.each {α : Type} (s : State) (xs : List α) (f : α → State → State) : State :=
  xs.foldl (fun s x => f x s) s

/-- A register returns to its reset value. -/
def State.rstReg (s : State) (r : Reg) (a : Nat := 0) (b : Nat := 0) : State := s.setWord r r.rst a b

/-- The action where the condition holds. -/
def State.when (s : State) (c : Bool) (f : State → State) : State := if c then f s else s

/-! ### Time -/

/-- Time units (2^-56 ns) in a nanosecond. -/
def nsU : Nat := 2 ^ 56

/-- TBU time in whole nanoseconds since the epoch. -/
def State.ns (s : State) : Nat := s.tbu / nsU

/-- Whole seconds of a time in nanoseconds. -/
def secOf (ns : Nat) : Nat := ns / 1000000000

/-- Nanoseconds within the second. -/
def subNs (ns : Nat) : Nat := ns % 1000000000

/-- The 64-bit Guard timestamp of a time in nanoseconds (R601). -/
def guardTs (ns : Nat) : Nat := secOf ns % 2 ^ 32 * 2 ^ 32 + subNs ns

/-- A time in nanoseconds shown in a register triple (nanoseconds, seconds low, seconds high). -/
def State.wrTime (s : State) (ns lo hi : Reg) (t : Nat) (a : Nat := 0) (b : Nat := 0) : State :=
  ((s.setWord ns (subNs t) a b).setWord lo (secOf t % 2 ^ 32) a b).setWord hi (secOf t / 2 ^ 32 % 2 ^ 16) a b

/-- The time of a register triple in nanoseconds. -/
def State.rdTime (s : State) (ns lo hi : Reg) (a : Nat := 0) (b : Nat := 0) : Nat :=
  (s.word lo a b + 2 ^ 32 * (s.word hi a b % 2 ^ 16)) * 1000000000 + s.word ns a b

/-- Time units one fabric cycle adds (R593): 1.25 ns times one plus RATE in units of 2^-40. -/
def State.cycleUnits (s : State) : Nat :=
  (5 * 2 ^ 54 + 5 * 2 ^ 14 * toSigned 32 (s.word R.TBU_RATE)).toNat

/-- `k` fabric cycles pass (R592, R593). -/
def State.advance (s : State) (k : Nat) : State :=
  { s with cyc := s.cyc + k, tbu := (s.tbu + k * s.cycleUnits) % (2 ^ 48 * 1000000000 * nsU) }

/-- Fabric cycles to a cycle count: time passes until then, or does not where it lies in the past. -/
def State.reachCyc (s : State) (c : Nat) : State := s.advance (c - s.cyc)

/-- Time passes until the first cycle whose TBU time is at least `t` nanoseconds. -/
def State.reachNs (s : State) (t : Nat) : State :=
  if t * nsU ≤ s.tbu then s else s.advance (ceilDiv (t * nsU - s.tbu) s.cycleUnits)

/-- Fabric cycles in microseconds, milliseconds and seconds. -/
def usC (n : Nat) : Nat := n * 800
def msC (n : Nat) : Nat := n * 800000
def secC (n : Nat) : Nat := n * 800000000

/-- Whether the domains of the engines and of the Mantis pair run (R718, R721, R733): not in P1 and P2, but for an exit test,
and not after THERM_FATAL. -/
def State.engClk (s : State) : Bool :=
  !s.clk.stopped && (s.clk.testing || !(s.rd F.CLK_PWR_STATE == 1 || s.rd F.CLK_PWR_STATE == 2))

/-! ### Free values and outputs -/

/-- A fresh free value of `w` bits: an unspecified value, different draws unrelated. -/
def State.fresh (s : State) (w : Nat) : BitVec w := Config.freeValue w s.freeCtr

/-- The draw is taken. -/
def State.drew (s : State) : State := { s with freeCtr := s.freeCtr + 1 }

/-- A draw from the DRBG is taken: one generate request (R689). -/
def State.drewKey (s : State) : State := { s.drew with kcu := { s.kcu with draws := s.kcu.draws + 1 } }

/-- No draw is served: the DRBG is being instantiated again, or has failed (R690). -/
def State.noDraws (s : State) : Bool := decide (2 ≤ s.rd F.KCU_STAT_DRBG)

/-- Something leaves the companion. -/
def State.emit (s : State) (o : Out) : State := { s with out := o :: s.out }

/-- A posted write to host memory by a function: it leaves while the link is up and the function may master and is
in D0 (R790). -/
def State.hostMay (s : State) (pf : Nat) : Bool :=
  s.host.linkUp && s.host.d0.getD pf false && s.host.bme.getD pf false

/-- Entry of the MSI-X table of PF0 or PF1 (R53). -/
def State.vector (s : State) (pf vec : Nat) : Option MsixVec := (s.host.vectors.toList.getD pf [])[vec]?

/-- A message-signalled interrupt of a function, while it may master (R528, R790): the write of its table entry, or its bit in the PBA
while the entry is masked (R53). -/
def State.msix (s : State) (pf vec : Nat) : State :=
  if !s.hostMay pf then s
  else
    match s.vector pf vec with
    | none => s
    | some e =>
      if e.masked then
        let vs := s.host.vectors.mapIdx fun k x => if k = pf then updAt (fun e => { e with pend := true }) vec x else x
        { s with host := { s.host with vectors := vs } }
      else s.emit (.msix pf vec)

end Sys2Proof.Machine
end

