-- ==== Sys2Proof/Machine/Recorder.lean ====
section
/-!
DEFINITION. The event recorder's write queue (R767 to R769), Reed broadcasts of the supervisor (R584, R659) and the
restart ledger's entries (R582).
-/
namespace Sys2Proof.Machine

/-- Level of an event record as its LVL field gives it (R767). -/
def EvRec.isUF (e : EvRec) : Bool := decide (2 ≤ e.lvl.code)

/-- The newest queued record of LVL 0 or C removed, if there is one (R769); the queue lists the oldest first. -/
def Erc.displace : List EvRec → Option (List EvRec)
  | [] => none
  | e :: q =>
    match Erc.displace q with
    | some q' => some (e :: q')
    | none => if e.isUF then none else some q

/-- A record enters the write queue; the flag says that a record was displaced or dropped (R769). -/
def State.queueRec (s : State) (e : EvRec) : State × Bool :=
  if s.erc.queue.length < 1024 then ({ s with erc := { s.erc with queue := s.erc.queue ++ [e] } }, false)
  else
    let s := s.inc F.ERC_DROP_N
    let s := { s with erc := { s.erc with lost := s.erc.lost + 1 } }
    match (if e.isUF then Erc.displace s.erc.queue else none) with
    | some q => ({ s with erc := { s.erc with queue := q ++ [e] } }, true)
    | none => (s, true)

/-- The next event record of ordering source INTERNAL (R599, R632), at the present time. -/
def State.mkRec (s : State) (typ : Nat) (lvl : Level) (esc : Bool) (page code chan : Nat) : EvRec :=
  { typ := typ, lvl := lvl, esc := esc, src := 19, n := s.erc.count, t := s.tbu, page := page, code := code, chan := chan,
    eseq := 0, stream := 255, aux := 0, unit := 0, ref := 0, detail := [], ue := false }

/-- An event record is written (R768); a loss is reported through the flag. -/
def State.putRec (s : State) (e : EvRec) : State × Bool :=
  ({ s with erc := { s.erc with count := s.erc.count + 1 } } : State).queueRec e

/-! ### Reed broadcasts -/

/-- The bytes of a flit up to its CRC (R651). -/
def RFlit.body (f : RFlit) (lseq ack : Nat) : List Byte :=
  natLe 1 f.typ ++ natLe 1 f.vc ++ natLe 1 f.src ++ natLe 1 (f.dst % 64 + 64 * b2n f.bcast) ++ natLe 2 lseq ++
    natLe 2 ack ++ natLe 1 f.hops ++ natLe 3 0 ++ natLe 4 f.bseq ++ (f.payload ++ List.replicate 236 0).take 236

/-- A flit as it leaves: 256 bytes, the CRC-32C of R139 last (R651). -/
def RFlit.bytes (f : RFlit) (lseq ack : Nat) : List Byte :=
  f.body lseq ack ++ natLe 4 (crcOf crc32c (f.body lseq ack))

/-- State of one Reed port changed. -/
def State.rport (s : State) (p : Nat) (f : RPort → RPort) : State :=
  { s with reed := { s.reed with ports := updAt f p s.reed.ports } }

/-- Whether a Reed port is in UP (R649). -/
def State.rUp (s : State) (p : Nat) : Bool := s.rd F.REED_PSTAT_LSTATE p == 3

/-- Credits of a virtual channel on a link: 1 to 128, so that both channels' flits fit the retry buffer of 256 (R653, R655). -/
def vcCredits (vc : Nat) : Nat := Config.reedCredits vc % 128 + 1

/-- A port may send a flit of a virtual channel: the channel has a credit left, which a flit holds until ACKSEQ covers it (R653, R655;
DESIGN CHOICE, log 115), and the retry buffer has room. -/
def RPort.credit (r : RPort) (vc : Nat) : Bool :=
  decide ((r.retry.filter fun e => e.flit.vc == vc).length < vcCredits vc) && decide (r.retry.length < 256)

/-- A sequenced flit goes out with the next LSEQ and into the retry buffer (R653); a KEY flit counts a wrap (R705). -/
def State.rput (s : State) (p : Nat) (f : RFlit) : State :=
  match s.reed.ports[p]? with
  | none => s
  | some r =>
    let s := s.emit (.flit p (f.bytes r.txNext r.rxLast))
    let s := s.add64 R.REED_PTX_LO R.REED_PTX_HI 1 p
    s.rport p fun r => { r with
      wraps := if f.typ = 0x11 then r.wraps + 1 else r.wraps,
      txNext := (r.txNext + 1) % 2 ^ 16, retry := r.retry ++ [⟨r.txNext, f, s.cyc, 0⟩] }

/-- A sequenced flit of a port in UP goes out at once, or waits behind the flits of its own virtual channel (R653, R655). While the port
retrains, a flit that is no broadcast waits (R654, R659). -/
def State.rsend (s : State) (p : Nat) (f : RFlit) : State :=
  match s.reed.ports[p]? with
  | none => s
  | some r =>
    if s.rd F.REED_PSTAT_LSTATE p == 4 && !f.bcast then s.rport p fun r => { r with wait := r.wait ++ [f] }
    else if !s.rUp p then s
    else if r.credit f.vc && !(r.wait.any fun x => x.vc == f.vc) then s.rput p f
    else s.rport p fun r => { r with wait := r.wait ++ [f] }

/-- Flits that wait on a port leave as their channels have credits, those of VC 0 first (R655). -/
def State.rpump (s : State) (p : Nat) : Nat → State
  | 0 => s
  | n + 1 =>
    match s.reed.ports[p]? with
    | none => s
    | some r =>
      let next (vc : Nat) : Option RFlit := if r.credit vc then r.wait.find? fun x => x.vc == vc else none
      match (if (next 0).isSome then next 0 else next 1) with
      | none => s
      | some f => ((s.rport p fun r => { r with wait := r.wait.erase f }).rput p f).rpump p n

/-- DOWN (0x22) or UP (0x23) is broadcast on every port in UP (R584, R659). -/
def State.broadcast (s : State) (typ reason attempt : Nat) : State :=
  let f : RFlit :=
    { typ := typ, vc := 0, src := s.rd F.REED_GCFG_DEV, dst := 0, bcast := true, hops := 16,
      bseq := (s.reed.bseq + 1) % 2 ^ 32,
      payload := natLe 1 reason ++ natLe 3 0 ++ natLe 4 attempt ++ natLe 8 (guardTs s.ns) }
  ({ s with reed := { s.reed with bseq := (s.reed.bseq + 1) % 2 ^ 32 } } : State).upto (fun p s => s.rsend p f) 4

/-! ### The restart ledger -/

/-- Level at which the restart logic drives both compute-reset balls (R568): true is high. -/
def State.accLevel (s : State) : Bool := s.on F.ACB_CTRL_ACC_RUN && !s.acb.rst

/-- The variants of R581 in the order of the ledger entry: LONGRST, FULLRH, SKIPRPL, RELOAD. -/
def State.acbVariants (s : State) : Nat :=
  s.rd F.ACB_STAT_LONGRST + 2 * s.rd F.ACB_STAT_FULLRH + 4 * s.rd F.ACB_STAT_SKIPRPL + 8 * s.rd F.ACB_STAT_RELOAD

/-- The running attempt is written to the ledger of 8 entries, newest first, and as an event record (R582, R768). The flag says that
the recorder lost the record. -/
def State.acbLedger (s : State) (outcome cause : Nat) : State × Bool :=
  let e : AcbLedger :=
    { att := s.word R.ACB_RCNT, stream := s.acb.trigStream, step := s.rd F.ACB_STAT_STEP,
      outcome := outcome, variants := s.acb.vars, cause := cause, startNs := s.acb.startNs,
      durUs := (s.cyc - s.acb.startCyc) / 800 }
  let s := { s with acb := { s.acb with ledger := (e :: s.acb.ledger).take 8 } }
  let r := { s.mkRec 0x90 .none false 19 0x40 0 with
    ref := e.att, stream := e.stream,
    detail := natLe 1 e.step ++ natLe 1 e.outcome ++ natLe 1 e.variants ++ natLe 1 e.cause ++ natLe 4 e.durUs }
  s.putRec r

/-- A running attempt ends ABORTED_FATAL (3) or ABORTED_RESET (4): ACC_RUN takes the level of the balls, whose readbacks reach it
where the step was still to see them there, the quiesce stays and no variant is set (R568, R583). Flag as `acbLedger`. -/
def State.acbAbort (s : State) (outcome : Nat) : State × Bool :=
  if s.rd F.ACB_STAT_STEP = 0 then (s, false)
  else
    let r := s.acbLedger outcome 0
    let lv := b2n r.1.accLevel
    let s := r.1.wr F.ACB_CTRL_ACC_RUN lv
    let s := if r.1.rd F.ACB_STAT_STEP = 2 || r.1.rd F.ACB_STAT_STEP = 4 then (s.wr F.ACB_STAT_RBA lv).wr F.ACB_STAT_RBB lv else s
    (({ s with acb := { s.acb with rst := false } } : State).wr F.ACB_STAT_STEP 0, r.2)

end Sys2Proof.Machine
end

