-- ==== Sys2Proof/Machine/Flags.lean ====
section
/-!
DEFINITION. Every fault flag's path: an occurrence at the FCU, its level, its record, its interrupt and its reaction
(R523 to R530), the fatal latch (R531 to R533), and acknowledgement (R526).
-/
namespace Sys2Proof.Machine

/-- A fault report as a checker sends it: source, channel, the stream, unit and reference it names, its INJ flag
(R549), and whether a U-class report marks the stream's open results (R529). -/
structure Report where
  src : Src
  chan : Nat := 0
  stream : Option Nat := none
  aux : Nat := 0
  unit : Nat := 0
  ref : Nat := 0
  detail : List Byte := []
  inj : Bool := false
  mark : Bool := true
deriving DecidableEq, Repr

/-- Level of a source (R524, R555). -/
def State.level (s : State) (x : Src) : Level :=
  if x.num < 16 then Level.ofCode (s.word R.FCU_PLVL0 x.page / 4 ^ x.num % 4)
  else Level.ofCode (s.word R.FCU_PLVL1 x.page / 4 ^ (x.num - 16) % 4)

/-- A source takes a level. -/
def State.setLevel (s : State) (x : Src) (l : Level) : State :=
  if x.num < 16 then
    s.setWord R.FCU_PLVL0 (setBits (2 * x.num + 1) (2 * x.num) l.code (s.word R.FCU_PLVL0 x.page)) x.page
  else
    s.setWord R.FCU_PLVL1 (setBits (2 * (x.num - 16) + 1) (2 * (x.num - 16)) l.code (s.word R.FCU_PLVL1 x.page)) x.page

/-- Whether a source's _FLT bit is set (R69). -/
def State.flt (s : State) (x : Src) : Bool := bit x.num (s.word R.HEAD_FLT x.page)

/-- A source's _FLT bit takes a value. -/
def State.setFlt (s : State) (x : Src) (b : Bool) : State :=
  s.setWord R.HEAD_FLT (setBits x.num x.num (b2n b) (s.word R.HEAD_FLT x.page)) x.page

/-- Whether reporting of a source is enabled (R70): always for U and F class. The store holds the disabled C-class
sources of the page. -/
def State.enabled (s : State) (x : Src) : Bool :=
  !(decide (x.cls = .c) && bit x.num (s.word R.HEAD_FLTDIS x.page))

/-- Every open result of a stream is marked incomplete (R170, R529, R530); a stream that is not admitted keeps its
state (R552). -/
def State.markOpen (s : State) (st : Nat) : State :=
  { s with slots := mapIf (fun r => r.stream == st && !r.closed) (fun r => { r with incomplete := true }) s.slots }

/-- Whether the fatal latch is set (R531). -/
def State.fatal (s : State) : Bool := s.on F.FCU_STAT_LATCH

/-- An occurrence is recorded: FCU_LAST, the page's counts, FCU_FIRSTF at the first F since the release (of several in one cycle, the lowest page and
source: R552), the event
record and the interrupt (R527, R528). The flag says that the recorder lost a record. -/
def State.recordOcc (s : State) (r : Report) (l : Level) (esc : Bool) : State × Bool :=
  let x := r.src
  let w := x.page + 32 * x.num + 1024 * l.code + 4096 * b2n esc + 65536 * (r.chan % 65536)
  let s := s.setWord R.FCU_LAST w
  let s := s.wrTime R.FCU_LAST_NS R.FCU_LAST_SEC_LO R.FCU_LAST_SEC_HI s.ns
  let s := (s.inc F.FCU_PCNT_N x.page).when esc fun s => s.inc F.FCU_PESC_N x.page
  let first := match s.ssc.firstFAt with
    | none => true
    | some c => decide (c = s.cyc) && decide (32 * x.page + x.num < 32 * s.rd F.FCU_FIRSTF_PAGE + s.rd F.FCU_FIRSTF_SRC)
  let s := s.when (decide (l = .f) && first) fun s =>
    let s := s.setWord R.FCU_FIRSTF
      (x.page + 32 * x.num + 4096 * b2n esc + 2 ^ 15 + 65536 * (r.chan % 65536))
    let s := s.wrTime R.FCU_FIRSTF_NS R.FCU_FIRSTF_SEC_LO R.FCU_FIRSTF_SEC_HI s.ns
    let c := s.cyc
    { s with ssc := { s.ssc with firstFAt := some c } }
  let s := s.when (decide (l = .u) || decide (l = .f) || s.on F.FCU_IRQ_CIRQ) fun s => s.msix 0 (s.rd F.FCU_IRQ_VEC)
  s.putRec { s.mkRec 0x90 l esc x.page x.num r.chan with
    stream := r.stream.getD 255, aux := r.aux, unit := r.unit, ref := r.ref, detail := r.detail }

/-- How many occurrences of a source the present cycle has had. -/
def State.countNow (s : State) (x : Src) : Nat :=
  if s.erc.nowAt = s.cyc then (s.erc.now.filter (· == (x.page, x.num))).length else 0

/-- A W1C of a source's bit has been applied in the present cycle (R524, R552). -/
def State.ackedNow (s : State) (x : Src) : Bool := decide (s.erc.ackAt = s.cyc) && s.erc.acks.contains (x.page, x.num)

/-- A W1C of a source's bit is one of the present cycle. -/
def State.noteAck (s : State) (x : Src) : State :=
  let t := s.cyc
  { s with erc := { s.erc with ackAt := t, acks := (x.page, x.num) :: (if s.erc.ackAt = t then s.erc.acks else []) } }

/-- The level an occurrence takes (R524). The first one after a W1C of its own cycle takes the source's class, also where the cause persists
and the bit has set again (R552). -/
def State.occLevel (s : State) (x : Src) : Level :=
  if s.flt x && !(s.ackedNow x && s.countNow x == 0) then (s.level x).above else x.cls

/-- The stream that an occurrence affects (R529, R530): the one it names, or the owner of the joint that raised it. -/
def State.affected (s : State) (r : Report) : Option Nat :=
  if r.stream.isNone && r.src.page == 17 && decide (r.src.num ≤ 3) && decide (r.chan < 64) && s.on F.AEU_JCFG_EN r.chan
  then some (s.rd F.AEU_JCFG_STREAM r.chan) else r.stream

/-- An occurrence of a source is one of the present cycle (R524). -/
def State.noteNow (s : State) (x : Src) : State :=
  let t := s.cyc
  { s with erc := { s.erc with nowAt := t, now := (x.page, x.num) :: (if s.erc.nowAt = t then s.erc.now else []) } }

/-- A genuine occurrence (R523 steps 1, 3 and 4) short of the fatal reaction. The first flag says that its level is
F, the second that the recorder lost a record. -/
def State.occur (s : State) (r : Report) : State × Bool × Bool :=
  if !s.enabled r.src then (s.setFlt r.src true, false, false)
  else
    let l := s.occLevel r.src
    let esc := decide (l.code > r.src.cls.code)
    let s := (s.setFlt r.src true).setLevel r.src l
    let (s, lost) := (s.noteNow r.src).recordOcc r l esc
    let s := match l, s.affected r with
      | .u, some st => if esc || r.mark then s.markOpen st else s
      | _, _ => s
    (s, decide (l = .f), lost)

/-- The running transaction has a staging entry for a register. -/
def State.stages (s : State) (r : Reg) (a : Nat := 0) (b : Nat := 0) : Bool :=
  s.txn.staging.any fun e => e.key == r.key a b

/-- Every staged image descriptor reads a RESULT (R339): 5 not applied, 1 applied. -/
def State.txnDescs (s : State) (res : Nat) : State :=
  let s := s.upto (fun d s => s.when (s.stages R.VDU_PLD_CTRL d) fun s => s.setWord R.VDU_PLD_STAT res d) 4
  s.upto (fun d s => s.when (s.stages R.MNT_IMG_CTRL d) fun s => s.setWord R.MNT_IMG_STAT res d) 2

/-- A transaction ends: IDLE with its outcome, staging discarded, and a waiting lock takes effect (R80, R83, R93). -/
def State.txnEnd (s : State) (last : Nat) : State :=
  let s := s.txnDescs (if last = 1 then 1 else 5)
  let s := (((s.wr F.GLB_TXN_STAT_STATE 0).wr F.GLB_TXN_STAT_LAST last).wr F.GLB_TXN_STAT_NSTG 0).wr F.GLB_TXN_STAT_OVF 0
  let s := s.when (s.on F.GLB_LOCK_PENDING) fun s => (s.wr F.GLB_LOCK_PENDING 0).wr F.GLB_LOCK_LOCKED 1
  { s with txn := Txn.reset, before := none }

/-- Every drive ball of the safe outputs at 0, by the always-on path (R511, R533); the readback of a ball that falls follows. The next
tick ends a brake test and records the fall (R511, R514). -/
def State.forceOutputs (s : State) : State :=
  let s := s.upto (fun n s =>
    let s := (s.when (s.on F.SBO_STAT_DRVA n) fun s => s.wr F.SBO_STAT_RBA 0 n).wr F.SBO_STAT_DRVA 0 n
    (s.when (s.on F.SBO_STAT_DRVB n) fun s => s.wr F.SBO_STAT_RBB 0 n).wr F.SBO_STAT_DRVB 0 n) 24
  let s := s.when (s.rd F.SIO_BTSTAT_STATE != 0) fun s =>
    { s with sio := { s.sio with bt := { s.sio.bt with stop := some (7, false) } } }
  s.wr F.SIO_STAT_FORCED 1

/-- What the setting of the fatal latch forces (R533, R551, R544, R552, R583, R455): the latch and the safe state, every drive ball
low, no expected entry, no restart reaction or attempt, no hold frame. The flag says that the recorder lost the attempt's record. -/
def State.latchFatal (s : State) : State × Bool :=
  let s := (s.wr F.FCU_STAT_LATCH 1).wr F.SSC_STAT_SAFE 1
  let s := (s.wr F.VDU_STAT_FORCE 1).forceOutputs
  let s := { s with balls := { s.balls with safeN := false, cicada := false }, inj := [] }
  let s := (s.upto (fun p s => s.wr F.HEAD_INJ_ARMED 0 p) 28).wr F.FCU_STAT_NARMED 0
  let r := (s.wr F.SSC_STAT_RESTART 0).acbAbort 3
  ({ r.1 with ssc := { r.1.ssc with restartAt := none }, tsn := r.1.tsn.dropHold r.1.ns }, r.2)

/-- The armed limit (R96, R97): the cycle at which an ARMED commit expires. -/
def State.armedEnd (s : State) : Nat := s.txn.armedAt + msC (s.rd F.GLB_TXN_ARMLIM_MS)

/-- TBU time has reached the commit time of a commit of mode TIME (R92). -/
def State.timeReached (s : State) : Bool :=
  s.txn.mode == 2 &&
    (match s.txn.dueAt with
     | some d => decide (d ≤ s.cyc)
     | none => decide (s.txn.commitNs * nsU ≤ s.tbu))

/-- The cycle in which TBU time reached the commit time, or, where a step moved it past, the first after the step (R96). -/
def State.reachedCyc (s : State) : Nat :=
  s.txn.dueAt.getD (s.cyc - (s.tbu - s.txn.commitNs * nsU) / max 1 s.cycleUnits)

/-- The apply instant of an ARMED commit of mode TIME has come, no later than its armed limit: the apply proceeds (R92, R97). -/
def State.applyDue (s : State) : Bool :=
  s.rd F.GLB_TXN_STAT_STATE == 3 && s.timeReached && decide (s.reachedCyc ≤ s.armedEnd)

/-- An ARMED commit whose limit has passed before its boundary has expired (R97). -/
def State.expired (s : State) : Bool :=
  s.rd F.GLB_TXN_STAT_STATE == 3 && decide (s.armedEnd < s.cyc) && !s.applyDue

/-- The fabric cycle in which the open timer expires (R89). -/
def State.openEnd (s : State) : Nat := s.txn.openAt + msC s.txn.timeoutMs

/-- A transaction in OPEN whose timer has expired (R89). -/
def State.timedOut (s : State) : Bool := s.rd F.GLB_TXN_STAT_STATE == 1 && decide (s.openEnd ≤ s.cyc)

/-- A running transaction ends FAULT at an F-level occurrence, or as its own timer has ended it before (R89, R97); one past OPEN raises
COMMIT_FAIL. The flag says that the recorder lost its record. -/
def State.faultTxn (s : State) : State × Bool :=
  let st := s.rd F.GLB_TXN_STAT_STATE
  if st = 0 || st = 4 || s.applyDue then (s, false)
  else if st = 1 && !s.timedOut then (s.txnEnd 11, false)
  else
    let r := if s.timedOut then (s.txnEnd 3).occur { src := S.GLB_TXN_TIMEOUT }
      else (s.txnEnd (if s.expired then 9 else 11)).occur { src := S.GLB_COMMIT_FAIL }
    (r.1, r.2.2)

/-- The effects of an F-level occurrence (R533); at the setting of the latch ACC_DOWN is broadcast with reason SAFE (R584). Flag as
`faultTxn`. -/
def State.fatalEffects (s : State) : State × Bool :=
  let l := s.latchFatal
  let r := l.1.faultTxn
  ((if s.fatal || r.1.balls.coreLoss then r.1 else r.1.broadcast 0x22 2 0), l.2 || r.2)

/-- A report reaches the FCU and is genuine: its reaction in full. A record lost by the recorder raises REC_DROP once;
the loss of that occurrence's own record raises nothing more (R769). -/
def State.genuine (s : State) (r : Report) : State :=
  let (s, f, lost) := s.occur r
  let (s, lost2) := if f then s.fatalEffects else (s, false)
  if lost || lost2 then
    let (s, f, _) := s.occur { src := S.ERC_REC_DROP }
    if f then s.fatalEffects.1 else s
  else s

/-- The expected entry a report with INJ set consumes: page, source and channel match and the window is open (R550). -/
def State.consumer (s : State) (r : Report) : Option InjEntry :=
  s.inj.find? fun e =>
    e.page == r.src.page && e.src == r.src.num && e.chan == r.chan &&
      (match e.injectedAt with
       | some c => decide (s.cyc ≤ c + s.rd F.FCU_INJWIN_CYC)
       | none => false)

/-- An expected entry goes, and ARMED of its page clears with the page's last entry (R547, R550). -/
def State.dropInj (s : State) (e : InjEntry) : State :=
  let s := { s with inj := s.inj.erase e }
  let s := if s.inj.any fun x => x.page == e.page then s else s.wr F.HEAD_INJ_ARMED 0 e.page
  s.wr F.FCU_STAT_NARMED s.inj.length

/-- A fault report arrives at the FCU (R523, R550). -/
def State.report (s : State) (r : Report) : State :=
  match (if r.inj then s.consumer r else none) with
  | some e => ((s.dropInj e).inc F.FCU_INJPASS_N).inc F.FCU_PINJ_PASS e.page
  | none => s.genuine r

/-- A source raises an occurrence that names a channel at most. -/
def State.raise (s : State) (x : Src) (chan : Nat := 0) : State := s.report { src := x, chan := chan }

/-- A source raises an occurrence that names a stream. -/
def State.raiseSt (s : State) (x : Src) (st : Nat) (chan : Nat := 0) (unit : Nat := 0) (ref : Nat := 0) : State :=
  s.report { src := x, chan := chan, stream := some st, unit := unit, ref := ref }

/-- The ACCESS fault of the GLB page. -/
def State.access (s : State) : State := s.raise S.GLB_ACCESS

/-- An event record that is no fault (R768); a lost record raises REC_DROP (R769). -/
def State.event (s : State) (page code : Nat) (f : EvRec → EvRec) : State :=
  let (s, lost) := s.putRec (f (s.mkRec 0x90 .none false page code 0))
  if lost then s.raise S.ERC_REC_DROP else s

/-- A transaction fails after its COMMIT: COMMIT_FAIL is raised (R82). -/
def State.txnFail (s : State) (last : Nat) : State := (s.txnEnd last).raise S.GLB_COMMIT_FAIL

/-- Streams that stop being admitted end an ARMED commit whose boundary, sampled at its COMMIT, names one of them, with NOSTREAM, or
EXPIRED where its limit has passed before (R90, R97). -/
def State.boundLost (s : State) (is : List Nat) : Option Nat :=
  if s.rd F.GLB_TXN_STAT_STATE == 3 && s.txn.mode == 1 && is.contains s.txn.stream then some (if s.expired then 9 else 10) else none

/-- A transaction whose boundary is lost fails. -/
def State.txnLost (s : State) (last : Option Nat) : State :=
  match last with
  | some l => s.txnFail l
  | none => s

/-- A stop of the transaction by ABORT or by the loss of PF0 (R97): before a COMMIT it only ends; after one, any
outcome but ABORTED is a failed COMMIT. From the apply instant on it has no effect, and one whose own timer has ended it before keeps that
outcome. -/
def State.txnStop (s : State) (last : Nat) : State :=
  if s.applyDue then s
  else if s.timedOut then (s.txnEnd 3).raise S.GLB_TXN_TIMEOUT
  else if s.expired then s.txnFail 9
  else
  match s.rd F.GLB_TXN_STAT_STATE with
  | 1 => s.txnEnd last
  | 2 | 3 => if last = 2 then s.txnEnd last else s.txnFail last
  | _ => s

end Sys2Proof.Machine
end

