-- ==== Sys2Proof/Machine/Envelope.lean ====
section
/-!
DEFINITION. The action envelope unit (R468 to R487): joint configuration, measured state, history, and the judgement of
one command in exact integer arithmetic.
-/
namespace Sys2Proof.Machine

/-- Joint state changed. -/
def State.joint (s : State) (j : Nat) (f : Joint → Joint) : State := { s with joints := updAt f j s.joints }

/-- Joint state read. -/
def State.jt (s : State) (j : Nat) : Joint := s.joints.getD j Joint.reset

/-- A signed 32-bit register. -/
def State.sword (s : State) (r : Reg) (a : Nat := 0) : Int := toSigned 32 (s.word r a)

/-- A joint's configuration is inconsistent (R469). -/
def State.jointBad (s : State) (j : Nat) : Bool :=
  decide (s.sword R.AEU_JPMIN j ≥ s.sword R.AEU_JPMAX j) ||
  s.word R.AEU_JVMAX j == 0 || s.word R.AEU_JAMAX j == 0 || s.word R.AEU_JJMAX j == 0 || s.word R.AEU_JABRK j == 0 ||
  decide (s.word R.AEU_JABRK j > s.word R.AEU_JAMAX j) ||
  s.rd F.AEU_JDT_DTMIN j == 0 || decide (s.rd F.AEU_JDT_DTMIN j > s.rd F.AEU_JDT_DTMAX j) ||
  s.rd F.AEU_JTIME_ENCAGE j == 0

/-- The joint is enabled and consistent. -/
def State.jointOk (s : State) (j : Nat) : Bool := s.on F.AEU_JCFG_EN j && !s.on F.AEU_JSTAT_CFGBAD j

/-- A bit of a pair of registers that shows one bit for each of 64 units. -/
def State.wrBit64 (s : State) (lo hi : Reg) (i : Nat) (b : Bool) : State :=
  if i < 32 then s.setWord lo (setBits i i (b2n b) (s.word lo))
  else s.setWord hi (setBits (i - 32) (i - 32) (b2n b) (s.word hi))

/-- Bit `i` of such a pair. -/
def State.rdBit64 (s : State) (lo hi : Reg) (i : Nat) : Bool :=
  if i < 32 then bit i (s.word lo) else bit (i - 32) (s.word hi)

/-- AT_REST of a joint takes a value (R481). -/
def State.setRest (s : State) (j : Nat) (b : Bool) : State :=
  (s.wr F.AEU_JSTAT_AT_REST (b2n b) j).wrBit64 R.AEU_REST_LO R.AEU_REST_HI j b

/-- ENC_OK of a joint takes a value (R470). -/
def State.setEncOk (s : State) (j : Nat) (b : Bool) : State :=
  (s.wr F.AEU_JSTAT_ENC_OK (b2n b) j).wrBit64 R.AEU_ENCOK_LO R.AEU_ENCOK_HI j b

/-- The rest interval of a joint ends (R481). -/
def State.endRest (s : State) (j : Nat) : State :=
  (s.joint j fun x => { x with rest := none }).setRest j false

/-- A joint's history is emptied (R473). -/
def State.reseed (s : State) (j : Nat) : State :=
  (((s.joint j fun x => { x with hist := [] }).wr F.AEU_JSTAT_SEEDED 0 j).wr F.AEU_JSTAT_FROMHOLD 0 j).setWord R.AEU_JLASTP 0 j

/-- The histories of the joints a stream owns are emptied (R473). -/
def State.reseedStream (s : State) (st : Nat) : State :=
  s.upto (fun j s => if s.rd F.AEU_JCFG_STREAM j = st then s.reseed j else s) 64

/-- A measured state, or none, is stale at the present time (R470). -/
def State.oldMeas (s : State) (j : Nat) : Option (Nat × Nat × Int × Int) → Bool
  | none => true
  | some (_, t, _, _) => decide (s.ns > t + s.rd F.AEU_JTIME_ENCAGE j * 1000)

/-- The measured state is stale at the present time (R470). -/
def State.encStale (s : State) (j : Nat) : Bool := s.oldMeas j (s.jt j).meas

/-- The measured state that a judgement uses: the one before the frames of its own cycle (R483). -/
def State.judgeMeas (s : State) (j : Nat) : Option (Nat × Nat × Int × Int) :=
  if (s.jt j).measAt = s.cyc then (s.jt j).prev else (s.jt j).meas

/-- A joint takes a measured state; the one from before the present cycle is kept for its judgements (R483). -/
def Joint.measure (x : Joint) (now : Nat) (m : Nat × Nat × Int × Int) : Joint :=
  { x with meas := some m, prev := if x.measAt = now then x.prev else x.meas, measAt := now }

/-- Big-endian signed 32-bit value at a payload offset (R11). -/
def beS32 (o : Nat) (bs : List Byte) : Int := toSigned 32 (beNat (slice o 4 bs))

/-- One joint takes a guarded encoder frame (R470) and tracks its rest interval (R481). A joint of inconsistent configuration is
treated as disabled and takes none (R469). -/
def State.encJoint (s : State) (g : GFrame) (j : Nat) : State :=
  if !s.jointOk j || s.rd F.AEU_JCFG_ENC_ID j != g.id then s
  else
    let q := beS32 (s.rd F.AEU_JENC_POSOFF j) g.payload
    let v := beS32 (s.rd F.AEU_JENC_VELOFF j) g.payload
    let wasStale := s.encStale j
    let now := s.cyc
    let s := s.joint j fun x => x.measure now (g.fcnt, g.sfd, q, v)
    let s := (s.setWord R.AEU_JMEASP (ofSigned 32 q) j).setWord R.AEU_JMEASV (ofSigned 32 v) j
    let s := s.setEncOk j true
    let slow := decide (v.natAbs ≤ s.word R.AEU_JRESTV j)
    let keep := match (s.jt j).rest with
      | some (q0, _) => slow && !wasStale && decide ((q - q0).natAbs ≤ s.rd F.AEU_JREST_REST_DQ j)
      | none => false
    if keep then
      match (s.jt j).rest with
      | some (_, t0) => s.setRest j (decide (g.sfd ≥ t0 + s.rd F.AEU_JREST_REST_T j * 1000000))
      | none => s
    else if slow then ((s.joint j fun x => { x with rest := some (q, g.sfd) })).setRest j (s.rd F.AEU_JREST_REST_T j == 0)
    else s.endRest j

/-- A guarded frame is offered to every joint. -/
def State.encFrame (s : State) (g : GFrame) : State := s.upto (fun j s => s.encJoint g j) 64

/-- Sign of an integer. -/
def sgn (i : Int) : Int := if i > 0 then 1 else if i < 0 then -1 else 0

/-- The stopping point of (p, n / d PU/s) lies from `lo` to `hi` (R478); `d` is positive. -/
def stopInside (p n d : Int) (abrk treact : Nat) (lo hi : Int) : Bool :=
  let m : Int := 2 * (abrk : Int) * d * d * 1000000
  let x := p * m + sgn n * (n * n * 1000000 + (n.natAbs : Int) * d * (treact : Int) * 2 * (abrk : Int))
  decide (lo * m ≤ x) && decide (x ≤ hi * m)

/-- The kinematic group of R477 for a command against its three predecessors: the reason of the first check that fails,
or 0. Times are nanoseconds; every comparison is by cross-multiplication (R475). -/
def State.kinematic (s : State) (j : Nat) (pn tn : Int) (p0 t0 p1 t1 p2 t2 qm vm : Int) : Nat :=
  let d0 := tn - t0
  let d1 := t0 - t1
  let d2 := t1 - t2
  let n0 := pn - p0
  let n1 := p0 - p1
  let n2 := p1 - p2
  let e9 : Int := 10 ^ 9
  let a := n0 * d1 - n1 * d0
  let da := d0 * d0 * d1
  let b := n1 * d2 - n2 * d1
  let db := d1 * d1 * d2
  let lo := s.sword R.AEU_JPMIN j
  let hi := s.sword R.AEU_JPMAX j
  let abrk := s.word R.AEU_JABRK j
  let treact := s.rd F.AEU_JTIME_TREACT j
  let le (x y : Int) : Bool := decide (x.natAbs ≤ y.natAbs)
  if !(decide (lo ≤ pn) && decide (pn ≤ hi)) then 11
  else if !le (n0 * e9) (s.word R.AEU_JVMAX j * d0) then 6
  else if !le (a * e9 * e9) (s.word R.AEU_JAMAX j * da) then 12
  else if !le (e9 * e9 * e9 * (a * db - b * da)) (s.word R.AEU_JJMAX j * 1000 * (da * db * d0)) then 7
  else if !le (s.word R.AEU_JKA j * a * e9 * e9 + s.word R.AEU_JKV j * n0 * e9 * d0 * d1)
      (s.word R.AEU_JTQMAX j * 1000000 * da) then 8
  else if !(stopInside pn (n0 * e9) d0 abrk treact lo hi && stopInside qm vm 1 abrk treact lo hi) then 9
  else 0

/-- The history seeded from a measured state (R473). -/
def seedHist (q v : Int) (tm dtmin : Nat) : List (Int × Int) :=
  let e (i : Int) : Int × Int := (q - Int.tdiv (v * i * (dtmin : Int)) 1000000, (tm : Int) - i * (dtmin : Int) * 1000)
  [(q, tm), e 1, e 2]

/-- One command is judged (R474 to R478). `who` is the ACTION record's stream, or none for a hold step; `arrival` the
record's arrival stamp; `dup` that its record names the joint twice; `pre` the earlier commands of the same result for
the joint, the newest first. A command that entered a history emptied after its judgement does not make it a seeded one
(DEDUCED). The sign of v₀ is that of (p₀ − p₁) × (t₀ − t₁), and equal times are compared as the products stand (R475, log 143). Answers the reason, 0 for an accepted command, and the state with a seeded history. -/
def State.judge (s : State) (j : Nat) (pn tn : Int) (who : Option Nat) (arrival : Int) (dup : Bool)
    (pre : List (Int × Int)) : Nat × State :=
  let owner := match who with
    | some st => s.rd F.AEU_JCFG_STREAM j == st
    | none => s.on F.AEU_JCFG_HOLD j
  if decide (64 ≤ j) || !s.jointOk j || !owner || dup then (1, s)
  else if !s.on F.AEU_CTRL_EN then (2, s)
  else
    let meas := s.judgeMeas j
    let stale := s.oldMeas j meas
    let empty := decide ((s.jt j).hist.length + pre.length < 3)
    if empty && stale then (4, s)
    else
      let s := match empty, meas with
        | true, some (_, tm, q, v) =>
          let s := s.joint j fun x => { x with hist := seedHist q v tm (s.rd F.AEU_JDT_DTMIN j) }
          ((s.wr F.AEU_JSTAT_SEEDED 1 j).wr F.AEU_JSTAT_FROMHOLD 0 j).setWord R.AEU_JLASTP (ofSigned 32 q) j
        | _, _ => s
      match pre ++ (s.jt j).hist with
      | (p0, t0) :: (p1, t1) :: (p2, t2) :: _ =>
        let dt := tn - t0
        if !(decide ((s.rd F.AEU_JDT_DTMIN j * 1000 : Nat) ≤ dt) && decide (dt ≤ (s.rd F.AEU_JDT_DTMAX j * 1000 : Nat)) &&
            decide (arrival ≤ tn)) then (3, s)
        else
        match (if stale then none else meas) with
        | none => (4, s)
        | some (_, _, qm, vm) =>
        if (pn - qm).natAbs > s.word R.AEU_JTRK j then (5, s)
        else
          let r := s.kinematic j pn tn p0 t0 p1 t1 p2 t2 qm vm
          let rev := decide ((pn - p0) * ((p0 - p1) * (t0 - t1)) < 0) ||
            (decide ((pn - qm) * vm < 0) && decide (vm.natAbs > s.word R.AEU_JRESTV j))
          (if r = 0 then 0 else if rev then 10 else r, s)
      | _ => (4, s)

/-- A judged entry is counted; a rejection is shown in AEU_LASTREJ (R486). -/
def State.countJudged (s : State) (j reason : Nat) (who : Option Nat) : State :=
  let s := s.inc F.AEU_JUDGED_N
  if reason = 0 then s
  else
    let s := ((s.inc F.AEU_REJECTS_N).inc F.AEU_JREJ_N j).wr F.AEU_JSTAT_LASTREASON reason j
    s.setWord R.AEU_LASTREJ (j % 64 + 64 * who.getD 0 + 4096 * b2n who.isNone + 65536 * reason)

/-- A command becomes c₀ of its joint (R471). -/
def State.accept (s : State) (j : Nat) (p t : Int) (hold : Bool) : State :=
  let s := s.joint j fun x => { x with hist := ((p, t) :: x.hist).take 3 }
  ((s.setWord R.AEU_JLASTP (ofSigned 32 p) j).wr F.AEU_JSTAT_SEEDED 1 j).wr F.AEU_JSTAT_FROMHOLD (b2n hold) j

/-- A hold command of a joint has been accepted: results that still wait, and have an ACTION record of the joint judged, do not enter
their commands for it (R472). -/
def State.heldJoint (s : State) (j : Nat) : State :=
  let hit (r : Slot) : Bool := !r.formed && r.acts.any fun a => a.judged && a.ents.any fun e => e.1 == j
  { s with slots := mapIf hit (fun r => { r with acts := r.acts.map fun a => { a with held := j :: a.held } }) s.slots }

/-- Number of enabled, consistent joints shown in AEU_STAT (R484). -/
def State.countJoints (s : State) : State :=
  s.wr F.AEU_STAT_NJEN ((List.range 64).filter fun j => s.jointOk j).length

/-- One joint after an applied transaction that changed it (R469, R470, R473, R481); `old` is the state before. A joint that is disabled,
or names another encoder stream, has no measured state until a frame of its stream arrives; ENC_OK and AT_REST of any other follow the
new limits. A joint of inconsistent configuration counts as disabled, and as enabled anew once it is consistent. -/
def State.aeuJoint (old s : State) (j : Nat) : State :=
  let en := s.on F.AEU_JCFG_EN j
  let bad := en && s.jointBad j
  let s := s.wr F.AEU_JSTAT_CFGBAD (b2n bad) j
  let s := s.when bad fun s => s.raise S.AEU_CFG_BAD j
  let s :=
    if !en || bad || s.rd F.AEU_JCFG_ENC_ID j != old.rd F.AEU_JCFG_ENC_ID j then
      ((s.joint j fun x => { x with meas := none, prev := none }).setEncOk j false).endRest j
    else
      let s := s.when (!s.encStale j) fun s => s.setEncOk j true
      match (s.jt j).rest with
      | some (_, t0) => s.setRest j (!s.encStale j && decide (t0 + s.rd F.AEU_JREST_REST_T j * 1000000 ≤ s.ns))
      | none => s
  s.when ((s.jointOk j && !old.jointOk j) || s.rd F.AEU_JCFG_STREAM j != old.rd F.AEU_JCFG_STREAM j) fun s => s.reseed j

/-- ENC_STALE: an enabled joint's measured state becomes stale; raised while its owner stream is admitted (R470, R481,
R487). -/
def opEncStale (admitted : Nat → Bool) (j : Nat) (s : State) : State :=
  match s.jointOk j && s.on F.AEU_JSTAT_ENC_OK j, (s.jt j).meas with
  | true, some (_, tm, _, _) =>
    let s := s.reachNs (tm + s.rd F.AEU_JTIME_ENCAGE j * 1000 + 1)
    let s := (s.setEncOk j false).endRest j
    s.when (admitted (s.rd F.AEU_JCFG_STREAM j)) fun s => s.raise S.AEU_ENC_STALE j
  | _, _ => s

/-- AT_REST_REACHED: a joint's rest interval reaches REST_T (R481). -/
def opAtRestReached (j : Nat) (s : State) : State :=
  match s.jointOk j, (s.jt j).rest with
  | true, some (_, t0) =>
    let s := s.reachNs (t0 + s.rd F.AEU_JREST_REST_T j * 1000000)
    s.when (!s.encStale j) fun s => s.setRest j true
  | _, _ => s

/-- RESEED (R473, R485). -/
def opReseed (j : Nat) (s : State) : State := s.reseed j

/-- AEU_CLR (R486). -/
def opAeuClr (s : State) : State :=
  ((s.setWord R.AEU_JUDGED 0).setWord R.AEU_REJECTS 0).upto (fun j s => s.setWord R.AEU_JREJ 0 j) 64

end Sys2Proof.Machine
end

