-- ==== Sys2Proof/Machine/Time.lean ====
section
/-!
DEFINITION. The time base unit (R592 to R599): steps, the servo, and its states.
-/
namespace Sys2Proof.Machine

/-- Whether any stream is admitted. -/
def State.anyAdmitted (s : State) : Bool := s.streams.any fun x => x.admitted

/-- A time in ns moved by a step, not below 0. -/
def shiftNs (off : Int) (t : Nat) : Nat := ((t : Int) + off).toNat

/-- Stamps of an egress port: its frames' host TLPs and ingress SFDs, the end of its transmission, its open exchange, its relayed Sync. -/
def EthPort.shift (x : EthPort) (off : Int) : EthPort :=
  let q (f : QFrame) : QFrame := { f with
    hostAt := f.hostAt.map (shiftNs off), ingress := f.ingress.map fun y => (y.1 + off * 65536, y.2), entered := shiftNs off f.entered }
  { x with
    queues := x.queues.map fun fs => fs.map q, busyNs := shiftNs off x.busyNs, reqT1 := x.reqT1.map (· + off * 65536),
    prev := x.prev.map fun y => (y.1, y.2 + off * 65536), fup := x.fup.map fun y => (y.1, y.2 + off * 65536) }

/-- Stamps of the bridge: its ports, digests, flow meters, and Sync messages. -/
def Tsn.shift (t : Tsn) (off : Int) : Tsn :=
  { t with
    ports := t.ports.map (·.shift off), digests := t.digests.map fun d => { d with sfd := shiftNs off d.sfd },
    tokens := t.tokens.map fun x => (x.1, x.2.1, shiftNs off x.2.2),
    syncWait := t.syncWait.map fun w => { w with stamp := w.stamp + off * 65536 },
    relay := t.relay.map fun r => { r with stamp := r.stamp + off * 65536 },
    lastSync := t.lastSync.map (· + off * 65536) }

/-- Stamps of a result: its first record, its deadline, its END_RESULT. -/
def Slot.shift (r : Slot) (off : Int) : Slot :=
  { r with tfirst := shiftNs off r.tfirst, deadline := shiftNs off r.deadline, dlast := r.dlast.map (shiftNs off) }

/-- Stamps of the records that a tap port takes in or holds. -/
def TapPort.shift (x : TapPort) (off : Int) : TapPort :=
  { x with
    stamp := shiftNs off x.stamp, tlpAt := shiftNs off x.tlpAt, recs := x.recs.map fun r => { r with stamp := shiftNs off r.stamp },
    whole := x.whole.map fun y => (y.1, shiftNs off y.2.1, y.2.2) }

/-- Stamps of a joint: its measured state and its rest. -/
def Joint.shift (j : Joint) (off : Int) : Joint :=
  let f : Nat × Nat × Int × Int → Nat × Nat × Int × Int := fun (c, t, q, v) => (c, shiftNs off t, q, v)
  { j with meas := j.meas.map f, prev := j.prev.map f, rest := j.rest.map fun (q, t) => (q, shiftNs off t) }

/-- Every stored stamp from which a running interval is measured, and every limit derived from one, moves by the step (R596).
Timers that count cycles keep their length by themselves. The last-pass time of a brake test stays, for R510 compares it with the
TBU time as it is, and so does the arrival of an ACTION record, which R475 compares with an absolute TAPPLY (DEDUCED, log 120). -/
def State.shiftStamps (s : State) (off : Int) : State :=
  let f := shiftNs off
  let g (x : Nat) : Nat := ((x : Int) + off * 65536).toNat
  { s with
    slots := s.slots.map (·.shift off),
    streams := s.streams.map fun x => { x with
      bucketAt := f x.bucketAt, emitQ := x.emitQ.map fun e => (e.1, e.2.map fun v => { v with formed := f v.formed }) },
    kcu := { s.kcu with wait := s.kcu.wait.map fun c => { c with hostAt := c.hostAt.map f } },
    taps := s.taps.map (·.shift off),
    vdu := { s.vdu with rings := s.vdu.rings.map fun r => { r with lostFrom := f r.lostFrom, lostTo := f r.lostTo } },
    acb := { s.acb with table := s.acb.table.map fun e => { e with begunNs := f e.begunNs } },
    joints := s.joints.map (·.shift off),
    mnt := { s.mnt with frames := s.mnt.frames.map fun x => { x with sfd := f x.sfd } },
    tsn := s.tsn.shift off,
    reed := { s.reed with t0 := s.reed.t0.map g, lastEx := s.reed.lastEx.map g } }

/-- A step of the time, which had been as in `was`, while a commit of mode TIME is ARMED (R96): one past the commit time makes the first
cycle after it the apply instant; an apply instant that has come stays. -/
def State.armedStep (was s : State) : State :=
  if s.rd F.GLB_TXN_STAT_STATE = 3 && s.txn.mode == 2 && s.txn.dueAt.isNone then
    if was.timeReached then { s with txn := { s.txn with dueAt := some was.reachedCyc } }
    else if s.timeReached then { s with txn := { s.txn with dueAt := some (s.cyc + 1) } }
    else s
  else s

/-- A step of the time by a signed offset in ns (R594 to R596), refused while a stream is admitted or the pair is in
HOLD when its magnitude exceeds TBU_STEPMAX. The flag says whether it was applied. -/
def State.timeStep (s : State) (off : Int) : State × Bool :=
  let busy := s.anyAdmitted || s.rd F.MNT_STAT_PSTATE == 4
  if busy && decide (off.natAbs > s.word R.TBU_STEPMAX) then (s.raise S.TBU_STEP_REFUSED, false)
  else
    let m : Int := (2 ^ 48 * 1000000000 * nsU : Nat)
    let was := s
    let s := { s with tbu := (((s.tbu : Int) + off * (nsU : Nat)) % m).toNat }
    let s := was.armedStep s
    let s := (s.shiftStamps off).inc F.TBU_NSTEP_N
    (s.when s.anyAdmitted fun s => s.raise S.TBU_STEP, true)

/-- The clamp of TBU_RATE (R593): ±500 ppm. -/
def clampRate (r : Int) : Int := clampInt (-549755814) 549755814 r

/-- A quotient of integers whose rounding the spec leaves open: the floor, or one more by a free bit when it is
inexact. -/
def State.freeQuot (s : State) (a b : Int) : Int × State :=
  if b ≤ 0 then (0, s)
  else
    let q := Int.fdiv a b
    if q * b = a then (q, s) else (q + (s.fresh 1).toNat, s.drew)

/-- Present TBU time in units of 2^-16 ns, as interface stamps hold it (R592). -/
def State.fns (s : State) : Int := (s.tbu / 2 ^ 40 : Nat)

/-- The servo's state changes (R597). The 3 sync intervals without a Sync run anew from the entry to ACQUIRE. -/
def State.servoState (s : State) (st : Nat) : State :=
  let s := s.wr F.TBU_STAT_SSTATE st
  { s with tsn := { s.tsn with lockN := 0, lastSyncAt := if st = 1 then s.cyc else s.tsn.lastSyncAt } }

/-- A Sync arrives on the slave port (R597, R635): in HOLDOVER it makes the servo ACQUIRE. -/
def State.syncSeen (s : State) : State := s.when (s.rd F.TBU_CTRL_SRC == 1 && s.rd F.TBU_STAT_SSTATE == 3) fun s => s.servoState 1

/-- The states of R597 take an offset in 2^-16 ns. -/
def State.servoLock (s : State) (o : Int) : State :=
  let thr := s.rd F.TBU_LOCKTHR_NS * 65536
  match s.rd F.TBU_STAT_SSTATE with
  | 1 =>
    let n := if o.natAbs ≤ thr then s.tsn.lockN + 1 else 0
    if n ≥ 8 then s.servoState 2 else { s with tsn := { s.tsn with lockN := n } }
  | 2 => if o.natAbs > 4 * thr then (s.servoState 1).raise S.TBU_UNLOCK else s
  | _ => s.servoState 1

/-- The servo of R598 takes an offset and an interval, both in 2^-16 ns. TBU_OFFSET and a step hold whole ns, rounded either way
(DESIGN CHOICE, log 21). A Sync without one before it has no interval, and changes no rate (DESIGN CHOICE, log 147). -/
def State.servo (s : State) (o : Int) (interval : Option Int) : State :=
  let (ns, s) := s.freeQuot o 65536
  let s := s.setWord R.TBU_OFFSET (ofSigned 32 (clampInt (-(2 ^ 31)) (2 ^ 31 - 1) ns))
  let slew (s : State) : State :=
    match interval with
    | none => s
    | some t =>
      let (di, s) := s.freeQuot (o * 2 ^ 40) (t * 2 ^ s.rd F.TBU_SRV_KI)
      let i := clampRate (toSigned 32 (s.word R.TBU_INTEG) - di)
      let (dp, s) := s.freeQuot (o * 2 ^ 40) (t * 2 ^ s.rd F.TBU_SRV_KP)
      let r := clampRate (i - dp)
      (s.setWord R.TBU_INTEG (ofSigned 32 i)).setWord R.TBU_RATE (ofSigned 32 r)
  let s :=
    if o.natAbs > s.rd F.TBU_SRV_SRVSTEP * 1000 * 65536 then
      let (s, ok) := s.timeStep (-ns)
      if ok then s else slew s
    else slew s
  s.servoLock o

/-- The servo loses its source: HOLDOVER, with RATE held at the integrator (R597). -/
def State.holdover (s : State) : State :=
  if s.rd F.TBU_STAT_SSTATE = 3 then s
  else ((s.servoState 3).setWord R.TBU_RATE (s.word R.TBU_INTEG)).raise S.TBU_SYNC_LOST

/-- TBU_STEP: a host write of TBU_CMD.STEP (R594, R597). -/
def opTbuStep (s : State) : State :=
  let src := s.rd F.TBU_CTRL_SRC
  if src = 1 || src = 2 then s.access
  else (s.timeStep (toSigned 32 (s.word R.TBU_STEP_SEC) * 1000000000 + toSigned 32 (s.word R.TBU_STEP_NS))).1

/-- TBU_CLR (R638). -/
def opTbuClr (s : State) : State := s.setWord R.TBU_NSTEP 0

/-- A write of TBU_RATE (R593, R597): the host may write it in FREE and HOST only. -/
def State.writeRate (s : State) (v : Nat) : State :=
  let src := s.rd F.TBU_CTRL_SRC
  if src = 1 || src = 2 then s.access else s.setWord R.TBU_RATE (ofSigned 32 (clampRate (toSigned 32 v)))

/-- A write of TBU_STEP_NS: outside ±999,999,999 the nearer limit (R638). -/
def State.writeStepNs (s : State) (v : Nat) : State :=
  s.setWord R.TBU_STEP_NS (ofSigned 32 (clampInt (-999999999) 999999999 (toSigned 32 v)))

end Sys2Proof.Machine
end

