-- ==== Sys2Proof/Machine/Guard.lean ====
section
/-!
DEFINITION. Guarded frames (R602 to R608, R630), egress queues (R814), gates (R623 to R625), and digests (R274, R275).
-/
namespace Sys2Proof.Machine

/-- Entry state of the guard table changed. -/
def State.gst (s : State) (e : Nat) (f : GuardSt → GuardSt) : State :=
  { s with tsn := { s.tsn with guard := updAt f e s.tsn.guard } }

/-- An Ethernet port's own state changed. -/
def State.eth (s : State) (p : Nat) (f : EthPort → EthPort) : State :=
  { s with tsn := { s.tsn with ports := updAt f p s.tsn.ports } }

/-- An Ethernet port's own state. -/
def State.ethSt (s : State) (p : Nat) : EthPort := s.tsn.ports.getD p EthPort.reset

/-- A guard table entry is set VALID with an algorithm that the bridge computes (R646). -/
def State.gtSound (s : State) (e : Nat) : Bool := s.on F.CVU_GT_CFG_VALID e && s.rd F.CVU_GT_CFG_ALG e != 3

/-- A guard table entry serves frames: it is sound, and no sound entry of lower index has its DATA_ID and DIR (R646). -/
def State.gtOk (s : State) (e : Nat) : Bool :=
  s.gtSound e &&
  !((List.range e).any fun k => s.gtSound k &&
      s.rd F.CVU_GT_CFG_DATA_ID k == s.rd F.CVU_GT_CFG_DATA_ID e && s.rd F.CVU_GT_CFG_DIR k == s.rd F.CVU_GT_CFG_DIR e)

/-- The entry that serves a data ID in a direction (0 IN, 1 OUT). -/
def State.gtFind (s : State) (id dir : Nat) : Option Nat :=
  (List.range 256).find? fun e => s.rd F.CVU_GT_CFG_DATA_ID e == id && s.rd F.CVU_GT_CFG_DIR e == dir && s.gtOk e

/-- CHECK of a guarded frame (R604): tag, header bytes 0 to 19, payload. -/
def guardCheck (alg id fcnt : Nat) (hdr20 payload : List Byte) : Nat :=
  crcOf (crcAlgs alg) (natBe 8 (id * 2 ^ 32 + fcnt) ++ hdr20 ++ payload)

/-! ### Gates and transmission time -/

/-- Tenths of a ns that a byte takes at a SPEED code (R641). -/
def byteTenths : Nat → Nat
  | 0 => 80 | 1 => 32 | 2 => 16 | _ => 8

/-- Time in ns of a frame of `n` bytes without FCS, with FCS, preamble and interframe gap. -/
def State.txNs (s : State) (p n : Nat) : Nat := ceilDiv ((n + 24) * byteTenths (s.rd F.TSN_PCFG_SPEED p)) 10

/-- Entry in force of a list of intervals (in ns) at a phase of its cycle, and the end of that entry (R623): the last
entry holds until the cycle ends, and the list is cut off there. -/
def gateEntry (cyc ph : Nat) : List Nat → Nat → Nat → Nat × Nat
  | [], i, _ => (i - 1, cyc)
  | [_], i, _ => (i, cyc)
  | d :: ds, i, t => if ph < min cyc (t + d) then (i, min cyc (t + d)) else gateEntry cyc ph ds (i + 1) (t + d)

/-- Phase of a time in a cycle that starts at every BASE + n × CYC. -/
def cyclePhase (base cyc t : Nat) : Nat := (((t : Int) - (base : Int)) % ((max 1 cyc : Nat) : Int)).toNat

/-- Entry of a port's gate list in force at a time, and the time until its end (R623). -/
def State.gateAt (s : State) (p t : Nat) : Nat × Nat :=
  let cyc := max 1 (s.word R.TSN_PCYC p)
  let base := s.rdTime R.TSN_PBASE_NS R.TSN_PBASE_SEC_LO R.TSN_PBASE_SEC_HI p
  let ph := cyclePhase base cyc t
  let n := max 1 (s.rd F.TSN_PGLEN_NGCL p)
  let (i, e) := gateEntry cyc ph ((List.range n).map fun i => s.rd F.TSN_GCL_INTERVAL p i * 8) 0 0
  (i, e - ph)

/-- Whether a traffic class's gate is open at a time; with GATE_EN 0 every gate is open (R623). -/
def State.gateOpen (s : State) (p cls t : Nat) : Bool :=
  !s.on F.TSN_PCFG_GATE_EN p || bit cls (s.rd F.TSN_GCL_GATES p (s.gateAt p t).1)

/-- Time in ns for which an open gate stays open, over at most `n` further entries (R625). -/
def State.gateLeft (s : State) (p cls : Nat) : Nat → Nat → Nat
  | t, 0 => if s.gateOpen p cls t then (s.gateAt p t).2 else 0
  | t, n + 1 =>
    if !s.gateOpen p cls t then 0
    else let d := (s.gateAt p t).2; d + s.gateLeft p cls (t + d) n

/-- Whether a gate that stays open for `l` ns never closes: it stays open for a whole cycle (R623). -/
def State.neverCloses (s : State) (p l : Nat) : Bool := decide (max 1 (s.word R.TSN_PCYC p) ≤ l)

/-- Whether a transmission of `n` bytes that starts at `t` completes before its gate closes (R625). One cycle and what is left of the
entry in force are at most 130 entries. -/
def State.fits (s : State) (p cls t n : Nat) : Bool :=
  let l := s.gateLeft p cls t 129
  !s.on F.TSN_PCFG_GATE_EN p || decide (s.txNs p n ≤ l) || s.neverCloses p l

/-- Whether the gate window that is open at `t` opened after a frame's queue entry at `e` (R381): the gate has been closed since. A gate
that never closes has no windows, and holds nothing back. -/
def State.newWindow (s : State) (p cls e t : Nat) : Bool :=
  let l := s.gateLeft p cls e 129
  !s.on F.TSN_PCFG_GATE_EN p || decide (e + l ≤ t) || s.neverCloses p l

/-! ### Egress queues -/

/-- Whether a port is enabled and its link up. -/
def State.ethUp (s : State) (p : Nat) : Bool := s.on F.TSN_PCFG_EN p && s.on F.TSN_PPSTAT_LINKUP p

/-- A verdict copy was refused or dropped (R382). -/
def State.tsnDrop (s : State) (v : Option (Nat × Nat)) : State :=
  match v with
  | some (st, _) => s.report { src := S.VDU_TSN_DROP, stream := some st, mark := false }
  | none => s

/-- A frame at queue entry (R615, R814): 32 frames and 64 KiB for each class, and no frame longer than the port's largest; a port that is
disabled or down takes launch-time frames alone. The flag says whether it entered. -/
def State.enqueue (s : State) (p cls : Nat) (f : QFrame) : State × Bool :=
  let q := (s.ethSt p).queues.getD cls []
  let room := decide (q.length < 32) && decide (sumNat (q.map fun x => x.data.length) + f.data.length ≤ 65536) &&
    decide (f.data.length + 4 ≤ s.rd F.TSN_PMAXLEN_BYTES p)
  if decide (p < 12) && room && (s.ethUp p || f.launch.isSome) then
    (s.eth p fun x => { x with queues := updAt (fun q => q ++ [f]) cls x.queues }, true)
  else ((s.when (decide (p < 12)) fun s => s.inc F.TSN_PDROP_N p).tsnDrop f.verdict, false)

/-- MAC address of a register pair as 6 bytes, most significant first. -/
def State.mac (s : State) (lo hi : Reg) (a : Nat) : List Byte := natBe 6 (s.word lo a + 2 ^ 32 * (s.word hi a % 65536))

/-- Bytes padded with zeros to the least frame without FCS. -/
def padFrame (b : List Byte) : List Byte := b ++ List.replicate (60 - b.length) 0

/-- A frame the companion generates (R602, R603, R608, R630): bytes for port `p` under OUT entry `e`. -/
def State.guardFrame (s : State) (e p fcnt : Nat) (payload : List Byte) (ts : Nat) (hold : Bool) : List Byte :=
  let id := s.rd F.CVU_GT_CFG_DATA_ID e
  let hdr := natBe 2 id ++ natBe 1 1 ++ natBe 1 (2 * b2n hold) ++ natBe 4 fcnt ++ natBe 8 (guardTs ts) ++
    natBe 2 payload.length ++ natBe 2 0
  let chk := guardCheck (s.rd F.CVU_GT_CFG_ALG e) id fcnt hdr payload
  padFrame (s.mac R.CVU_GT_DMAC_LO R.CVU_GT_DMAC_HI e ++ s.mac R.TSN_PMAC_LO R.TSN_PMAC_HI p ++
    natBe 2 0x8100 ++ natBe 2 (s.rd F.CVU_GT_TX_PCP e * 8192 + s.rd F.CVU_GT_TX_VID e) ++
    (if s.on F.CVU_GT_CFG_RTAG e then natBe 2 0xF1C1 ++ natBe 2 0 ++ natBe 2 (fcnt % 65536) else []) ++
    natBe 2 (s.rd F.TSN_GCFG_GUARDET) ++ hdr ++ natBe 4 chk ++ payload)

/-- A guarded frame is sent on PORT_A and, unless it is 0xF, on PORT_B as a replica (R608, R630). The flag says whether
the frame entered PORT_A's queue. -/
def State.sendGuarded (s : State) (id portA portB cls : Nat) (payload : List Byte) (launch : Option Nat) (hold : Bool)
    (verdict : Option (Nat × Nat)) : State × Bool :=
  match s.gtFind id 1 with
  | none => (s.raise S.CVU_GUARD_NOOUT, false)
  | some e =>
    let fcnt := s.word R.CVU_GT_FCNT e
    let ts := launch.getD s.ns
    let one (s : State) (p : Nat) : State × Bool :=
      let s := s.when (decide (p < 12)) fun s => s.inc F.CVU_NFRM_N (2 * p + 1)
      s.enqueue p cls
        { data := s.guardFrame e p fcnt payload ts hold, launch := launch, hold := hold, verdict := verdict,
          hostAt := none, ingress := none, good := true, entered := s.ns }
    let (s, ok) := one s portA
    let s := if portB = 15 then s else (one s portB).1
    ((s.setWord R.CVU_GT_FCNT (fcnt + 1) e).gst e fun g => { g with seen := true }, ok)

/-! ### Receiving -/

/-- The parts of a received frame: VID and PCP of its tag if it has one, its EtherType after the tags, the R-TAG's
sequence number, and the offset behind the EtherType. -/
structure FrameParts where
  tag : Option (Nat × Nat)
  etype : Nat
  rtag : Option Nat
  off : Nat
deriving DecidableEq, Repr

/-- Big-endian field of a frame. -/
def be (o n : Nat) (b : List Byte) : Nat := beNat (slice o n b)

/-- A verdict record that stands at offset `o`, rewritten: VALID becomes INVALID and FORCED is set; the tag stays (R31, R383). -/
def forceRec (o : Nat) (b : List Byte) : List Byte :=
  (b.zip (List.range b.length)).map fun (x, i) =>
    if i = o + 2 then x ||| 0x80 else if i = o + 3 && x == 1 then 2 else x

/-- A frame taken apart (R602). -/
def frameParts (b : List Byte) : FrameParts :=
  let (tag, o) := if be 12 2 b = 0x8100 then (some (be 14 2 b % 4096, be 14 2 b / 8192), 16) else (none, 12)
  let (rt, o) := if be o 2 b = 0xF1C1 then (some (be (o + 4) 2 b), o + 6) else (none, o)
  ⟨tag, be o 2 b, rt, o + 2⟩

/-- The newest of a data ID's counters and a new one, in serial arithmetic (R161, R275). -/
def serialAhead (a b : Nat) : Nat := (a + 2 ^ 32 - b) % 2 ^ 32

/-- A guarded frame's digest enters the table under each plan that marks its data ID bindable; the oldest beyond the retention ages out
(R274, R275). -/
def State.digestFrame (s : State) (g : GFrame) : State :=
  s.each (s.tsn.binds.filter fun x => x.id == g.id) fun b s =>
    let d := (Config.kmacBind b.key (natBe 2 g.id ++ natBe 4 g.fcnt ++ g.payload)).toNat
    let mine (x : Digest) : Bool := x.ctx == b.ctx && x.id == g.id
    if s.tsn.digests.any fun x => mine x && x.fcnt == g.fcnt then
      { s with tsn := { s.tsn with
          digests := mapIf (fun x => mine x && x.fcnt == g.fcnt && x.digest != d) (fun x => { x with conflict := true })
            s.tsn.digests } }
    else
      let newer := match b.high with
        | none => true
        | some h => decide (serialAhead g.fcnt h < 2 ^ 31)
      let kept := (s.tsn.digests.filter mine).take (b.retain - 1)
      let gone := ((s.tsn.digests.filter mine).drop (b.retain - 1)).map (·.fcnt)
      let others := s.tsn.digests.filter fun x => !mine x
      { s with tsn := { s.tsn with
          digests := ⟨b.ctx, g.id, g.fcnt, g.sfd, d, false, false⟩ :: kept ++ others,
          binds := mapIf (fun x => x.ctx == b.ctx && x.id == b.id)
            (fun x => { x with high := if newer then some g.fcnt else x.high, aged := gone ++ x.aged }) s.tsn.binds } }

/-- A frame that passed its Guard check reaches its consumers: the digest table, the joints and the sentinel inputs; a
commissioning frame reaches none (R603). -/
def State.guardPassed (s : State) (g : GFrame) (test : Bool) : State :=
  if test then s
  else
    let s := (s.digestFrame g).encFrame g
    let same := (s.mnt.frames.filter fun x => x.id == g.id).take 3
    { s with mnt := { s.mnt with frames := g :: same ++ s.mnt.frames.filter fun x => x.id != g.id } }

/-- A guard check fails: counted at the unit and the entry, and its fault raised on the unit's channel. -/
def State.guardFail (s : State) (x : Src) (port : Nat) (e : Option Nat) : State :=
  let s := s.inc F.CVU_NFAIL_N (2 * port)
  let s := match e with | some e => s.inc F.CVU_GT_CNT_NFAIL e | none => s
  s.raise x (2 * port)

/-- Vector recovery of IEEE 802.1CB on a sequence number (R631): none when it is eliminated, with the CHECK of the frame
it duplicates if that is held. The history holds the numbers taken of the last `hist` up to the highest. -/
def GuardSt.recover (g : GuardSt) (hist seq chk cyc : Nat) : Option GuardSt × Option Nat :=
  let d := (seq + 65536 - g.seq) % 65536
  let held := (g.hist.find? fun x => x.1 == seq).map fun x => x.2
  if g.takeAny then (some { g with takeAny := false, seq := seq, hist := [(seq, chk)], lastAt := cyc }, none)
  else if d = 0 || held.isSome then (none, held)
  else if d < 32768 then
    if d ≥ hist then (none, none)
    else
      let kept := g.hist.filter fun x => decide ((seq + 65536 - x.1) % 65536 < hist)
      (some { g with seq := seq, hist := (seq, chk) :: kept, lastAt := cyc }, none)
  else if 65536 - d ≥ hist then (none, none)
  else (some { g with hist := (seq, chk) :: g.hist, lastAt := cyc }, none)

/-- A frame that the recovery of its R-TAG passes, or that has none: its sequence and what it carries (R606, R607). `st` is the entry's
state before the frame and `st'` after its R-TAG. -/
def State.guardNew (s : State) (port e fcnt : Nat) (g : GFrame) (test : Bool) (st st' : GuardSt) : State :=
  let s := s.gst e fun _ => st'
  let d := serialAhead fcnt (s.word R.CVU_GT_FCNT e)
  if st.seen && (d == 0 || decide (d ≥ 2 ^ 31)) then s.guardFail S.CVU_GUARD_SEQ port (some e)
  else
    let s := s.when (st.seen && decide (d > 1)) fun s =>
      (s.add F.CVU_GT_CNT_NGAP (d - 1) e).raise S.CVU_GUARD_GAP (2 * port)
    let s := (s.setWord R.CVU_GT_FCNT fcnt e).gst e fun x => { x with seen := true }
    s.guardPassed g test

/-- A frame whose check and skew pass: the recovery of its R-TAG (R631), then its sequence. -/
def State.guardTake (s : State) (port e fcnt chk : Nat) (rtag : Option Nat) (g : GFrame) (test : Bool) : State :=
  let st := s.tsn.guard.getD e GuardSt.reset
  let (st', dupChk) := match s.on F.CVU_GT_CFG_RTAG e, rtag with
    | true, some q => st.recover (s.rd F.CVU_GT_CB_CBHIST e) q chk s.cyc
    | _, _ => (some st, none)
  match st' with
  | none =>
    match dupChk with
    | some c =>
      if c = chk then s
      else
        let s := s.raise S.CVU_CB_MISMATCH (2 * port)
        if test then s else s.digestFrame g
    | none => s
  | some st' => s.guardNew port e fcnt g test st st'

/-- The guard path (R605 to R607, R631): a frame received on a port, its R-TAG and the bytes behind its EtherType. -/
def State.guardPath (s : State) (port : Nat) (rtag : Option Nat) (b : List Byte) : State :=
  let s := s.inc F.CVU_NFRM_N (2 * port)
  let id := be 0 2 b
  match s.gtFind id 0 with
  | none => s.guardFail S.CVU_GUARD_CHK port none
  | some e =>
    let len := be 16 2 b
    let fcnt := be 4 4 b
    let chk := be 20 4 b
    let payload := slice 24 len b
    let need := s.rd F.CVU_GT_PORT_LEN e
    let form := bit port (s.rd F.CVU_GT_PORT_PORTS e) && be 2 1 b == 1 && be 3 1 b / 4 == 0 && be 18 2 b == 0 &&
      decide (24 + len ≤ b.length) && decide (len ≤ 8976) && (need == 0 || need == len)
    if !form || guardCheck (s.rd F.CVU_GT_CFG_ALG e) id fcnt (b.take 20) payload != chk then
      s.guardFail S.CVU_GUARD_CHK port (some e)
    else
      let g : GFrame := ⟨id, fcnt, s.ns, payload⟩
      let test := bit 0 (be 3 1 b)
      let ts := be 8 4 b * 1000000000 + be 12 4 b
      let mine := secOf s.ns % 2 ^ 32 * 1000000000 + subNs s.ns
      let wrap := 2 ^ 32 * 1000000000
      let diff := min ((mine + wrap - ts) % wrap) ((ts + wrap - mine) % wrap)
      let skew := s.rd F.CVU_GT_CB_TSSKEW e
      if skew != 0 && decide (diff > skew * 1000) then s.guardFail S.CVU_GUARD_SKEW port (some e)
      else s.guardTake port e fcnt chk rtag g test

end Sys2Proof.Machine
end

