-- ==== Sys2Proof/Machine/Bridge.lean ====
section
/-!
DEFINITION. The bridge (R614 to R631): reception, policing, forwarding, transmission, gPTP, and the host check-value
units (R610 to R613).
-/
namespace Sys2Proof.Machine

/-- FDB entry of a destination and VID (R616). -/
def State.fdbFind (s : State) (dst : List Byte) (vid : Nat) : Option Nat :=
  (List.range 512).find? fun f =>
    s.on F.TSN_FDB_MACHI_VALID f && s.mac R.TSN_FDB_MACLO R.TSN_FDB_MACHI f == dst && s.rd F.TSN_FDB_MACHI_VID f == vid

/-- Entry of a stream gate in force at a time (R623, R629). -/
def State.sgEntry (s : State) (g t : Nat) : Nat :=
  let cyc := max 1 (s.word R.TSN_SG_CYC g)
  let base := s.rdTime R.TSN_SG_BASE_NS R.TSN_SG_BASE_SEC_LO R.TSN_SG_BASE_SEC_HI g
  let n := max 1 (s.rd F.TSN_SG_CTRL_NENT g)
  (gateEntry cyc (cyclePhase base cyc t) ((List.range n).map fun i => s.rd F.TSN_SG_E_INTERVAL g i * 8) 0 0).1

/-- The token counts of a flow meter as they stand now. -/
def State.putTokens (s : State) (m c e : Nat) : State :=
  { s with tsn := { s.tsn with tokens := updAt (fun _ => (c, e, s.ns)) m s.tsn.tokens } }

/-- Colour of a frame of `n` bytes at a flow meter (MEF 10.3, colour-blind, coupling flag 0): 0 green, 1 yellow, 2 red;
and the meter's new tokens. -/
def State.meter (s : State) (m n : Nat) : Nat × State :=
  let (c, e, t0) := s.tsn.tokens.getD m (0, 0, 0)
  let dt := s.ns - t0
  let cap (bytes : Nat) := bytes * 8 * 1000000
  let c := min (cap (s.rd F.TSN_FM_CBS_BYTES m)) (c + dt * s.word R.TSN_FM_CIR m)
  let e := min (cap (s.rd F.TSN_FM_EBS_BYTES m)) (e + dt * s.word R.TSN_FM_EIR m)
  let need := cap n
  if need ≤ c then (0, s.putTokens m (c - need) e) else if need ≤ e then (1, s.putTokens m c (e - need)) else (2, s.putTokens m c e)

/-- A frame that stage 3 of R628 drops under filter `sf`. -/
def State.sfDrop (s : State) (sf : Nat) : Bool × Option Nat × State := (false, none, s.inc F.TSN_SF_DROP_N sf)

/-- Stage 3 of R628 for a frame of `n` bytes under filter `sf`: whether it passes, and the class its gate gives it. -/
def State.police (s : State) (sf n : Nat) : Bool × Option Nat × State :=
  let max := s.rd F.TSN_SF_CFG_MAXSDU sf
  if s.on F.TSN_SF_CFG_BLOCKED sf then s.sfDrop sf
  else if max != 0 && decide (n > max) then
    (s.when (s.on F.TSN_SF_CFG_BLOCKOVS sf) fun s => (s.wr F.TSN_SF_CFG_BLOCKED 1 sf).raise S.TSN_QCI_BLOCK).sfDrop sf
  else
    let g := s.rd F.TSN_SF_CFG_GATE sf
    let e := s.sgEntry g s.ns
    let used := decide (g < 16) && s.on F.TSN_SG_CTRL_EN g
    let closed := decide (g < 16) && s.tsn.sgOff.contains g
    if closed then s.sfDrop sf
    else if used && !s.on F.TSN_SG_E_OPEN g e then
      (s.when (s.on F.TSN_SG_CTRL_CLOSEDINV g) fun s => { s with tsn := { s.tsn with sgOff := g :: s.tsn.sgOff } }).sfDrop sf
    else
      let ipv := s.rd F.TSN_SG_E_IPV g e
      let cls := if used && decide (ipv < 8) then some ipv else none
      let m := s.rd F.TSN_SF_CFG_METER sf
      if m < 64 then
        let (col, s) := s.meter m n
        if col = 2 || (col == 1 && s.on F.TSN_FM_CBS_DROPYELLOW m) then s.sfDrop sf
        else (true, cls, s.inc F.TSN_SF_PASS_N sf)
      else (true, cls, s.inc F.TSN_SF_PASS_N sf)

/-- The least of a list of launch times. -/
def leastLaunch (fs : List QFrame) : Option Nat :=
  fs.foldl (fun m f =>
    match f.launch, m with
    | some l, some t => some (min l t)
    | some l, none => some l
    | none, m => m) none

/-- Least launch time pending on a port, and the least at the head of a queue (R626, R627). -/
def State.nextLaunch (s : State) (p : Nat) : Option Nat := leastLaunch (s.ethSt p).queues.flatten
def State.headLaunch (s : State) (p : Nat) : Option Nat := leastLaunch ((s.ethSt p).queues.filterMap List.head?)

/-- A launch-time frame that has not passed TSN_PLTLIM (R627). -/
def State.stillDue (s : State) (p : Nat) (f : QFrame) : Bool :=
  match f.launch with
  | some t => decide (s.ns ≤ t + s.rd F.TSN_PLTLIM_NS p)
  | none => false

/-- Whether a transmission of `n` bytes that starts now overlaps no pending launch time of the port (R626): none that is past is
overlapped. -/
def State.clearOf (s : State) (p n : Nat) : Bool :=
  let ahead (f : QFrame) : Bool := s.stillDue p f && (match f.launch with | some t => decide (s.ns ≤ t) | none => false)
  match leastLaunch ((s.ethSt p).queues.flatten.filter ahead) with
  | some t => decide (s.ns + s.txNs p n ≤ t)
  | none => true

/-- Whether a frame may start onward by cut-through from one port to another (R617). -/
def State.cutOk (s : State) (from_ dst cls : Nat) : Bool :=
  s.on F.TSN_PCFG_CUT from_ && s.on F.TSN_PCFG_CUT dst &&
  decide (s.rd F.TSN_PCFG_SPEED from_ ≥ s.rd F.TSN_PCFG_SPEED dst) &&
  s.gateOpen dst cls s.ns && s.fits dst cls s.ns (s.rd F.TSN_PMAXLEN_BYTES dst - 4) &&
  decide ((s.ethSt dst).busyNs ≤ s.ns) && s.clearOf dst (s.rd F.TSN_PMAXLEN_BYTES dst - 4)

/-- A received frame is forwarded to the ports of its FDB entry except its ingress port (R616). -/
def State.forward (s : State) (port ports pcp : Nat) (cls : Option Nat) (b : List Byte) (good : Bool) : State :=
  s.upto (fun p s =>
    if p = port || !bit p ports then s
    else
      let c := cls.getD (s.rd (F.TSN_PTCMAP_TC pcp) p)
      if good || s.cutOk port p c then
        (s.enqueue p c { data := b, launch := none, hold := false, verdict := none, hostAt := none,
                         ingress := some (s.fns, port), good := good, entered := s.ns }).1
      else s) 12

/-- ETH_FRAME_RX: a frame of bytes without its FCS, whose SFD stamp is the present time (R605, R615, R616, R628). One with a bad FCS
reaches no stage but on a port of cut-through, where it may have passed its stream filter and started onward before its end. -/
def opEthFrameRx (port : Nat) (b : List Byte) (fcsOk : Bool) (s : State) : State :=
  if !s.ethUp port then s
  else
    let s := s.inc F.TSN_PRX_N port
    if b.length + 4 > s.rd F.TSN_PMAXLEN_BYTES port then s.inc F.TSN_PDROP_N port
    else
      let x := frameParts b
      let dst := b.take 6
      let (vid, pcp) := x.tag.getD (s.rd F.TSN_PCFG_PVID port, s.rd F.TSN_PCFG_PPCP port)
      let gptp := dst == natBe 6 0x0180C200000E
      let f := s.fdbFind dst vid
      let ports := match f with | some f => s.rd F.TSN_FDB_FWD_PORTS f | none => 0
      let sf := match f with | some f => s.rd F.TSN_FDB_FWD_SFI f | none => 255
      if !fcsOk then
        if f.isSome && !gptp && s.on F.TSN_PCFG_CUT port then
          let (pass, cls, s) := if sf < 128 then s.police sf (b.length + 4) else (true, none, s)
          (s.when pass fun s => s.forward port ports pcp cls b false).inc F.TSN_PDROP_N port
        else s.inc F.TSN_PDROP_N port
      else
        let (pass, cls, s) := if sf < 128 then s.police sf (b.length + 4) else (true, none, s)
        if !pass then s.inc F.TSN_PDROP_N port
        else
          let s := if gptp then s
            else match f with
              | some _ => s.forward port ports pcp cls b true
              | none => (s.inc F.TSN_FDBMISS_N).inc F.TSN_PDROP_N port
          let guard := x.etype == s.rd F.TSN_GCFG_GUARDET &&
            (dst == s.mac R.TSN_PMAC_LO R.TSN_PMAC_HI port ||
              (match f with | some f => s.on F.TSN_FDB_FWD_GUARD f | none => false))
          s.when guard fun s => s.guardPath port x.rtag (b.drop x.off)

/-! ### Transmission -/

/-- Bytes `o` to `o + |x| - 1` replaced. -/
def patch (o : Nat) (x b : List Byte) : List Byte := b.take o ++ x ++ b.drop (o + x.length)

/-- One's-complement update of a UDP checksum when a field changes (RFC 1624): checksum, old and new 16-bit words. -/
def csumUpd (hc : Nat) (old new : List Nat) : Nat :=
  let fold (x : Nat) := let y := x % 65536 + x / 65536; y % 65536 + y / 65536
  let sum := (List.zip old new).foldl (fun a (p : Nat × Nat) => fold (a + (65535 - p.1) + p.2)) (65535 - hc)
  65535 - sum

/-- 16-bit words of bytes, most significant first. -/
def words16 : List Byte → List Nat
  | a :: b :: r => (a.toNat * 256 + b.toNat) :: words16 r
  | _ => []

/-- Offset of a PTP event message in a frame, with the offset of its UDP checksum (R622); the flag marks a UDP/IPv6 PTP
message, which is forwarded unchanged. -/
def ptpOffset (b : List Byte) : Option (Nat × Option Nat) × Bool :=
  let x := frameParts b
  let port (o : Nat) := be o 2 b == 319 || be o 2 b == 320
  if x.etype = 0x88F7 then (some (x.off, none), false)
  else if x.etype = 0x0800 && be (x.off + 9) 1 b == 17 then
    let u := x.off + (be x.off 1 b % 16) * 4
    if port (u + 2) then (some (u + 8, some (u + 6)), false) else (none, false)
  else if x.etype = 0x86DD && be (x.off + 6) 1 b == 17 && port (x.off + 42) then (none, true)
  else (none, false)

/-- The transparent clock's correction of a forwarded frame that leaves now (R622). -/
def State.tcCorrect (s : State) (p : Nat) (f : QFrame) : List Byte × State :=
  match s.on F.TSN_PCFG_TC p, f.ingress with
  | true, some (t, q) =>
    match ptpOffset f.data with
    | (some (o, cs), _) =>
      let typ := be o 1 f.data % 16
      if typ > 3 then (f.data, s)
      else
        let lat := ((s.rd F.TSN_PLAT_TXLAT p + s.rd F.TSN_PLAT_RXLAT q : Nat) : Int) * 65536
        let link := if typ = 0 && s.on F.TSN_GCFG_P2P then (s.word R.TSN_PDELAY q : Int) * 65536 else 0
        let new := natBe 8 (ofSigned 64 (toSigned 64 (be (o + 8) 8 f.data) + (s.fns - t) + lat + link))
        let old := slice (o + 8) 8 f.data
        let d := patch (o + 8) new f.data
        match cs with
        | some c =>
          let hc := be c 2 f.data
          ((if hc = 0 then d else patch c (natBe 2 (csumUpd hc (words16 old) (words16 new))) d), s)
        | none => (d, s)
    | (none, true) => (f.data, s.inc F.TSN_TCSKIP_N)
    | (none, false) => (f.data, s)
  | _, _ => (f.data, s)

/-- The launch-time frames at the heads of queues whose gates let them start now (R625, R626). -/
def State.startable (s : State) (p : Nat) : List QFrame :=
  (((s.ethSt p).queues.zip (List.range 8)).filterMap fun x =>
    x.1.head?.bind fun f => if s.gateOpen p x.2 s.ns && s.fits p x.2 s.ns f.data.length then some f else none).filter (s.stillDue p)

/-- Whether the head of a class's queue may start now (R618, R625, R626): of two launch-time frames that are due, the one with the
earlier launch time; a verdict copy waits for a window that opens after its queue
entry (R381). -/
def State.mayStart (s : State) (p cls : Nat) : Bool :=
  match ((s.ethSt p).queues.getD cls []).head? with
  | none => false
  | some f =>
    s.gateOpen p cls s.ns && s.fits p cls s.ns f.data.length && (f.verdict.isNone || s.newWindow p cls f.entered s.ns) &&
    (match f.launch with
     | some l => decide (l ≤ s.ns) && s.stillDue p f &&
         (match leastLaunch (s.startable p) with | some t => decide (l ≤ t) | none => true)
     | none => s.clearOf p f.data.length)

/-- The highest class that may start (R618). -/
def State.startClass (s : State) (p : Nat) : Option Nat := [7, 6, 5, 4, 3, 2, 1, 0].find? fun c => s.mayStart p c

/-- Bytes of a gPTP message's frame without its FCS, as IEEE 802.1AS lays the messages out (PRESUMED, log 171). -/
def PtpMsg.size (m : PtpMsg) : Nat := match m.kind with | 0 => 60 | 8 => 90 | _ => 68

/-- A gPTP message enters the queue of the class that the port gives an untagged frame (R616, R814). -/
def State.ptpQueue (s : State) (p : Nat) (m : PtpMsg) : State :=
  (s.enqueue p (s.rd (F.TSN_PTCMAP_TC (s.rd F.TSN_PCFG_PPCP p)) p)
    { data := List.replicate m.size 0, launch := none, hold := false, verdict := none, hostAt := none, ingress := none, good := true,
      entered := s.ns, ptp := some m }).1

/-- The Follow_Up of a relayed Sync, once both its departure and its origin time are known: the correction gains the link delay and the
residence time between the latency-corrected SFDs by the rate ratio to the grandmaster (R599, R621). -/
def State.relayFup (s : State) (p : Nat) : State :=
  match s.tsn.relay, (s.ethSt p).fup with
  | some ⟨port, stamp, some (origin, corr, cum)⟩, some (q, d) =>
    let stay := d - (stamp - (s.rd F.TSN_PLAT_RXLAT port : Int) * 65536)
    let (add, s) := s.freeQuot (((s.word R.TSN_PDELAY port : Int) * 65536 + stay) * cum) (2 ^ 41)
    (s.eth p fun x => { x with fup := none }).ptpQueue p ⟨8, q, origin, corr + add, cum - 2 ^ 41, true⟩
  | _, _ => s

/-- A gPTP message leaves: the time of its SFD is the t1 of a request, is carried by the Follow_Up of a response and of the
grandmaster's Sync, and ends the residence time of a relayed Sync (R620, R621). -/
def State.ptpLeaves (s : State) (p : Nat) (m : PtpMsg) : State :=
  let s := s.emit (.ptp p (s.rd F.TSN_GCFG_DOMAIN) m.kind m.seq m.time m.corr m.rate)
  let d := s.fns + (s.rd F.TSN_PLAT_TXLAT p : Int) * 65536
  match m.kind, m.relay with
  | 2, _ => s.eth p fun x => { x with reqT1 := if x.reqSeq = m.seq then some d else x.reqT1 }
  | 3, _ => s.ptpQueue p ⟨10, m.seq, d, 0, 0, false⟩
  | 0, false => s.ptpQueue p ⟨8, m.seq, d, 0, 0, false⟩
  | 0, true => (s.eth p fun x => { x with fup := some (m.seq, d) }).relayFup p
  | _, _ => s

/-- The head frame of a class starts on its port. A verdict copy that still waits when the fatal aggregator asserts leaves with its record
forced (R31); its CHECK stays as computed (DESIGN CHOICE, log 113). -/
def State.startFrame (s : State) (p c : Nat) : State :=
  match ((s.ethSt p).queues.getD c []).head? with
  | none => s
  | some f =>
    let (d, s) := s.tcCorrect p f
    let d := if f.verdict.isSome && s.on F.VDU_STAT_FORCE then forceRec ((frameParts d).off + 24) d else d
    let s := s.eth p fun x => { x with queues := updAt (fun q => q.drop 1) c x.queues,
                                       busyNs := s.ns + s.txNs p d.length }
    let s := s.inc F.TSN_PTX_N p
    let s := match f.ptp with | some m => s.ptpLeaves p m | none => s.emit (.frame p d f.good)
    match f.verdict with
    | some (st, _) =>
      let from_ := f.hostAt.getD s.ns
      if (s.streams.getD st Stream.reset).classA then
        let s := s.peak F.VDU_TSNLATE_NS (s.ns - from_)
        if s.ns > from_ + 50000 then s.report { src := S.VDU_TSN_LATE, stream := some st, mark := false } else s
      else s
    | none => s

/-- A frame of the class that may start, if any, starts. -/
def State.startNow (s : State) (p : Nat) : State :=
  match s.startClass p with
  | some c => s.startFrame p c
  | none => s

/-- The next frame of a port starts: now, or else at the next launch time that a queue holds at its head. -/
def State.startNext (s : State) (p : Nat) : State :=
  match s.startClass p, s.headLaunch p with
  | none, some l => (s.reachNs l).startNow p
  | _, _ => s.startNow p

/-- ETH_FRAME_TX: a queued frame starts once the port is free, at a pending launch time if nothing else may start
(R618, R626). -/
def opEthFrameTx (p : Nat) (s : State) : State :=
  if !s.ethUp p then s else (s.reachNs (s.ethSt p).busyNs).startNext p

/-- A gPTP message that the companion sends starts at once where its port is free and lets it; else it waits in its queue (R618, R625,
R626). -/
def State.ptpSend (s : State) (p : Nat) (m : PtpMsg) : State :=
  let s := s.ptpQueue p m
  match s.startClass p with
  | some c =>
    s.when (decide ((s.ethSt p).busyNs ≤ s.ns) && decide (((s.ethSt p).queues.getD c []).head?.bind (fun f => f.ptp) = some m)) fun s =>
      s.startFrame p c
  | none => s

/-- LT_DROP: launch-time frames that have not started within TSN_PLTLIM of their launch time are dropped (R627). -/
def opLtDrop (p : Nat) (s : State) : State :=
  match s.nextLaunch p with
  | none => s
  | some l =>
    let lim := s.rd F.TSN_PLTLIM_NS p
    let s := s.reachNs (l + lim + 1)
    let late (f : QFrame) : Bool := match f.launch with | some t => decide (s.ns > t + lim) | none => false
    let gone := (s.ethSt p).queues.flatMap fun q => q.filter late
    let s := s.eth p fun x => { x with queues := x.queues.map fun q => q.filter fun f => !late f }
    s.each gone fun f s => ((((s.inc F.TSN_PDROP_N p).inc F.TSN_PLTD_N p).raise S.TSN_LT_DROP p).tsnDrop f.verdict)

/-- GATE_ENTRY_CHANGE: the time moves to the end of the gate list entry in force; the gates follow the time (R623). -/
def opGateEntryChange (p : Nat) (s : State) : State :=
  if s.on F.TSN_PCFG_GATE_EN p then s.reachNs (s.ns + (s.gateAt p s.ns).2) else s

/-- STREAM_GATE_CHANGE: the same for a stream gate (R629). -/
def opStreamGateChange (g : Nat) (s : State) : State :=
  if s.on F.TSN_SG_CTRL_EN g then
    let cyc := max 1 (s.word R.TSN_SG_CYC g)
    let base := s.rdTime R.TSN_SG_BASE_NS R.TSN_SG_BASE_SEC_LO R.TSN_SG_BASE_SEC_HI g
    let n := max 1 (s.rd F.TSN_SG_CTRL_NENT g)
    let ph := cyclePhase base cyc s.ns
    let (_, e) := gateEntry cyc ph ((List.range n).map fun i => s.rd F.TSN_SG_E_INTERVAL g i * 8) 0 0
    s.reachNs (s.ns + (e - ph))
  else s

/-- CB_RESET_TIMEOUT: an IN entry's recovery takes any sequence number again (R631). -/
def opCbResetTimeout (e : Nat) (s : State) : State :=
  if s.on F.CVU_GT_CFG_RTAG e && s.rd F.CVU_GT_CFG_DIR e == 0 && s.gtOk e then
    let g := s.tsn.guard.getD e GuardSt.reset
    let s := s.reachCyc (g.lastAt + msC (s.rd F.CVU_GT_TX_CBRST e))
    s.gst e fun g => { g with takeAny := true, hist := [] }
  else s

/-- A port's queues when it is disabled or its link goes down: every frame but launch-time frames is dropped (R814). -/
def State.flushQueues (s : State) (p : Nat) : State :=
  let gone := (s.ethSt p).queues.flatMap fun q => q.filter fun f => f.launch.isNone
  let s := s.eth p fun x => { x with queues := x.queues.map fun q => q.filter fun f => f.launch.isSome }
  s.each gone fun f s => (s.inc F.TSN_PDROP_N p).tsnDrop f.verdict

/-- A port stops being asCapable. -/
def State.loseAsCap (s : State) (p : Nat) : State := s.wr F.TSN_PPSTAT_ASCAP 0 p

/-- ETH_LINK_DOWN (R643, R814). -/
def opEthLinkDown (p : Nat) (s : State) : State :=
  if !s.on F.TSN_PPSTAT_LINKUP p then s
  else
    let s := (s.wr F.TSN_PPSTAT_LINKUP 0 p).wr ⟨R.TSN_STAT, 8 + p, 8 + p⟩ 0
    (s.flushQueues p).raise S.TSN_LINK_DOWN p

/-- ETH_LINK_UP (R640, R798). -/
def opEthLinkUp (p : Nat) (s : State) : State := (s.wr F.TSN_PPSTAT_LINKUP 1 p).wr ⟨R.TSN_STAT, 8 + p, 8 + p⟩ 1

/-- UNBLOCK (R629). -/
def opUnblock (f : Nat) (s : State) : State := s.wr F.TSN_SF_CFG_BLOCKED 0 f

/-- TSN_PCLR (R641). -/
def opTsnPclr (p : Nat) (s : State) : State :=
  (((s.setWord R.TSN_PRX 0 p).setWord R.TSN_PTX 0 p).setWord R.TSN_PDROP 0 p).setWord R.TSN_PLTD 0 p

/-- TSN_CLR: the counters of the table of R642, those of the stream filters included. -/
def opTsnClr (s : State) : State :=
  ((s.setWord R.TSN_FDBMISS 0).setWord R.TSN_TCSKIP 0).upto
    (fun f s => (s.setWord R.TSN_SF_PASS 0 f).setWord R.TSN_SF_DROP 0 f) 128

/-! ### gPTP -/

/-- Sync interval of a port in 2^-16 ns, from its signed power of two (R641). -/
def State.syncInterval (s : State) (f : Fld) (p : Nat) : Int :=
  let l := clampInt (-7) 3 (toSigned 8 (s.rd f p))
  if l ≥ 0 then 65536000000000 * 2 ^ l.toNat else 65536000000000 / 2 ^ (-l).toNat

/-- Time passes to the next message that a port sends at an interval, if one was sent before (R620, R621). -/
def State.ptpDue (s : State) (last : Option Nat) (f : Fld) (p : Nat) : State :=
  match last with
  | some c => s.reachCyc (c + (s.syncInterval f p).toNat * 4 / 5 / 65536)
  | none => s

/-- The slave port, if one port has the role (R619). -/
def State.slavePort (s : State) : Option Nat := (List.range 12).find? fun p => s.rd F.TSN_PCFG_PTPROLE p == 2

/-- The cumulativeScaledRateOffset of the companion's own Follow_Ups with the port's rate ratio, as a ratio in units of 2^-41. The one
that came with the Sync is no operand of the table's rows: a free value, in units of 2^-41 as IEEE 802.1AS has it (PRESUMED, log 86). -/
def State.rateToGm (s : State) (port : Nat) : Int × State :=
  let rate := (s.fresh 32).toInt
  s.drew.freeQuot ((2 ^ 41 + rate) * (2 ^ 40 + toSigned 32 (s.word R.TSN_PRR port))) (2 ^ 40)

/-- A Sync is accepted on the slave port: each asCapable master port sends its own (R621). -/
def State.syncRelay (s : State) (port : Nat) : State :=
  let t := s.fns
  let s := { s with tsn := { s.tsn with relay := some ⟨port, t, none⟩, lastSyncAt := s.cyc } }
  s.syncSeen.upto (fun p s =>
    if s.rd F.TSN_PCFG_PTPROLE p = 1 && s.on F.TSN_PPSTAT_ASCAP p then
      let q := (s.ethSt p).syncSeq
      (s.eth p fun x => { x with syncSeq := (q + 1) % 65536, fup := none }).ptpSend p ⟨0, q, 0, 0, 0, true⟩
    else s) 12

/-- A Sync's origin time is known: the servo runs (R598, R599), a step of which moves the Sync's stamp (R596), and the Follow_Ups of the
relayed Syncs go out (R621). Times are in 2^-16 ns. -/
def State.syncDone (s : State) (port : Nat) (stamp origin corr : Int) : State :=
  let mld := (s.word R.TSN_PDELAY port : Int) * 65536
  let last := s.tsn.lastSync
  let s := { s with tsn := { s.tsn with lastSync := some stamp } }
  let s := if s.rd F.TBU_CTRL_SRC = 1 then
      let o := stamp - (s.rd F.TSN_PLAT_RXLAT port : Int) * 65536 - (origin + corr + mld)
      s.servo o (match last with | some t => if t < stamp then some (stamp - t) else none | none => none)
    else s
  let (cum, s) := s.rateToGm port
  let s := { s with tsn := { s.tsn with relay := s.tsn.relay.map fun (r : Relay) => { r with info := some (origin, corr, cum) } } }
  s.upto (fun p s => s.relayFup p) 12

/-- A gPTP message arrives at a port that takes frames: it is counted, and handled where the port has a role (R619, R620, R641). -/
def State.ptpIn (s : State) (p : Nat) (f : State → State) : State :=
  if !s.ethUp p then s
  else
    let s := s.inc F.TSN_PRX_N p
    if s.rd F.TSN_PCFG_PTPROLE p = 0 then s.inc F.TSN_PDROP_N p else f s

/-- A port takes a PTP message: enabled, up, and with a role (R619, R620). -/
def State.ptpPort (s : State) (p : Nat) : Bool := s.ethUp p && s.rd F.TSN_PCFG_PTPROLE p != 0

/-- SYNC: a Sync arrives; a one-step Sync carries its origin time, a two-step one waits for its Follow_Up (R598, R621). A port that is not
the slave, or not asCapable, discards it. -/
def opPtpSync (port : Nat) (seq : Nat) (twoStep : Bool) (origin corr : Int) (s : State) : State :=
  s.ptpIn port fun s =>
    if s.slavePort != some port || !s.on F.TSN_PPSTAT_ASCAP port then s.inc F.TSN_PDROP_N port
    else
      let t := s.fns
      let s := s.syncRelay port
      if twoStep then ({ s with tsn := { s.tsn with syncWait := some ⟨seq, t, corr⟩ } } : State) else s.syncDone port t origin corr

/-- FOLLOW_UP (R598, R621): one that no Sync of the slave port waits for is discarded. -/
def opFollowUp (port : Nat) (seq : Nat) (origin corr : Int) (s : State) : State :=
  s.ptpIn port fun s =>
    match s.slavePort == some port, s.tsn.syncWait with
    | true, some w =>
      if w.seq = seq then
        ({ s with tsn := { s.tsn with syncWait := none } } : State).syncDone port w.stamp origin (corr + w.corr)
      else s.inc F.TSN_PDROP_N port
    | _, _ => s.inc F.TSN_PDROP_N port

/-- SYNC_LOST: no Sync for 3 sync intervals (R597). -/
def opSyncLost (s : State) : State :=
  match s.slavePort, s.rd F.TBU_CTRL_SRC == 1 && (s.rd F.TBU_STAT_SSTATE == 1 || s.rd F.TBU_STAT_SSTATE == 2) with
  | some p, true =>
    let three := (3 * s.syncInterval F.TSN_PSYNC_LOGSYNC p).toNat * 4 / 5 / 65536
    let s := s.reachCyc (s.tsn.lastSyncAt + three)
    ({ s with tsn := { s.tsn with lastSync := none, syncWait := none } } : State).holdover
  | _, _ => s

/-- PDELAY_REQ: answered at all times (R620). -/
def opPdelayReq (port : Nat) (seq : Nat) (s : State) : State :=
  s.ptpIn port fun s => s.ptpSend port ⟨3, seq, s.fns - (s.rd F.TSN_PLAT_RXLAT port : Int) * 65536, 0, 0, false⟩

/-- PDELAY_REQ_SEND: a request leaves, or is refused by a port that is disabled or down (R814); the request before it, if unanswered,
counts as a lost response (R620). -/
def opPdelayReqSend (port : Nat) (s : State) : State :=
  if s.rd F.TSN_PCFG_PTPROLE port = 0 then s
  else
    let x := s.ethSt port
    let s := s.ptpDue x.reqAt F.TSN_PSYNC_LOGPDELAY port
    let now := s.cyc
    let lost := x.reqT1.isSome
    let n := if lost then x.lossN + 1 else x.lossN
    let s := s.when (lost && n == 3 && s.on F.TSN_PPSTAT_ASCAP port) fun s =>
      (s.loseAsCap port).raise S.TSN_PTP_LOSS port
    let q := (x.reqSeq + 1) % 65536
    let t1 := s.fns + (s.rd F.TSN_PLAT_TXLAT port : Int) * 65536
    let s := s.eth port fun x =>
      { x with reqSeq := q, reqT1 := some t1, lossN := n, okN := if lost then 0 else x.okN, reqAt := some now }
    s.ptpSend port ⟨2, q, 0, 0, 0, false⟩

/-- PDELAY_RESP: a response with its Follow_Up, two frames, completes an exchange: t2 and t3 at the peer in 2^-16 ns (R620). Those of no
open request are discarded. -/
def opPdelayResp (port : Nat) (seq : Nat) (t2 t3 : Int) (s : State) : State :=
  (s.ptpIn port id).ptpIn port fun s =>
    let x := s.ethSt port
    match x.reqT1 with
    | some t1 =>
      if seq != x.reqSeq then s.add F.TSN_PDROP_N 2 port
      else
        let t4 := s.fns - (s.rd F.TSN_PLAT_RXLAT port : Int) * 65536
        let (rr, s) := match x.prev with
          | some (p3, p4) => if t4 > p4 then s.freeQuot (((t3 - p3) - (t4 - p4)) * 2 ^ 40) (t4 - p4) else (0, s)
          | none => (0, s)
        let (d, s) := s.freeQuot ((t4 - t1) * (2 ^ 40 + rr) - (t3 - t2) * 2 ^ 40) (2 * 2 ^ 40 * 65536)
        let good := decide (d ≤ s.rd F.TSN_PDTHR_NS)
        let n := if good then x.okN + 1 else 0
        let s := (s.setWord R.TSN_PDELAY (ofSigned 32 (max d 0)) port).setWord R.TSN_PRR (ofSigned 32 rr) port
        let s := s.eth port fun x => { x with reqT1 := none, okN := n, lossN := 0, prev := some (t3, t4) }
        s.when (decide (n ≥ 3)) fun s =>
          let s := s.wr F.TSN_PPSTAT_ASCAP 1 port
          s.when (s.rd F.TBU_CTRL_SRC == 1 && s.slavePort == some port && s.rd F.TBU_STAT_SSTATE == 0) fun s =>
            s.servoState 1
    | none => s.add F.TSN_PDROP_N 2 port

/-- GM_SYNC_SEND: as grandmaster a master port sends Sync, and its Follow_Up with the TBU time of its departure (R621). -/
def opGmSyncSend (p : Nat) (s : State) : State :=
  if s.on F.TSN_STAT_GMACT && s.rd F.TSN_PCFG_PTPROLE p == 1 && s.on F.TSN_PPSTAT_ASCAP p then
    let x := s.ethSt p
    let q := x.syncSeq
    let s := s.ptpDue x.syncAt F.TSN_PSYNC_LOGSYNC p
    let now := s.cyc
    (s.eth p fun x => { x with syncSeq := (q + 1) % 65536, syncAt := some now }).ptpSend p ⟨0, q, 0, 0, 0, false⟩
  else s

/-- ANNOUNCE_RX: counted and discarded (R619). -/
def opAnnounceRx (p : Nat) (s : State) : State := s.when (s.ethUp p) fun s => (s.inc F.TSN_PRX_N p).inc F.TSN_PDROP_N p

/-! ### Configuration as it applies -/

/-- TBU, bridge and guard table after an applied transaction (R597, R607, R608, R619, R624, R629, R646); `old` is the
state before. An entry becomes valid also as the entry of another data ID or direction (DEDUCED, log 172). -/
def State.netApply (old s : State) : State :=
  let s := s.upto (fun p s =>
    s.when (old.on F.TSN_PCFG_EN p && !s.on F.TSN_PCFG_EN p) fun s => s.flushQueues p) 12
  let slaves := (List.range 12).filter fun p => s.rd F.TSN_PCFG_PTPROLE p == 2
  let oldSlaves := (List.range 12).filter fun p => old.rd F.TSN_PCFG_PTPROLE p == 2
  let s := s.when (decide (slaves.length > 1) && slaves != oldSlaves) fun s => s.raise S.TSN_PTP_CFG (slaves.getD 1 0)
  let s := s.wr F.TBU_STAT_SLAVE (slaves.head?.getD 15)
  let s := s.wr F.TSN_STAT_GMACT (b2n (s.on F.TSN_GCFG_GM && slaves.isEmpty))
  let s := s.upto (fun g s =>
    if s.stages R.TSN_SG_CTRL g then { s with tsn := { s.tsn with sgOff := s.tsn.sgOff.erase g } } else s) 16
  let s := s.upto (fun e s =>
    let was := old.gtOk e
    let now := s.gtOk e
    let same := s.rd F.CVU_GT_CFG_DATA_ID e == old.rd F.CVU_GT_CFG_DATA_ID e && s.rd F.CVU_GT_CFG_DIR e == old.rd F.CVU_GT_CFG_DIR e
    let s := s.when (now && !(was && same)) fun s => (s.gst e fun _ => GuardSt.reset).setWord R.CVU_GT_FCNT 0 e
    s.when (s.on F.CVU_GT_CFG_VALID e && !now) fun s => s.raise S.CVU_GUARD_CHK (256 + e)) 256
  let src := s.rd F.TBU_CTRL_SRC
  let s := s.when (src != old.rd F.TBU_CTRL_SRC) fun s =>
    ({ s with tsn := { s.tsn with lastSync := none, syncWait := none } } : State).servoState 0
  if src = 1 then
    match slaves.head? with
    | some p => s.when (s.rd F.TBU_STAT_SSTATE == 0 && s.on F.TSN_PPSTAT_ASCAP p) fun s => s.servoState 1
    | none => s.when (s.rd F.TBU_STAT_SSTATE != 0) fun s => s.servoState 0
  else s

/-! ### Host check-value units -/

/-- A unit's own state changed. -/
def State.cvuSt (s : State) (u : Nat) (f : CvuSt → CvuSt) : State :=
  { s with tsn := { s.tsn with cvu := updAt f u s.tsn.cvu } }

/-- Bytes that strip mode holds back for an algorithm (R612). -/
def stripLen : Nat → Nat
  | 0 => 4 | 1 => 4 | 2 => 2 | _ => 8

/-- The running value of a unit (R613): the unreflected register the algorithm steps. -/
def State.cvuRun (s : State) (u : Nat) : Nat := s.rd64 R.CVU_RUN_LO R.CVU_RUN_HI u

/-- The running value takes bytes. -/
def State.cvuFold (s : State) (u : Nat) (b : List Byte) : State :=
  s.wr64 R.CVU_RUN_LO R.CVU_RUN_HI (crcFeed (crcAlgs (s.rd F.CVU_CFG_ALG u)) b (s.cvuRun u)) u

/-- The computation of a unit is put aside: the bytes held back stay with its running value (R613). -/
def State.cvuAside (s : State) (u : Nat) : State :=
  let v := s.cvuRun u
  s.cvuSt u fun c => { c with
    back := [], aside := if c.back.isEmpty then c.aside else (v, c.back) :: c.aside.filter fun x => x.1 != v }

/-- The computation whose running value a unit holds is taken up again (R613). -/
def State.cvuResume (s : State) (u : Nat) : State :=
  let v := s.cvuRun u
  s.cvuSt u fun c => match c.aside.lookup v with
    | some b => { c with back := b, aside := c.aside.filter fun x => x.1 != v }
    | none => c

/-- A unit is fed bytes (R612): in strip mode the last of them are held back. -/
def State.cvuFeed (s : State) (u : Nat) (b : List Byte) : State :=
  if u < 24 then s.access
  else
    let now := s.cyc
    let s := s.cvuSt u fun c => { c with feeding := true, fedAt := some now }
    if !s.on F.CVU_CFG_MODE u then s.cvuFold u b
    else
      let all := (s.tsn.cvu.getD u CvuSt.reset).back ++ b
      let n := all.length - stripLen (s.rd F.CVU_CFG_ALG u)
      (s.cvuFold u (all.take n)).cvuSt u fun c => { c with back := all.drop n }

/-- CVU_START (R611). -/
def opCvuStart (u : Nat) (s : State) : State :=
  if u < 24 then s.access
  else
    let tag := s.rd64 R.CVU_TAG_LO R.CVU_TAG_HI u
    let b := if s.on F.CVU_CFG_TAGORD u then natLe 8 tag else natBe 8 tag
    let s := (s.cvuAside u).wr64 R.CVU_RUN_LO R.CVU_RUN_HI (crcAlgs (s.rd F.CVU_CFG_ALG u)).init u
    let s := (s.cvuFold u b).cvuSt u fun c => { c with feeding := true, back := [], fedAt := none }
    s.setWord R.CVU_USTAT 0 u

/-- CVU_FINISH (R610, R612). -/
def opCvuFinish (u : Nat) (s : State) : State :=
  if u < 24 then s.access
  else
    let alg := s.rd F.CVU_CFG_ALG u
    let v := crcFinal (crcAlgs alg) (s.cvuRun u)
    let back := (s.tsn.cvu.getD u CvuSt.reset).back
    let got := if s.on F.CVU_CFG_TAGORD u then leNat back else beNat back
    let ok := s.on F.CVU_CFG_MODE u && back.length == stripLen alg && got == v
    let s := s.wr64 R.CVU_RES_LO R.CVU_RES_HI v u
    ((s.wr F.CVU_USTAT_DONE 1 u).wr F.CVU_USTAT_MATCH (b2n ok) u).cvuSt u fun c => { CvuSt.reset with aside := c.aside }

/-- CVU_DATA (R645): four bytes, bits 7 to 0 first. -/
def opCvuData (u : Nat) (v : Word) (s : State) : State := s.cvuFeed u (natLe 4 v.toNat)

/-- CVU_DATAB (R645). -/
def opCvuDatab (u : Nat) (v : Byte) (s : State) : State := s.cvuFeed u [v]

/-- CVU_RUN (R613, R635): discarded with ACCESS while data words are being fed. A computation between its words is not being fed, for
tasks share a unit by reading its value out and writing it back; the bytes that strip mode holds back come back with it (DEDUCED, log 148). -/
def opCvuRun (u : Nat) (hi : Bool) (v : Word) (s : State) : State :=
  if u < 24 || (s.tsn.cvu.getD u CvuSt.reset).fedAt == some s.cyc then s.access
  else if hi && s.rd F.CVU_CFG_ALG u != 3 then s
  else ((s.cvuAside u).setWord (if hi then R.CVU_RUN_HI else R.CVU_RUN_LO) v.toNat u).cvuResume u

end Sys2Proof.Machine
end

