-- ==== Sys2Proof/Machine/Brake.lean ====
section
/-!
DEFINITION. The end of a brake test and the frames it sends (R507 to R509, R516): what a restart, a fatal fault or an
encoder frame does to a running test.
-/
namespace Sys2Proof.Machine

/-- State of one safe output, of one dual-channel input, and of the brake test changed. -/
def State.updSbo (s : State) (k : Nat) (f : Sbo → Sbo) : State :=
  { s with sio := { s.sio with sbo := updAt f k s.sio.sbo } }
def State.updDci (s : State) (n : Nat) (f : Dci → Dci) : State :=
  { s with sio := { s.sio with dci := updAt f n s.sio.dci } }
def State.updBt (s : State) (f : Bt → Bt) : State := { s with sio := { s.sio with bt := f s.sio.bt } }

/-- State of a safe output and of a dual-channel input read. -/
def State.sbo (s : State) (k : Nat) : Sbo := s.sio.sbo.getD k Sbo.reset
def State.dci (s : State) (n : Nat) : Dci := s.sio.dci.getD n Dci.reset

/-- An event record of the SIO page with old and new value and a time of the Guard format (R514, R768). -/
def State.sioEvent (s : State) (code unit old new ns : Nat) : State :=
  s.event 18 code fun e => { e with unit := unit, detail := natLe 1 old ++ natLe 1 new ++ natLe 2 0 ++ natLe 8 (guardTs ns) }

/-- SBO_STAT.STATE of an output changes, with its event record (R498, R514). -/
def State.sboState (s : State) (k st : Nat) : State :=
  let old := s.rd F.SBO_STAT_STATE k
  let t := s.sio.tick
  let s := (s.wr F.SBO_STAT_STATE st k).updSbo k fun o => { o with changed := t }
  let s := s.when (st == 2) fun s => s.inc F.SBO_NTRIP_N k
  s.sioEvent 0x42 (32 + k) old st s.ns

/-- The fatal aggregator (R18, R533). -/
def State.aggr (s : State) : Bool := s.fatal || s.balls.coreLoss

/-- The drive balls of an output take their levels, with an event record of a change since the last one, by this tick or by the always-on
path; the readback of a ball that changes follows, and that of any other stays as READBACK reported it (R499, R511, R514). -/
def State.sboDrive (s : State) (k : Nat) (a b : Bool) : State :=
  let a := a && !s.aggr
  let b := b && !s.aggr
  let old := (s.sbo k).drv
  let new := b2n a + 2 * b2n b
  let s := s.when (s.on F.SBO_STAT_DRVA k != a) fun s => (s.wr F.SBO_STAT_DRVA (b2n a) k).wr F.SBO_STAT_RBA (b2n a) k
  let s := s.when (s.on F.SBO_STAT_DRVB k != b) fun s => (s.wr F.SBO_STAT_DRVB (b2n b) k).wr F.SBO_STAT_RBB (b2n b) k
  if old = new then s
  else (s.updSbo k fun o => { o with drv := new }).event 18 0x42 fun e => { e with
    unit := 32 + k, aux := 1, detail := natLe 1 old ++ natLe 1 new ++ natLe 2 0 ++ natLe 8 (guardTs s.ns) }

/-- A test-torque frame (R508). -/
def State.torqueFrame (s : State) (k : Nat) (fin : Bool) (ton toff : Nat) : State × Bool :=
  s.sendGuarded (s.rd F.SIO_BTFRAME_DATA_ID) (s.rd F.SIO_BTFRAME_PORT_A) (s.rd F.SIO_BTFRAME_PORT_B)
    (s.rd F.SIO_BTFRAME_QUEUE)
    (natBe 1 (s.rd F.SBO_BT_JOINT k) ++ natBe 1 (b2n fin) ++ natBe 2 0 ++ natBe 4 (s.word R.SIO_BTTQ) ++
      natBe 8 (guardTs ton) ++ natBe 8 (guardTs toff)) none false none

/-- The output under test. -/
def State.btOut (s : State) : Nat := s.rd F.SIO_BTSTAT_OUT

/-- A brake test ends with a result (1 PASS, 2 FAIL_SLIP, 3 FAIL_FBK, 4 ABORTED) and a reason (R507, R509, R520). The END
frame goes out when a torque frame was queued and TOFF has not passed; the output leaves TEST for OFF. -/
def State.btEnd (s : State) (res why : Nat) (frame : Bool) : State :=
  let k := s.btOut
  let bt := s.sio.bt
  let dev := bt.maxDev
  let s := s.when (frame && bt.grantAt.isSome && decide (s.ns < bt.toffNs)) fun s => (s.torqueFrame k true s.ns s.ns).1
  let s := ((s.wr F.SIO_BTSTAT_STATE 0).wr F.SIO_BTSTAT_RESULT res).wr F.SIO_BTSTAT_WHY why
  let s := ((s.wr F.SIO_STAT_BTSTATE 0).setWord R.SIO_BTMAXDEV (min dev (allOnes 32))).updBt fun b => { b with stop := none, slip := false }
  let s := if res = 1 then s.inc F.SIO_BTCNT_PASS else s.inc F.SIO_BTCNT_FAIL
  let s := s.when (s.rd F.SBO_STAT_STATE k == 3) fun s => (s.sboState k 0).sboDrive k false false
  let s := s.event 18 0x44 fun e => { e with
    unit := k + 256 * s.rd F.SBO_BT_JOINT k,
    detail := natLe 1 res ++ natLe 1 why ++ natLe 2 0 ++ natLe 4 (min dev (allOnes 32)) }
  match res with
  | 1 =>
    let t := s.ns
    let s : State := { s with boot := { s.boot with btLast := s.boot.btLast.setIfInBounds k t } }
    let s := ((s.wr F.SBO_STAT_BTFAILED 0 k).wr F.SBO_STAT_DUE 0 k).wr F.SBO_STAT_OVERDUE 0 k
    s.updSbo k fun o => { o with overdue := false }
  | 4 => s.raise S.SIO_BT_ABORT (32 + k)
  | _ => (s.wr F.SBO_STAT_BTFAILED 1 k).raise S.SIO_BT_FAIL (32 + k)

/-- A running brake test is to end ABORTED at the next tick (R502, R507, R513, R516); an end that waits already stays. -/
def State.btStop (s : State) (why : Nat) : State :=
  if s.rd F.SIO_BTSTAT_STATE = 0 then s
  else s.updBt fun b => { b with stop := match b.stop with | some x => some x | none => some (why, true) }

/-- An encoder frame of the joint under test is compared with the reference position (R507 step 5); the next tick ends a test that
slips. -/
def State.btTrack (s : State) : State :=
  let bt := s.sio.bt
  match s.rd F.SIO_BTSTAT_STATE, (s.jt (s.rd F.SBO_BT_JOINT s.btOut)).meas with
  | 3, some (_, sfd, q, _) | 4, some (_, sfd, q, _) =>
    if bt.tonNs ≤ sfd && sfd ≤ bt.toffNs then
      let dev := (q - bt.qref).natAbs
      let late := decide (dev > s.word R.SIO_BTDEV)
      s.updBt fun b => { b with maxDev := max b.maxDev dev, slip := b.slip || late }
    else s
  | _, _ => s

end Sys2Proof.Machine
end

