-- ==== Sys2Proof/Machine/Numeric.lean ====
section
/-!
DEFINITION. Exact arithmetic on dyadic numbers, the element formats of R116, and the 160-bit windows of R203 to R205.
-/
namespace Sys2Proof.Machine

/-! ### Dyadic numbers -/

/-- Zero and integers as dyadic numbers. -/
def Dy.zero : Dy := ⟨0, 0⟩
def Dy.ofInt (i : Int) : Dy := ⟨i, 0⟩

/-- The mantissa of a dyadic number at a scale not above its exponent. -/
def Dy.at_ (a : Dy) (e : Int) : Int := a.m * 2 ^ (a.e - e).toNat

/-- Sum, difference, product, negation, magnitude. -/
def Dy.add (a b : Dy) : Dy := let e := min a.e b.e; ⟨a.at_ e + b.at_ e, e⟩
def Dy.neg (a : Dy) : Dy := ⟨-a.m, a.e⟩
def Dy.sub (a b : Dy) : Dy := a.add b.neg
def Dy.mul (a b : Dy) : Dy := ⟨a.m * b.m, a.e + b.e⟩
def Dy.abs (a : Dy) : Dy := ⟨a.m.natAbs, a.e⟩

/-- Comparison of values, whatever their scales. -/
def Dy.le (a b : Dy) : Bool := let e := min a.e b.e; decide (a.at_ e ≤ b.at_ e)
def Dy.lt (a b : Dy) : Bool := !b.le a
def Dy.eq (a b : Dy) : Bool := a.le b && b.le a
def Dy.max (a b : Dy) : Dy := if a.le b then b else a
def Dy.min (a b : Dy) : Dy := if a.le b then a else b
def Dy.isZero (a : Dy) : Bool := a.m == 0

/-- 2^e. -/
def Dy.pow2 (e : Int) : Dy := ⟨1, e⟩

/-- Sum of a list. -/
def Dy.sum (xs : List Dy) : Dy := xs.foldl Dy.add Dy.zero

/-- Floor of the base-2 logarithm of a positive value. -/
def Dy.log2 (a : Dy) : Int := (Nat.log2 a.m.natAbs : Int) + a.e

/-- Largest integer multiple of 2^e not above the value. -/
def Dy.floorAt (a : Dy) (e : Int) : Int :=
  if e ≤ a.e then a.at_ e else Int.fdiv a.m (2 ^ (e - a.e).toNat)

/-- Multiple of 2^e next to the value toward zero. -/
def Dy.truncAt (a : Dy) (e : Int) : Int :=
  if e ≤ a.e then a.at_ e else Int.tdiv a.m (2 ^ (e - a.e).toNat)

/-- Multiple of 2^e nearest to the value, ties to the even multiple. -/
def Dy.rneAt (a : Dy) (e : Int) : Int :=
  if e ≤ a.e then a.at_ e
  else
    let d : Int := 2 ^ (e - a.e).toNat
    let q := Int.fdiv a.m d
    let r := 2 * (a.m - q * d)
    if r < d then q else if d < r then q + 1 else if q % 2 = 0 then q else q + 1

/-! ### Formats (R116) -/

/-- A format: total bits, exponent bits, stored mantissa bits, bias; integers have no exponent bits. -/
structure Fmt where
  bits : Nat
  eb : Nat
  mb : Nat
  bias : Int
deriving DecidableEq, Repr

/-- The format of a code. -/
def fmtOf : Nat → Option Fmt
  | 0 => some ⟨4, 0, 0, 0⟩
  | 1 => some ⟨8, 0, 0, 0⟩
  | 2 => some ⟨32, 0, 0, 0⟩
  | 3 => some ⟨4, 2, 1, 1⟩
  | 4 => some ⟨6, 2, 3, 1⟩
  | 5 => some ⟨6, 3, 2, 3⟩
  | 6 => some ⟨8, 4, 3, 7⟩
  | 7 => some ⟨8, 5, 2, 15⟩
  | 8 => some ⟨16, 8, 7, 127⟩
  | 9 => some ⟨16, 5, 10, 15⟩
  | 10 => some ⟨32, 8, 23, 127⟩
  | _ => none

/-- Bits of one element of a format code. -/
def fmtBits (c : Nat) : Nat := match fmtOf c with | some f => f.bits | none => 8

/-- Whether the code names an integer format. -/
def fmtInt (c : Nat) : Bool := decide (c ≤ 2)

/-- Exponent of the grid of an integer format (R116): 0, or −6 and −2 for INT8 and INT4 with MX. -/
def intGrid (c : Nat) (mx : Bool) : Int := if !mx then 0 else if c = 1 then -6 else if c = 0 then -2 else 0

/-- Smallest normal exponent of a floating-point format. -/
def Fmt.emin (f : Fmt) : Int := 1 - f.bias

/-- Whether the top exponent code holds infinities and NaNs (E5M2 and the IEEE-like formats). -/
def fmtIeee (c : Nat) : Bool := decide (7 ≤ c)

/-- Value of an element code before its block scale. -/
def decodeElem (c : Nat) (mx : Bool) (v : Nat) : Val :=
  match fmtOf c with
  | none => .nan
  | some f =>
    if f.eb = 0 then .fin ⟨toSigned f.bits v, intGrid c mx⟩
    else
      let neg := bit (f.bits - 1) v
      let ex := v / 2 ^ f.mb % 2 ^ f.eb
      let ma := v % 2 ^ f.mb
      if fmtIeee c && ex == 2 ^ f.eb - 1 then (if ma = 0 then .inf neg else .nan)
      else if c = 6 && v % 128 == 127 then .nan
      else
        let m : Int := if ex = 0 then ma else 2 ^ f.mb + ma
        let e : Int := (if ex = 0 then 1 else (ex : Int)) - f.bias - f.mb
        .fin ⟨if neg then -m else m, e⟩

/-- An E8M0 scale byte as an exponent; 255 is NaN. -/
def scaleExp (b : Nat) : Option Int := if b = 255 then none else some ((b : Int) - 127)

/-- Value of an element with its block scale. -/
def decodeScaled (c : Nat) (mx : Bool) (scale : Nat) (v : Nat) : Val :=
  if !mx then decodeElem c mx v
  else
    match scaleExp scale with
    | none => .nan
    | some s =>
      match decodeElem c mx v with
      | .fin x => .fin ⟨x.m, x.e + s⟩
      | w => w

/-- Largest finite value of a format without its block scale (R116). -/
def fmtMax (c : Nat) (mx : Bool) : Dy :=
  match fmtOf c with
  | none => Dy.zero
  | some f =>
    if f.eb = 0 then ⟨2 ^ (f.bits - 1) - 1, intGrid c mx⟩
    else
      let top : Nat := if fmtIeee c then 2 ^ f.eb - 2 else 2 ^ f.eb - 1
      let m : Int := if c = 6 then 14 else 2 ^ (f.mb + 1) - 1
      ⟨m, (top : Int) - f.bias - f.mb⟩

/-- u_out of R117 as an exponent of two: none for an integer format. -/
def uOut (c rnd : Nat) : Option Int :=
  match fmtOf c with
  | none => none
  | some f => if f.eb = 0 then none else some (-(f.mb : Int) - (if rnd = 0 then 1 else 0))

/-- Exponent of ulp(v) on the grid of a format under the scale exponent `s` (R244). -/
def ulpExp (c : Nat) (mx : Bool) (s : Int) (v : Dy) : Int :=
  match fmtOf c with
  | none => 0
  | some f =>
    if f.eb = 0 then s + intGrid c mx
    else if v.isZero then s + f.emin - f.mb
    else s + max (v.log2 - s) f.emin - f.mb

/-- An FP32 code as a value; a NaN or infinity as zero (no plan holds one: GAMMA_ACC and EPS_ABS are at least 0). -/
def fp32 (v : Nat) : Dy := match decodeElem 10 false v with | .fin x => x | _ => Dy.zero

/-- τ of a tolerance class (R213). -/
def tauOf (c : Nat) : Nat := [8, 4, 5, 6, 7, 9, 10, 11, 12, 14, 16, 20, 24, 32, 48, 64].getD c 8

/-! ### Values that may be non-finite (R114): arithmetic as IEEE 754 defines it -/

/-- Sum. -/
def Val.add : Val → Val → Val
  | .nan, _ | _, .nan => .nan
  | .inf a, .inf b => if a = b then .inf a else .nan
  | .inf a, .fin _ | .fin _, .inf a => .inf a
  | .fin x, .fin y => .fin (x.add y)

/-- Whether a value is negative. -/
def Val.neg? : Val → Bool
  | .fin x => decide (x.m < 0)
  | .inf n => n
  | .nan => false

/-- Negation. -/
def Val.neg : Val → Val
  | .fin x => .fin x.neg
  | .inf n => .inf (!n)
  | .nan => .nan

/-- Product. -/
def Val.mul : Val → Val → Val
  | .nan, _ | _, .nan => .nan
  | .fin x, .fin y => .fin (x.mul y)
  | .inf a, .inf b => .inf (a != b)
  | .inf a, .fin x | .fin x, .inf a => if x.isZero then .nan else .inf (a != decide (x.m < 0))

/-- Whether a value is finite, and its dyadic number. -/
def Val.dy? : Val → Option Dy
  | .fin x => some x
  | _ => none

/-- Order of two values; false where one is a NaN. -/
def Val.le : Val → Val → Bool
  | .nan, _ | _, .nan => false
  | .fin x, .fin y => x.le y
  | .inf true, _ | _, .inf false => true
  | .inf false, _ | _, .inf true => false

/-- Strict order, and the larger and the smaller of two values; a NaN is neither (R243). -/
def Val.lt (a b : Val) : Bool := a.le b && !b.le a
def Val.max : Val → Val → Val
  | .nan, _ | _, .nan => .nan
  | a, b => if a.le b then b else a
def Val.min : Val → Val → Val
  | .nan, _ | _, .nan => .nan
  | a, b => if a.le b then a else b

/-- Magnitude. -/
def Val.abs : Val → Val
  | .fin x => .fin x.abs
  | .inf _ => .inf false
  | .nan => .nan

/-- Sum of a list, and of the products of two. -/
def Val.sum (xs : List Val) : Val := xs.foldl Val.add (.fin Dy.zero)
def Val.dot (xs ys : List Val) : Val := Val.sum ((xs.zip ys).map fun (x, y) => x.mul y)

/-! ### Elements of a payload (R144) -/

/-- The codes of `n` elements of `w` bits packed from the least significant bit of the first byte (R144). -/
def unpack (w n : Nat) (bs : List Byte) : List Nat :=
  if w = 8 then (bs.take n).map BitVec.toNat
  else (List.range n).map fun i =>
    le (i * w / 8) 5 bs / 2 ^ (i * w % 8) % 2 ^ w

/-- Bytes that `n` elements of a format take, with their scales (R144). -/
def elemBytes (c : Nat) (mx : Bool) (n : Nat) : Nat :=
  ceilDiv (n * fmtBits c) 8 + (if mx then ceilDiv n 32 else 0)

/-! ### Windows (R203 to R205) -/

/-- One pass over the terms with the running largest exponent: the sum, the largest exponent, and whether a bit that is
not 0 was shifted out. -/
def winPass : List Dy → Dy → Option Int → Bool → Dy × Option Int × Bool
  | [], s, e, l => (s, e, l)
  | t :: ts, s, e, l =>
    let e' := match e with | some x => max x t.e | none => t.e
    let cut := e' - 93
    let lossy (x : Dy) : Bool := decide (x.e < cut) && decide ((x.truncAt cut) * 2 ^ (cut - x.e).toNat ≠ x.m)
    winPass ts (s.add t) (some e') (l || lossy s || lossy t)

/-- The value of a window and its δ_win (R205): exact, or with every term truncated toward zero below 2^L. The flag says
that WIN_LOSS holds. -/
def winValue (terms : List Dy) : Dy × Dy × Bool :=
  let (s, e, lost) := winPass terms Dy.zero none false
  match lost, e with
  | true, some e =>
    let cut := e - 93
    let tr (t : Dy) : Dy := if t.e < cut then ⟨t.truncAt cut, cut⟩ else t
    let n := (terms.filter fun t => !(tr t).eq t).length
    (Dy.sum (terms.map tr), ⟨n, cut⟩, decide (0 < n))
  | _, _ => (s, Dy.zero, false)

/-- The value of a window, with its non-finite terms (R114). -/
def Win.val (w : Win) : Val := match w.nf with | some v => v | none => .fin (winValue w.terms).1

/-- Whether a rational comparison x ≤ τ·sqrt(q) holds, for q ≥ 0. -/
def leSqrt (x : Dy) (tau : Nat) (q : Dy) : Bool :=
  decide (x.m ≤ 0) || (x.mul x).le ((Dy.ofInt (tau * tau)).mul q)

/-- The comparison of R207 with the evaluation error of R206: some true when |Δ| ≤ B + δ, some false when |Δ| exceeds
B (1 + 2^-34) + δ, none between the two, where B̂ decides. `q` is the radicand and `rest` the two linear terms. -/
def cmpBound (delta dwin : Dy) (tau : Nat) (q rest : Dy) : Option Bool :=
  let x := delta.abs.sub dwin
  if leSqrt (x.sub rest) tau q then some true
  else
    let k : Dy := ⟨2 ^ 34 + 1, -34⟩
    if leSqrt (x.sub (k.mul rest)) tau (k.mul (k.mul q)) then none else some false

/-- Mersenne moduli of R217. -/
def mers1 : Nat := 2 ^ 31 - 1
def mers2 : Nat := 2 ^ 61 - 1

end Sys2Proof.Machine
end

