-- ==== Sys2Proof/Machine/PlanImage.lean ====
section
/-!
DEFINITION. The plan image (R329 to R335, R353): header, section table and the sections the spec lays out byte by byte;
tally commands (R294 to R309); and the plan-format rules of R334. A section whose layout the spec leaves to Llynlin is
decoded by a constant of Config with no body.
-/
namespace Sys2Proof.Config
open Sys2Proof.Machine

/-- Sections whose byte layout the spec does not give: GRAPH, MAT, DISPATCH, QUEUE, SEM, DECODE, XFER and BIND. None: the
section does not decode. BIND also holds the 32-byte BINDKEY. -/
opaque decodeGraph : List Byte → Option GraphD
opaque decodeMat : List Byte → Option (List MatD)
opaque decodeDispatch : List Byte → Option (List GroupD)
opaque decodeQueue : List Byte → Option (List QueueD)
opaque decodeSem : List Byte → Option SemD
opaque decodeTok : List Byte → Option (List TokD)
opaque decodeXfer : List Byte → Option (List XferD)
opaque decodeBind : List Byte → Option (List BindD × Nat)

end Sys2Proof.Config

namespace Sys2Proof.Machine

/-! ### Commands -/

/-- A command's fields by bit positions (R294). -/
abbrev Cmd := Nat

/-- OPC and SUB of a command. -/
def Cmd.opc (c : Cmd) : Nat := bits 7 0 c
def Cmd.sub (c : Cmd) : Nat := bits 11 8 c

/-- An operand reference (R295). -/
inductive TRef where
  | tensor (opnd : Nat)
  | lbuf (addr : Nat)
  | proj (kidx : Nat) (resid : Bool)
  | kvc (values : Bool) (pair : Nat)
deriving DecidableEq, Repr

/-- The reference of 16 bits, none where a reserved bit is set. -/
def TRef.of (v : Nat) : Option TRef :=
  match v / 2 ^ 14 % 4 with
  | 0 => if v % 256 = 0 then some (.tensor (bits 13 8 v)) else none
  | 1 => some (.lbuf (v % 2 ^ 14))
  | 2 => if v % 2 ^ 10 = 0 then some (.proj (bits 13 11 v) (bit 10 v)) else none
  | _ => if v % 32 = 0 then some (.kvc (bit 13 v) (bits 12 5 v)) else none

/-- A reference names a tensor; the tensor, the scratch, or the KV copy; and so on. -/
def isTensor (v : Nat) : Bool := match TRef.of v with | some (.tensor _) => true | _ => false
def isLbuf (v pages : Nat) : Bool := match TRef.of v with | some (.lbuf a) => decide (a < pages * 64) | _ => false
def isProj (v : Nat) : Bool := match TRef.of v with | some (.proj ..) => true | _ => false
def isKvc (v : Nat) : Bool := match TRef.of v with | some (.kvc ..) => true | _ => false

/-- Bits that a command may set, by OPC and SUB; 0 for a reserved OPC or SUB. RESX CMP sets none of CLR, SRC, EOFF and NELEM, which
R302 gives to RESX without naming the SUB and CMP does not read (DESIGN CHOICE, log 135). -/
def cmdMask (opc sub : Nat) : Nat :=
  let span (hi lo : Nat) : Nat := 2 ^ (hi + 1) - 2 ^ lo
  let f (xs : List (Nat × Nat)) : Nat := xs.foldl (fun a (x : Nat × Nat) => a + span x.1 x.2) (span 7 0 + sub * 256)
  match opc, sub with
  | 1, 0 | 1, 1 | 1, 2 | 1, 3 => f [(18, 16), (23, 22), (51, 32), (71, 52), (87, 72), (103, 88)]
  | 2, 0 => f [(18, 16), (21, 19), (22, 22), (23, 23), (39, 24), (59, 40), (79, 60), (95, 80)]
  | 3, 0 | 3, 1 | 3, 2 | 3, 3 => f [(18, 16), (21, 19), (22, 22), (23, 23), (39, 24), (55, 40), (75, 56), (95, 76), (111, 96)]
  | 4, 0 => f [(18, 16), (21, 19), (95, 80)]
  | 5, 0 | 5, 1 => f [(21, 19), (23, 23), (39, 24), (59, 40), (79, 60), (95, 80)]
  | 5, 2 => f [(21, 19), (95, 80)]
  | 6, 0 => f [(26, 16), (127, 32)]
  | 7, 0 | 7, 1 => f [(127, 32)]
  | 7, 2 => f [(20, 20), (127, 32)]
  | 7, 3 => f [(25, 16), (127, 32)]
  | 8, 0 | 8, 1 | 8, 2 | 8, 3 | 8, 4 => f [(30, 16), (127, 32)]
  | 9, 0 | 10, 0 => f [(18, 16), (21, 19), (23, 23), (39, 24), (59, 40), (79, 60), (95, 80), (127, 96)]
  | 11, 0 => f [(30, 16), (39, 32), (45, 40)]
  | 11, 1 => f [(17, 16), (39, 32), (45, 40)]
  | 12, 0 => f [(30, 16), (47, 32)]
  | 12, 1 => f [(17, 16), (47, 32)]
  | 13, 0 => f [(19, 16), (35, 20), (49, 36)]
  | _, _ => 0

/-- Vector slots of one output element (R242). -/
def slotsOf : Nat → Nat
  | 7 => 2 | 8 => 3 | 9 => 3 | 10 => 3 | 11 => 3 | 13 => 3 | _ => 1

/-- A command is legal for a queue of so many scratch pages (R297 to R309), apart from what only the job decides. The rules give
NELEM no lower limit: it is held to at least 1 here (DESIGN CHOICE, log 133). NPOS, which R305 gives the range 1 to 256, is asked of
ADDROW, COMMIT and RECOMP, which read it, and not of CHECK and REBUILD (DESIGN CHOICE, log 134). -/
def cmdLegal (pages : Nat) (c : Cmd) : Bool :=
  let m := cmdMask c.opc c.sub
  let k := bits 18 16 c + 1
  let w0 := bits 21 19 c
  let win := decide (w0 + k ≤ 8)
  m != 0 && c &&& m == c &&
  match c.opc with
  | 1 => bits 51 32 c % 32 == 0 && decide (1 ≤ bits 71 52 c) && decide (bits 71 52 c ≤ 65535) && isLbuf (bits 87 72 c) pages
  | 2 | 9 | 10 => win && isTensor (bits 39 24 c) && decide (1 ≤ bits 79 60 c) && decide (k * bits 79 60 c ≤ 65536)
  | 3 =>
    let a := bits 39 24 c
    let b := bits 55 40 c
    let n := bits 95 76 c
    let src := isTensor a || isLbuf a pages || isKvc a
    src && win && decide (1 ≤ n) && decide (k * n ≤ 65536) &&
    match c.sub with
    | 0 => if isProj b then decide (bits 13 11 b + k ≤ 8) else k == 1 && isLbuf b pages
    | 3 => k == 1 && (isTensor b || isLbuf b pages || isKvc b)
    | _ => k == 1 && b == 0
  | 4 => win
  | 5 => c.sub == 2 || (isTensor (bits 39 24 c) && decide (1 ≤ bits 79 60 c) &&
      decide ((if c.sub = 0 then 10 else 5) * bits 79 60 c ≤ 65536))
  | 6 => decide (1 ≤ bits 23 16 c) && decide (bits 23 16 c ≤ 13) && isTensor (bits 47 32 c) && isTensor (bits 63 48 c) &&
      decide (1 ≤ bits 111 97 c) && decide (bits 111 97 c * slotsOf (bits 23 16 c) ≤ 16384) &&
      (if bits 23 16 c = 8 then decide (bits 26 24 c ≤ 6) else true)
  | 7 => match c.sub with
    | 0 => isTensor (bits 47 32 c) && isTensor (bits 63 48 c)
    | 1 => isTensor (bits 47 32 c) && isTensor (bits 63 48 c) && isTensor (bits 79 64 c)
    | 2 => isTensor (bits 47 32 c) && isLbuf (bits 79 64 c) pages && decide (1 ≤ bits 111 97 c) &&
        decide (bits 111 97 c ≤ 16384)
    | _ => isTensor (bits 47 32 c) && isTensor (bits 63 48 c) && isLbuf (bits 79 64 c) 96 && decide (1 ≤ bits 19 16 c)
  | 8 =>
    let np := bits 111 100 c
    (match c.sub with
     | 0 => isTensor (bits 47 32 c)
     | 4 => isTensor (bits 47 32 c) && isTensor (bits 63 48 c) && isLbuf (bits 79 64 c) pages && decide (np ≤ 64)
     | _ => true) && (c.sub == 0 || c.sub == 3 || (decide (1 ≤ np) && decide (np ≤ 256)))
  | 11 => decide (1 ≤ bits 39 32 c) && (c.sub == 0 || decide (bits 17 16 c ≤ 2))
  | 12 => decide (1 ≤ bits 47 32 c) && (c.sub == 0 || (decide (bits 17 16 c ≤ 2) && decide (bits 47 32 c ≤ 255)))
  | 13 => decide (bits 19 16 c ≤ 10)
  | _ => false

/-! ### Sections -/

/-- The entries of `n` bytes of a section. -/
def entries (n : Nat) (b : List Byte) : List (List Byte) := (List.range (b.length / n)).map fun i => slice (n * i) n b

/-- One SITE entry (R333). -/
def parseSite (b : List Byte) : SiteC :=
  { site := le 0 2 b, stype := le 2 1 b, fmtIn := le 3 1 b, fmtW := le 4 1 b, fmtOut := le 5 1 b, mx := bit 0 (le 6 1 b),
    rnd := bits 2 1 (le 6 1 b), subn := bits 3 3 (le 6 1 b), sat := bits 4 4 (le 6 1 b), accFmt := le 7 1 b,
    accDepth := le 8 2 b, tolc := bits 3 0 (le 10 1 b), ftol := bits 7 4 (le 10 1 b), func := le 11 1 b,
    gammaAcc := le 12 4 b, epsAbs := le 16 4 b }

/-- A finite FP32 code that is at least 0. -/
def fp32Pos (v : Nat) : Bool := match decodeElem 10 false v with | .fin x => decide (0 ≤ x.m) | _ => false

/-- The SITE rules of R333 and R334 on one entry. -/
def siteOk (b : List Byte) : Bool :=
  let s := parseSite b
  let fmts := [s.fmtIn, s.fmtW, s.fmtOut, s.accFmt]
  let prj := s.stype == 1 || s.stype == 3
  decide (s.site ≤ 65534) && decide (1 ≤ s.stype) && decide (s.stype ≤ 8) && s.rnd != 3 && le 6 1 b / 32 == 0 &&
  fmts.all (fun f => decide (f ≤ 10)) && decide (1 ≤ s.accDepth) && le 20 12 b == 0 &&
  (if s.stype = 4 then decide (1 ≤ s.func) && decide (s.func ≤ 13) else s.func == 0) &&
  (decide (s.stype ≤ 3) || s.fmtW == 0) &&
  !(s.mx && (s.fmtIn == 2 || s.fmtOut == 2 || s.fmtW == 2)) && fp32Pos s.gammaAcc && fp32Pos s.epsAbs &&
  (match uOut s.accFmt 0 with
   | none => true
   | some e => ((Dy.pow2 (2 * e)).mul (Dy.ofInt s.accDepth)).le ((fp32 s.gammaAcc).mul (fp32 s.gammaAcc))) &&
  (!prj || match uOut s.fmtOut s.rnd with
   | none => true
   | some e => ((Dy.ofInt (tauOf s.tolc)).mul (Dy.pow2 e)).le (Dy.pow2 (-1)))

/-- One STREAM entry (R335). -/
def parseStream (b : List Byte) : StreamC :=
  { sidx := bits 5 0 (le 0 1 b), cls := bits 1 0 (le 1 1 b), port := bits 2 2 (le 1 1 b), ovr := bits 4 3 (le 1 1 b),
    rateMax := le 2 2 b, deadlineUs := le 4 2 b, ntokMax := le 6 2 b, minPpm := le 8 4 b, planPpm := le 12 4 b,
    required := le 16 2 b, sarPairs := le 18 1 b, retain := le 19 1 b, nPlan := le 20 4 b, kvwin := le 24 2 b,
    semBanks := le 26 1 b, ingressPeak := le 28 4 b, tPlan := le 32 8 b, laneops := le 40 4 b, vslots := le 44 4 b,
    macs := le 48 4 b, dramBytes := le 52 4 b, tapBytes := le 56 4 b, latUs := le 60 2 b, envState := le 62 2 b }

/-- The ranges of R335 on entry `i`. -/
def streamOk (i : Nat) (b : List Byte) : Bool :=
  let s := parseStream b
  let rng (lo x hi : Nat) := decide (lo ≤ x) && decide (x ≤ hi)
  s.sidx == i && le 0 1 b / 64 == 0 && le 1 1 b / 32 == 0 && s.cls != 3 && s.ovr != 3 && rng 1 s.rateMax 1000 &&
  rng 20 s.deadlineUs 10000 && rng 1 s.ntokMax 4096 && decide (s.minPpm ≤ 1000000) && le 27 1 b == 0 &&
  bits 0 0 s.required == 0 && bits 15 11 s.required == 0 && decide (s.sarPairs ≤ 8) && decide (s.retain ≤ 64) &&
  rng 256 s.kvwin 32768 && rng 1 s.semBanks 8

/-- One SHED entry (R353). -/
def parseShed (b : List Byte) : ShedE :=
  { sidx := bits 5 0 (le 0 1 b), kind := bits 3 0 (le 1 1 b), group := le 2 2 b, lu := le 4 4 b, laneops := le 8 4 b,
    vslots := le 12 4 b, macs := le 16 4 b }

/-- ASCII characters padded with 0. -/
def asciiPadded (b : List Byte) : Bool := (b.dropWhile (· != 0)).all (· == 0) && b.all fun x => decide (x.toNat < 128)

/-- Header of a plan image is sound (R329), apart from the length of the image. -/
def planHeaderOk (b : List Byte) : Bool :=
  le 0 4 b == 0x3150594C && le 4 2 b == 1 && decide (1 ≤ le 6 2 b) && decide (le 6 2 b ≤ 32) && le 8 8 b % 64 == 0 &&
  le 16 1 b / 4 == 0 && le 17 3 b == 0 && le 48 16 b == 0 && asciiPadded (slice 24 16 b)

/-- The section table: tag, offset and length. -/
def sections (b : List Byte) : List (Nat × Nat × Nat) :=
  (List.range (le 6 2 b)).map fun i => let o := 64 + 16 * i; (le o 4 b, le (o + 8) 4 b, le (o + 12) 4 b)

/-- Length of one entry of a section that holds entries of one size (R332, R333, R335, R353). -/
def entryLen : Nat → Nat
  | 2 => 32 | 4 => 48 | 5 => 16 | 9 => 64 | 10 => 24 | 12 => 8 | _ => 1

/-- Entry `i` of the section table keeps the rules of R329 and R332: its tag is one of the table's and has not occurred before,
its reserved word is 0, it starts at a multiple of 64 past the table and every earlier section, whole entries fill it, and the
last section ends at IMGLEN. -/
def sectionOk (b : List Byte) (i : Nat) : Bool :=
  let s := sections b
  match s[i]? with
  | none => false
  | some (tag, o, n) =>
    let before := s.take i
    decide (1 ≤ tag) && decide (tag ≤ 15) && !(before.any fun x => x.1 == tag) && le (64 + 16 * i + 4) 4 b == 0 &&
    o % 64 == 0 && decide (64 + 16 * s.length ≤ o) && before.all (fun x => decide (x.2.1 + x.2.2 ≤ o)) &&
    n % entryLen tag == 0 && (if i + 1 = s.length then o + n == le 8 8 b else decide (o + n ≤ le 8 8 b))

/-- Tags of the sections that must be present (R332). -/
def requiredTags : List Nat := [1, 2, 3, 4, 5, 6, 7, 8, 9, 12]

/-- Every entry of the section table keeps its rules, and every required section is there (R329, R332). -/
def sectionsOk (b : List Byte) : Bool :=
  (List.range (le 6 2 b)).all (sectionOk b) && requiredTags.all fun t => (sections b).any fun x => x.1 == t

/-- A section's bytes, empty where it is absent. -/
def sectionOf (b : List Byte) (tag : Nat) : List Byte :=
  match (sections b).find? fun x => x.1 == tag with
  | some (_, o, n) => slice o n b
  | none => []

/-- An optional section through its decoder. -/
def optSection {α : Type} (b : List Byte) (tag : Nat) (dflt : α) (f : List Byte → Option α) : Option α :=
  if (sections b).any fun x => x.1 == tag then f (sectionOf b tag) else some dflt

/-- LU of each site from the LEDGER section: 64-bit fields in the order of the SITE section (R332). -/
def parseLedger (sites : List SiteC) (b : List Byte) : List (Nat × Nat) :=
  (sites.zip (List.range sites.length)).map fun (s, i) => (s.site, le (8 * i) 8 b)

/-- The image taken apart; none where a section does not decode. -/
def parsePlan (b : List Byte) : Option Plan := do
  let img := b.take (le 8 8 b)
  let graph ← Config.decodeGraph (sectionOf b 1)
  let mats ← Config.decodeMat (sectionOf b 3)
  let groups ← Config.decodeDispatch (sectionOf b 6)
  let queues ← Config.decodeQueue (sectionOf b 7)
  let sem ← Config.decodeSem (sectionOf b 8)
  let tok ← optSection b 14 [] Config.decodeTok
  let xfer ← optSection b 15 [] Config.decodeXfer
  let (binds, key) ← optSection b 13 ([], 0) Config.decodeBind
  let sites := (entries 32 (sectionOf b 2)).map parseSite
  some { hash := Config.sha384 img, slot := le 16 1 b, rollback := le 20 4 b, imglen := le 8 8 b,
         modelId := slice 24 16 b, build := le 40 8 b, sites := sites, mats := mats,
         manifest := (entries 48 (sectionOf b 4)).map beNat, prog := (entries 16 (sectionOf b 5)).map leNat,
         streams := (entries 64 (sectionOf b 9)).map parseStream, shed := (entries 24 (sectionOf b 10)).map parseShed,
         lu := parseLedger sites (sectionOf b 12), graph := graph, groups := groups, queues := queues, sem := sem,
         tok := tok, xfer := xfer, binds := binds, bindKey := key, const := sectionOf b 11 }

/-- Contract of a site. -/
def Plan.siteC (p : Plan) (site : Nat) : Option SiteC := p.sites.find? fun s => s.site == site

/-- Tensor of a (SITE, ROLE) pair; role 2 stands for the accumulators of an exact-class site (R171). -/
def Plan.portTensor (p : Plan) (site role : Nat) : Option TensD :=
  match p.graph.ports.find? fun x => x.1 == site && x.2.1 == role with
  | some (_, _, t) => p.graph.tensors.find? fun x => x.num == t
  | none => none

/-- A declared tensor by number. -/
def Plan.tensor (p : Plan) (t : Nat) : Option TensD := p.graph.tensors.find? fun x => x.num == t

/-- The matrix of a site. -/
def Plan.matD (p : Plan) (site : Nat) : Option MatD := p.mats.find? fun m => m.site == site

/-- A SHED entry names one of the plan's streams and a kind that the stream does not require (R334, R353). -/
def Plan.shedOk (p : Plan) (e : List Byte) : Bool :=
  le 0 1 e / 64 == 0 && le 1 1 e / 16 == 0 && le 20 4 e == 0 &&
    (let s := parseShed e
     match p.streams[s.sidx]? with
     | some c => decide (1 ≤ s.kind) && decide (s.kind ≤ 10) && !bit s.kind c.required
     | none => false)

/-- A matrix has 1 to 8 projections, and its site's tensors have its dimensions; a gather site reads no vector (R334). -/
def Plan.matOk (p : Plan) (m : MatD) : Bool :=
  decide (1 ≤ m.k) && decide (m.k ≤ 8) &&
    (match p.siteC m.site with
     | some s => s.stype == 3 ||
        ((match p.portTensor m.site 0 with | some t => t.count == m.dIn | none => true) &&
         [1, 2].all fun k => match p.portTensor m.site k with | some t => t.count == m.dOut | none => true)
     | none => false)

/-- The commands of a plan: its PROG section, then its fallback programs (R293). -/
def Plan.commands (p : Plan) : List Cmd := p.prog ++ p.sem.cmds

/-- The commands of a program: from a program index to the first DONE (R290). -/
def Plan.program (p : Plan) (pc : Nat) : List Cmd :=
  let cs := (Plan.commands p).drop pc
  cs.take ((cs.takeWhile fun c => Cmd.opc c != 13).length + 1)

/-- Banks and semaphores of a plan (R336, R395). -/
def Plan.nBanks (p : Plan) : Nat := sumNat (p.streams.map (·.semBanks))
def Plan.nSems (p : Plan) : Nat := p.sem.planWide + p.nBanks * p.sem.bank

/-- A SIG or WAI of a queue with so many flags: its flag is one of them, and its index lies in the plan's range for some bank
(R307, R308). A SIG to another companion names a semaphore of that one's plan. -/
def Plan.indexOk (p : Plan) (flags : Nat) (c : Cmd) : Bool :=
  let sem := bits 29 16 c
  match c.opc, c.sub with
  | 11, 1 | 12, 1 => decide (bits 17 16 c < flags)
  | 11, _ => bits 45 40 c != 0x3F || decide (sem < if bit 30 c then p.nSems else p.nBanks * p.sem.bank)
  | 12, _ => decide (sem < if bit 30 c then p.nSems else p.nBanks * p.sem.bank)
  | _, _ => true

/-- The (attention site, KV head) pairs in the order of the graph. -/
def Plan.pairs (p : Plan) : List (AttnD × Nat) := p.graph.attn.flatMap fun a => (List.range a.kvHeads).map fun h => (a, h)

/-- The tensor that an operand reference of a site names (R295). -/
def Plan.opnd (p : Plan) (site k : Nat) : Option TensD :=
  match p.graph.opnds.find? fun o => o.1 == site with
  | some (_, ts) => (match ts[k]? with | some t => p.tensor t | none => none)
  | none => none

/-- The tensor of a TENSOR reference. -/
def Plan.tref (p : Plan) (site v : Nat) : Option TensD :=
  match TRef.of v with | some (.tensor k) => p.opnd site k | _ => none

/-- SITE of a command: 0xFFFF means the job's (R295). -/
def siteIn (site v : Nat) : Nat := if v = 0xFFFF then site else v

/-- Elementwise functions of two operands (R242, R303). -/
def binaryFn (func : Nat) : Bool := func == 1 || func == 2 || func == 6 || func == 9

/-- Vector slots of a VEC command of a site's job (R242, R304, R305): COMBINE takes one for each term. The rules state none for RTE:
SELECT takes 1 for each logit and GATE 3, TOKSLICE 4 for each logit that GUMBEL scores and 1 under GREEDY, TOKJOIN 1 for each slice
(DESIGN CHOICE, log 71). -/
def Plan.slots (p : Plan) (job : Nat) (c : Cmd) : Nat :=
  let site := siteIn job (bits 127 112 c)
  let n := bits 111 97 c
  let dHead := match p.pairs[bits 23 16 c]? with | some (a, _) => a.dHead | none => 0
  let count (v : Nat) : Nat := match p.tref site v with | some t => t.count | none => 0
  match c.opc, c.sub with
  | 6, _ => n * (if bits 23 16 c = 6 then count (bits 79 64 c) else slotsOf (bits 23 16 c))
  | 7, 0 => count (bits 47 32 c)
  | 7, 1 => 3 * count (bits 47 32 c)
  | 7, 2 => n * (if p.tok.any fun d => d.site == site && d.gumbel then 4 else 1)
  | 7, 3 => bits 19 16 c
  | 8, 0 => dHead
  | 8, 4 => bits 111 100 c * 2 * dHead
  | 8, _ => bits 111 100 c * dHead
  | _, _ => 0

/-- What makes a command legal for a job of a site beside its own fields (R292, R295, R297): the operands, contracts and tables that
its site has, ELM's second operand (R303), the pairs, query heads and slice queues that the plan has (R295, R304, R305), the semaphore of
DONE (R309), and the slots of a VEC command. TOKJOIN's partials lie in the scratch of the slice queues. -/
def Plan.fits (p : Plan) (job : Nat) (c : Cmd) : Bool :=
  let at_ := siteIn job (bits 127 112 c)
  let lane := siteIn job (bits 95 80 c)
  let l := (p.tref at_ (bits 47 32 c)).isSome
  let t := (p.tref at_ (bits 63 48 c)).isSome
  let con := (p.siteC at_).isSome
  let pair (k : Nat) : Bool := (p.pairs[k]?).isSome
  let head (k h : Nat) : Bool := match p.pairs[k]? with | some (a, _) => decide (h < max 1 (a.qHeads / max 1 a.kvHeads)) | none => false
  let kvc (v : Nat) : Bool := match TRef.of v with | some (.kvc _ k) => pair k | _ => true
  let slice (k : Nat) : Bool := match p.queues[k]? with | some x => isLbuf (bits 79 64 c) x.pages | none => false
  decide (p.slots job c ≤ 16384) &&
  match c.opc, c.sub with
  | 3, _ => kvc (bits 39 24 c) && kvc (bits 55 40 c)
  | 2, _ => (p.tref lane (bits 39 24 c)).isSome && (p.siteC lane).isSome
  | 4, _ => (p.siteC lane).isSome
  | 5, 2 => true
  | 5, _ => (p.tref lane (bits 39 24 c)).isSome
  | 6, _ => l && con && (if binaryFn (bits 23 16 c) then isTensor (bits 79 64 c) else bits 79 64 c == 0)
  | 7, 0 => l && t && con && p.graph.routers.any fun d => d.site == at_
  | 7, 1 => l && t && con && (match p.graph.routers.find? fun d => d.site == at_ with
      | some d => (p.tref d.site (bits 79 64 c)).isSome && (p.siteC d.gateSite).isSome
      | none => false)
  | 7, 2 => l && con && p.tok.any fun d => d.site == at_
  | 7, _ => l && t && con && (p.tok.any fun d => d.site == at_) && (List.range (bits 19 16 c)).all fun k => slice (bits 25 20 c + k)
  | 8, 0 => l && con && head (bits 23 16 c) (bits 29 24 c)
  | 8, 4 => l && t && head (bits 23 16 c) (bits 29 24 c)
  | 8, _ => head (bits 23 16 c) (bits 29 24 c)
  | 13, _ => bits 49 36 c == 0x3FFF || decide (bits 49 36 c < p.sem.bank)
  | 9, _ | 10, _ => p.xfer.any fun d => d.site == lane
  | _, _ => true

/-- Every command of a job's program is legal for the queue it runs on and the site it serves (R292, R297, R334). -/
def Plan.programOk (p : Plan) (queue pc site : Nat) : Bool :=
  match p.queues[queue]? with
  | some q => (p.program pc).all fun c => cmdLegal q.pages c && p.indexOk q.flags c && p.fits site c
  | none => false

/-- The programs of the dispatch table, and those that the SEM section names: the SAR fallbacks and the VDU's jobs (R305, R332, R334). -/
def Plan.groupsOk (p : Plan) : Bool := p.groups.all fun g => g.jobs.all fun j => p.programOk j.queue j.pc j.site
def Plan.sarSite (p : Plan) (pair : Nat) : Nat := match p.pairs[pair]? with | some (a, _) => a.site | none => 0
def Plan.semOk (p : Plan) : Bool :=
  p.sem.sar.all (fun r => p.programOk r.queue (p.prog.length + r.pc) (p.sarSite r.pair)) &&
  (p.sem.commitJobs ++ p.sem.rebuildJobs).all fun x => p.programOk x.2.queue x.2.pc x.2.site

/-- A logical queue declares 0 to 3 local flags (R286, R332), and a transfer site takes 1 to 8 windows (R306, R332). -/
def QueueD.ok (q : QueueD) : Bool := decide (q.flags ≤ 3)
def XferD.ok (x : XferD) : Bool := decide (1 ≤ x.k) && decide (x.k ≤ 8)

/-- Ranges of manifest entries follow one another from an entry on, in the order of the matrices, and end with the last entry. -/
def rangesOk (total : Nat) : Nat → List MatD → Bool
  | n, [] => n == total
  | n, m :: ms => m.firstEntry == n && rangesOk total (n + m.nchunk) ms

/-- The MANIFEST section holds one digest for each weight chunk, ordered by matrix, which is read as the order of the MAT section
(R332; DEDUCED, log 23). -/
def Plan.manifestOk (p : Plan) : Bool := rangesOk p.manifest.length 0 p.mats

/-- No two entries of the SITE section are of one site (R332). -/
def Plan.sitesOk (p : Plan) : Bool := (p.sites.map (·.site)).eraseDups.length == p.sites.length

/-- Commands of the PROG section and of the fallback programs: at most 4,096 together (R332). -/
def Plan.lengthOk (p : Plan) : Bool := decide ((Plan.commands p).length ≤ 4096)

/-- Formats of a tensor of the graph: no reserved code, and no MX with INT32 (R116, R334). -/
def TensD.fmtOk (t : TensD) : Bool := decide (t.fmt ≤ 10) && !(t.mx && t.fmt == 2)

/-- The plan-format rules of R334 that need the whole plan; `b` is the image. -/
def planOk (b : List Byte) (p : Plan) : Bool :=
  p.graph.tensors.all TensD.fmtOk && (sectionOf b 12).length == 8 * p.sites.length &&
  (entries 32 (sectionOf b 2)).all siteOk &&
  decide (1 ≤ p.streams.length) && decide (p.streams.length ≤ 64) &&
  ((entries 64 (sectionOf b 9)).zip (List.range p.streams.length)).all (fun (e, i) => streamOk i e) &&
  (entries 24 (sectionOf b 10)).all p.shedOk && p.mats.all p.matOk &&
  (Plan.commands p).all (cmdLegal 96) &&
  p.groupsOk && p.semOk && p.queues.all QueueD.ok && p.xfer.all XferD.ok && p.manifestOk && p.sitesOk && p.lengthOk

/-- Index in the section table of the section with a tag. -/
def sectionIdx (b : List Byte) (tag : Nat) : Nat := ((sections b).map (·.1)).findIdx (· == tag)

/-- DETAIL of a plan-format error (R339): the index in the section table of the first section at fault, then the first SITE at
fault, the first STREAM entry, the stream of the first SHED entry, or the site of the first matrix at fault; else the section
that holds the first fault found; 0 where none can be named, as for an absent section (DEDUCED, log 23). -/
def formatDetail (b : List Byte) (p : Option Plan) : Nat :=
  let sect := (List.range (le 6 2 b)).find? fun i => !sectionOk b i
  let site := ((entries 32 (sectionOf b 2)).find? fun e => !siteOk e).map (le 0 2)
  let es := entries 64 (sectionOf b 9)
  let strm := (List.range es.length).find? fun i => !streamOk i (es.getD i [])
  let rest := match p with
    | none => none
    | some p =>
      let shed := ((entries 24 (sectionOf b 10)).find? fun e => !p.shedOk e).map (le 0 1)
      let mat := (p.mats.find? fun m => !p.matOk m).map (·.site)
      let tag := if !p.graph.tensors.all TensD.fmtOk then some 1
        else if (sectionOf b 12).length != 8 * p.sites.length then some 12
        else if !p.sitesOk then some 2
        else if !p.prog.all (cmdLegal 96) || !p.lengthOk then some 5
        else if !p.manifestOk then some 4
        else if !p.queues.all QueueD.ok then some 7
        else if !p.groupsOk then some 6
        else if !p.sem.cmds.all (cmdLegal 96) || !p.semOk then some 8
        else if !p.xfer.all XferD.ok then some 15
        else none
      (shed.or mat).or (tag.map (sectionIdx b))
  if !planHeaderOk b then 0 else (((sect.or site).or strm).or rest).getD 0

end Sys2Proof.Machine
end

