-- ==== Sys2Proof/Machine/Result.lean ====
section
/-!
DEFINITION. Streams, contexts, results and their jobs: the operations that the trace parser, the engines, the semaphores
and the VDU share (R119 to R124, R287 to R290, R310 to R313, R358 to R361, R393 to R412).
-/
namespace Sys2Proof.Machine

/-! ### Reading and changing parts of the state -/

/-- A plan context, a stream, a logical queue, and the plan of a stream. -/
def State.ctx (s : State) (c : Nat) : PlanCtx := s.ctxs.getD c PlanCtx.reset
def State.st (s : State) (i : Nat) : Stream := s.streams.getD i Stream.reset
def State.lq (s : State) (q : Nat) : LQ := s.lqs.getD q LQ.reset
def State.planOf (s : State) (i : Nat) : Option Plan := (s.ctx (s.st i).ctx).plan

/-- One context, stream, queue or result changed. -/
def State.updCtx (s : State) (c : Nat) (f : PlanCtx → PlanCtx) : State := { s with ctxs := updAt f c s.ctxs }
def State.updSt (s : State) (i : Nat) (f : Stream → Stream) : State := { s with streams := updAt f i s.streams }
def State.updLq (s : State) (q : Nat) (f : LQ → LQ) : State := { s with lqs := updAt f q s.lqs }
def State.updSlot (s : State) (i q : Nat) (f : Slot → Slot) : State :=
  { s with slots := mapIf (fun r => r.stream == i && r.resseq == q) f s.slots }

/-- The slot of a result. -/
def State.slotOf (s : State) (i q : Nat) : Option Slot := s.slots.find? fun r => r.stream == i && r.resseq == q

/-- The head job of a queue changed. -/
def State.updJob (s : State) (q : Nat) (f : Job → Job) : State :=
  s.updLq q fun l => { l with jobs := match l.jobs with | [] => [] | j :: js => f j :: js }

/-- A result's FAULTSUM gains bits (R369). -/
def Slot.sum (r : Slot) (b : Nat) : Slot := { r with fsum := r.fsum ||| 2 ^ b }

/-- A condition of FAULTSUM touches a result. -/
def State.sumBit (s : State) (i q b : Nat) : State := s.updSlot i q fun r => r.sum b

/-- A tally engine is in service (R37); one that hands over to be OFF is not (R324). -/
def State.teUp (s : State) (e : Nat) : Bool :=
  let r := s.rd F.TE_STAT_ROLE e
  decide (1 ≤ r) && decide (r ≤ 5) && (r != 2 || s.on F.TE_CTRL_EN e)

/-- Tally engines in service, and active ones: one of those in service counts as the spare, and with one left none is active
(R37). -/
def State.teCount (s : State) : Nat := ((List.range 4).filter s.teUp).length
def State.teActive (s : State) : Nat := s.teCount - 1

/-- Pending results carry the mark of R39 when only one tally engine remains in service. -/
def State.markEngines (s : State) : State :=
  if s.teCount ≤ 1 then { s with slots := mapIf (fun r => !r.formed) (fun r => { r with engines := true }) s.slots } else s

/-! ### Plan lookups -/

/-- The first DONE at or after a program index (R290). -/
def Plan.doneOf (p : Plan) (pc : Nat) : Option Cmd := ((Plan.commands p).drop pc).find? fun c => Cmd.opc c == 13

/-- Semaphores that DONE commands name for the VDU's join (R309, R361). -/
def Plan.joins (p : Plan) : List Nat :=
  (((Plan.commands p).filter fun c : Cmd => Cmd.opc c == 13 && bits 49 36 c != 0x3FFF).map fun c => bits 49 36 c).eraseDups

/-- Semaphores of a bank that a peer feeds, with the peer: the REMOTE marks of the XFER section (R408). -/
def Plan.fed (p : Plan) : List (Nat × Nat) := p.xfer.flatMap fun d => d.sems.map fun k => (k, d.peer)

/-- Sites whose operands the commands of a program name, the job's own among them (R295). -/
def Plan.sitesOf (p : Plan) (pc site : Nat) : List Nat :=
  let own (v : Nat) : Nat := if v = 0xFFFF then site else v
  site :: (p.program pc).filterMap fun c =>
    match c.opc with
    | 2 | 4 | 5 | 9 | 10 => some (own (bits 95 80 c))
    | 3 => some (own (bits 111 96 c))
    | 6 | 7 | 8 => some (own (bits 127 112 c))
    | _ => none

/-- Sites that a job recomputes element by element: those of its ELM and RTE commands, and the gate site of a router whose GATE it runs
(R122, R254, R303, R304). -/
def Plan.elemSites (p : Plan) (j : JobD) : List Nat :=
  (p.program j.pc).flatMap fun c : Cmd =>
    let site := if bits 127 112 c = 0xFFFF then j.site else bits 127 112 c
    match Cmd.opc c, Cmd.sub c with
    | 6, _ => [site]
    | 7, 1 => site :: ((p.graph.routers.filter fun d => d.site == site).map (·.gateSite))
    | 7, _ => [site]
    | _, _ => []

/-- Positions that the token at position `p` attends (R121, R264). -/
def AttnD.attended (a : AttnD) (p : Nat) : Nat := if a.window = 0 then p + 1 else min a.window (p + 1)

/-- First position that the token at position `p` attends. -/
def AttnD.from_ (a : AttnD) (p : Nat) : Nat := p + 1 - a.attended p

/-- LU of one query head of an attention site over the tokens of a result (R120). -/
def AttnD.headLu (a : AttnD) (ctxpos ntok : Nat) : Nat :=
  sumNat ((List.range ntok).map fun t => 2 * a.dHead * a.attended (ctxpos + t))

/-- Ledger key of a site's LU for one token. -/
def luKey (site token : Nat) : Nat := site + 65536 * token

/-- Outcome key of a check index for one token (the index alone for checks of the whole result). -/
def chkKey (chk token : Nat) : Nat := chk + 65536 * token

/-- Outcome keys of the BIND, ACT and SAR checks, which no DONE reports. -/
def bindKey : Nat := 2 ^ 40
def actKey : Nat := 2 ^ 41
def sarKey (pair : Nat) : Nat := 2 ^ 42 + pair

/-- Total LU T of a result (R120, R124). -/
def Plan.totalLu (p : Plan) (ctxpos ntok : Nat) : Nat :=
  let attn := p.graph.attn.map fun a => a.qHeads * a.headLu ctxpos ntok
  let rest := (p.lu.filter fun x => !(p.graph.attn.any fun a => a.site == x.1)).map fun x => x.2 * ntok
  sumNat attn + sumNat rest

/-- LU of a ledger key, for the limit of R123. -/
def Plan.luOf (p : Plan) (ctxpos ntok key : Nat) : Nat :=
  match p.graph.attn.find? fun a => luKey a.site 0 == key with
  | some a => a.qHeads * a.headLu ctxpos ntok
  | none => ((p.lu.find? fun x => x.1 == key % 65536).map (·.2)).getD 0

/-- Covered LU C of a result (R123). The site of a SAR check is its layer's attention operation, so of two drawn pairs of one layer the
larger credit counts (DESIGN CHOICE, log 129). -/
def Slot.covered (r : Slot) (p : Plan) : Nat :=
  let done := r.checks.filter fun c => r.out.any fun o => o.1 == c.chk && decide (o.2 ≤ 1)
  let credits := done.flatMap (·.lu)
  let keys := (credits.map (·.1)).eraseDups
  sumNat (keys.map fun k =>
    min (p.luOf r.ctxpos r.ntok k) ((credits.filter fun x => x.1 == k).foldl (fun m x => max m x.2) 0))

/-- Achieved coverage in ppm (R124). -/
def Slot.ppm (r : Slot) (p : Plan) : Nat := if r.total = 0 then 1000000 else r.covered p * 1000000 / r.total

/-! ### Tensors of a result (R171) -/

/-- Element `i` of a part, with its scale byte. -/
def TPart.elem (x : TPart) (i : Nat) : Option (Nat × Nat) :=
  if x.off ≤ i then (x.codes[i - x.off]?).map fun c => (c, x.scales.getD ((i - x.off) / 32) 127) else none

/-- An accepted element of a tensor for a token, with its block scale. -/
def Slot.elem (r : Slot) (tensor token i : Nat) : Option (Nat × Nat) :=
  r.parts.findSome? fun x => if x.tensor = tensor ∧ x.token = token then x.elem i else none

/-- The tensor of a token is complete: every declared element has been accepted. -/
def Slot.complete (r : Slot) (t : TensD) (token : Nat) : Bool :=
  let ps := r.parts.filter fun x => x.tensor == t.num && x.token == token
  (List.range t.count).all fun i => ps.any fun x => decide (x.off ≤ i) && decide (i < x.off + x.codes.length)

/-- All codes and scales of a complete tensor. -/
def Slot.whole (r : Slot) (t : TensD) (token : Nat) : List Nat × List Nat :=
  let es := (List.range t.count).map fun i => (r.elem t.num token i).getD (0, 127)
  (es.map (·.1), if t.mx then (List.range (ceilDiv t.count 32)).map fun b => (es.getD (32 * b) (0, 127)).2 else [])

/-! ### Held words (R23, R176, R177) -/

/-- Header fields of a record (R137). -/
def HeldRec.typ (r : HeldRec) : Nat := le 0 1 r.raw
def HeldRec.stream (r : HeldRec) : Nat := le 2 1 r.raw % 64
def HeldRec.port (r : HeldRec) : Bool := bit 6 (le 2 1 r.raw)
def HeldRec.recseq (r : HeldRec) : Nat := le 8 4 r.raw
def HeldRec.resseq (r : HeldRec) : Nat := le 12 8 r.raw
def HeldRec.site (r : HeldRec) : Nat := le 20 2 r.raw
def HeldRec.token (r : HeldRec) : Nat := le 22 2 r.raw
def HeldRec.plen (r : HeldRec) : Nat := le 24 4 r.raw
def HeldRec.hinfo (r : HeldRec) : Nat := le 28 4 r.raw
def HeldRec.payload (r : HeldRec) : List Byte := slice 32 r.plen r.raw

/-- The port of a stream. -/
def State.portOf (s : State) (i : Nat) : Nat := (s.st i).c.port

/-- One tap port changed. -/
def State.updTap (s : State) (p : Nat) (f : TapPort → TapPort) : State := { s with taps := updAt f p s.taps }
def State.tap (s : State) (p : Nat) : TapPort := s.taps.getD p TapPort.reset

/-- The byte counts a port shows are taken from the records it holds. -/
def State.heldCounts (s : State) (p i : Nat) : State :=
  let n := sumNat (((s.tap p).recs.filter fun r => !r.port && r.stream == i).map (·.raw.length))
  let s := s.wr F.TAP_SHELD_BYTES n p i
  let s := s.peak F.TAP_SPEAK_BYTES n p i
  s.wr F.TAP_POOL_BYTES (sumNat (((s.tap p).recs.filter (·.port)).map (·.raw.length))) p

/-- Records of a stream that satisfy a condition leave the buffer once their turn has come. -/
def State.dropHeld (s : State) (i : Nat) (f : HeldRec → Bool) : State :=
  let p := s.portOf i
  let s := s.updTap p fun t => { t with recs := t.recs.filter fun r => !(r.done && !r.port && r.stream == i && f r) }
  s.heldCounts p i

/-- Whether a check of a result reads a tensor of a token (R23): the operands of every site that a job of its group names, the
queries, keys, values and output of a drawn pair, or the model inputs. -/
def Plan.checkReads (p : Plan) (c : ChkD) (tensor token : Nat) : Bool :=
  let operand (site : Nat) : Bool := p.graph.opnds.any fun o => o.1 == site && o.2.contains tensor
  match c.group with
  | some g => c.chk / 65536 == token && p.groups.any fun d => d.num == g && d.jobs.any fun j => (p.sitesOf j.pc j.site).any operand
  | none =>
    if c.kind = 7 then p.graph.attn.any fun a => a.site == c.site &&
      (a.outTensor == tensor || operand a.site || (match p.portTensor a.kvSite 1 with | some t => t.num == tensor | none => false))
    else c.kind == 9 && p.graph.inputs.any fun d => d.tensor == tensor

/-- Words that no open check reads any more leave the buffer (R23): of a formed result all, else the tensor parts whose
every reading check has an outcome, and the records no check reads. -/
def State.release (s : State) (i q : Nat) : State :=
  match s.slotOf i q, s.planOf i with
  | some r, some p =>
    let open_ (c : ChkD) : Bool := !r.out.any (fun o => o.1 == c.chk) && !r.aborted.contains c.chk
    s.dropHeld i fun x => x.resseq == q && (r.formed ||
      match x.typ with
      | 3 | 5 => match p.portTensor x.site (if x.typ = 5 then 2 else bits 9 9 x.hinfo) with
        | some t => !(r.checks.any fun c => open_ c && p.checkReads c t.num x.token)
        | none => true
      | 6 => !r.checks.any fun c => c.kind == 9 && open_ c
      | 7 => !r.checks.any fun c => c.kind == 10 && open_ c
      | _ => true)
  | none, _ => s.dropHeld i fun x => x.resseq == q
  | _, none => s

/-- A queue can issue again: its engine's domain is no longer gated (R322). -/
def State.ungate (s : State) (q : Nat) : State :=
  match (s.lq q).eng with | some e => s.wr F.TE_STAT_GATED 0 e | none => s

/-! ### Semaphores -/

/-- Semaphore base of a job's semaphore number (R307, R395); none outside the plan's range. -/
def State.semAbs (s : State) (c bank sem : Nat) (planWide : Bool) : Option Nat :=
  let x := s.ctx c
  match x.plan with
  | none => none
  | some p =>
    if planWide then (if sem < p.nSems then some (x.pwbase + sem) else none)
    else if bank * p.sem.bank + sem < p.nBanks * p.sem.bank then some (x.pwbase + p.sem.planWide + bank * p.sem.bank + sem)
    else none

/-- A job leaves its queue without a report: it counts as aborted for its result (R313, R362). -/
def State.dropJob (s : State) (q : Nat) : State :=
  match (s.lq q).jobs with
  | [] => s
  | j :: js =>
    let s := s.updLq q fun l => { l with jobs := js, waiting := false, ldps := [] }
    s.updSlot j.stream j.resseq fun r => { r with aborted := j.chk :: r.aborted }

/-- The first registered waiter of a semaphore. -/
def State.firstWait (s : State) (n : Nat) : Option SemWait := s.sem.waits.find? fun w => w.sem == n

/-- A registration ends. -/
def State.unwait (s : State) (w : SemWait) : State :=
  let s := { s with sem := { s.sem with waits := s.sem.waits.erase w } }
  s.wr F.SEM_SSTAT_NWAIT ((s.sem.waits.filter fun x => x.sem == w.sem).length) w.sem

/-- The WAI of a queue's head completes (R308, R322, R405, R407). -/
def State.waitDone (s : State) (q : Nat) (nd : Bool) : State :=
  let s := (s.ungate q).updLq q fun l => { l with waiting := false }
  s.updJob q fun j => { j with cur := j.cur + 1, wais := j.wais + 1, notDone := j.notDone || nd }

/-- Waiters of a semaphore are granted in order of registration while the count suffices (R405). -/
def State.grants (s : State) (n : Nat) : Nat → State
  | 0 => s
  | k + 1 =>
    match s.firstWait n with
    | none => s
    | some w =>
      let c := s.rd F.SEM_SSTAT_COUNT n
      if c < w.n then s
      else
        let s := (s.wr F.SEM_SSTAT_COUNT (c - w.n) n).inc F.SEM_SGRANT_N n
        ((s.unwait w).waitDone w.lq (s.on F.SEM_SSTAT_OVF n)).grants n k

/-- Semaphores of a bank. -/
def State.bankSems (s : State) (c bank : Nat) : List Nat :=
  let x := s.ctx c
  match x.plan with
  | some p => (List.range p.sem.bank).map fun i => x.pwbase + p.sem.planWide + bank * p.sem.bank + i
  | none => []

/-- The bank that a semaphore belongs to has become ABANDONED in part (R412). -/
def State.marBank (s : State) (n : Nat) : State :=
  s.upto (fun i s =>
    let hit (b : BankH) : Bool := !b.marred && (s.bankSems (s.st i).ctx b.bank).contains n
    s.when ((s.st i).banks.any hit) fun s => s.updSt i fun x => { x with banks := mapIf hit (fun b => { b with marred := true }) x.banks }) 64

/-- A semaphore becomes ABANDONED and releases its waiters, whose jobs end without a report (R409, R410). -/
def State.semAbandon (s : State) (n : Nat) : State :=
  let s := (s.wr F.SEM_SSTAT_STATE 2 n).marBank n
  let ws := s.sem.waits.filter fun w => w.sem == n
  s.each ws fun w s => (s.unwait w).dropJob w.lq

/-- A signal of `cnt` from a source arrives at semaphore `n` (R400, R402). -/
def State.semSignal (s : State) (src dev c n cnt : Nat) : State :=
  match s.rd F.SEM_SSTAT_STATE n with
  | 0 => s.raise S.SEM_OWNER (n % 65536)
  | 2 => s.inc F.SEM_ABNDDISC_N
  | _ =>
    if s.rd F.SEM_SSTAT_CTX n ≠ c then (s.semAbandon n).raise S.SEM_OWNER (n % 65536)
    else
      let v := s.rd F.SEM_SSTAT_COUNT n + cnt
      let s := (s.inc F.SEM_SSIG_N n).setWord R.SEM_SLAST (src + 16 * dev) n
      let s := s.wr F.SEM_SSTAT_COUNT (min v 65535) n
      let s := s.when (decide (65535 < v)) fun s => (s.wr F.SEM_SSTAT_OVF 1 n).inc F.SEM_OVFCNT_N
      let s := s.grants n (s.sem.waits.length)
      s.when (decide (65535 < v)) fun s => s.raise S.SEM_SEM_OVF (n % 65536)

/-- Reinitialisation of a semaphore (R410, R411). -/
def State.semInit (s : State) (n : Nat) : State :=
  ((s.wr F.SEM_SSTAT_STATE 1 n).wr F.SEM_SSTAT_COUNT 0 n).wr F.SEM_SSTAT_OVF 0 n

/-- A residue at a bank's release or an unload (R412). -/
def State.residue (s : State) (i : Option Nat) (n : Nat) : State :=
  if s.rd F.SEM_SSTAT_COUNT n = 0 then s
  else
    let s := ((s.wr F.SEM_SSTAT_COUNT 0 n).inc F.SEM_RESCNT_N).wr F.SEM_RESLAST_SEM n
    s.report { src := S.SEM_RESIDUE, chan := n, stream := i }

/-- A job that a result owns: not one of the VDU's (R399). -/
def Job.of (i q : Nat) (j : Job) : Bool := j.stream == i && j.resseq == q && !j.vdu

/-- Whether a job of a result remains on a tally queue or a Mantis engine. -/
def State.hasJobs (s : State) (i q : Nat) : Bool :=
  s.lqs.any (fun l => l.jobs.any (Job.of i q)) ||
  s.mnt.shs.any fun h => (h.queue ++ h.run.toList).any fun j => j.stream == i && j.resseq == q

/-- Streams whose load counts (R354). -/
def State.loaded (s : State) : List Nat := (List.range 64).filter fun i => (s.st i).admitted && !(s.st i).suspended

/-- Plan-relative queues that carry jobs of a plan stream: those of its job groups, of the VDU's jobs and of its SAR fallbacks. -/
def Plan.queuesFor (p : Plan) (sidx : Nat) : List Nat :=
  (p.groups.filter fun g => g.sidx == sidx).flatMap (fun g => g.jobs.map (·.queue)) ++
  ((p.sem.commitJobs ++ p.sem.rebuildJobs).filter fun x => x.1 == sidx).map (fun x => x.2.queue) ++
  (if (p.streams.getD sidx StreamC.none).sarPairs = 0 then [] else p.sem.sar.map (·.queue))

/-- Streams of a context for which its queues hold engine space: those that count but for restored ones that have yet to take
their resources back (R354), and suspended ones with an open result that keeps its checks (R355). -/
def State.holders (s : State) (c : Nat) : List Nat :=
  (List.range 64).filter fun i => (s.st i).ctx == c && (s.st i).admitted &&
    ((!(s.st i).suspended && !(s.st i).regain) || s.slots.any fun r => r.stream == i && !r.formed && !r.suspended)

/-- Queues of a context that carry no jobs and serve no stream that holds engine space leave their engines, and the envelope state of the
suspended ones among these streams goes (R354, R355). -/
def State.freeQueues (s : State) (c : Nat) : State :=
  match (s.ctx c).plan with
  | none => s
  | some p =>
    let hs := s.holders c
    let used := hs.flatMap fun i => p.queuesFor (s.st i).sidx
    let s := s.upto (fun i s => s.when ((s.st i).ctx == c && (s.st i).suspended && !hs.contains i) fun s =>
      s.updSt i fun x => { x with hulls := [], pend := [] }) 64
    s.each (s.ctx c).lqs fun q s =>
      match (s.lq q).ctx with
      | some (_, k) => if used.contains k || !(s.lq q).jobs.isEmpty then s else s.updLq q fun l => { l with eng := none }
      | none => s

/-- A result's bank is released once its record is formed and its last job has ended (R361, R397, R412), and with it the queues that
its suspended stream still held (R354, R355). -/
def State.freeBank (s : State) (i q : Nat) : State :=
  let formed := match s.slotOf i q with | some r => r.formed | none => true
  match (s.st i).banks.find? fun b => b.resseq == q with
  | some b =>
    if !formed || s.hasJobs i q then s
    else
      let c := (s.st i).ctx
      let sems := s.bankSems c b.bank
      let s := s.when (!b.abandoned && !b.marred && !(sems.any fun n => s.rd F.SEM_SSTAT_STATE n == 2)) fun s =>
        s.each sems fun n s => s.residue (some i) n
      let s := s.each sems fun n s => s.semInit n
      let s := s.updSt i fun x => { x with banks := x.banks.erase b }
      let s := s.when (s.st i).suspended fun s => s.freeQueues c
      match (s.ctx c).plan with
      | some p => s.each p.sem.rebuild fun x s =>
          match s.semAbs c 0 x.1 true with | some n => s.semSignal 8 0 c n x.2 | none => s
      | none => s
  | none => s

/-- Every bank of a stream that can be released is released, and with the last job of a suspended stream the queues that it still held
(R354). -/
def State.freeBanks (s : State) (i : Nat) : State :=
  let s := s.each (s.st i).banks fun b s => s.freeBank i b.resseq
  s.when (s.st i).suspended fun s => s.freeQueues (s.st i).ctx

/-- The SAR jobs of a result stop and report nothing (R437). -/
def State.cutSar (s : State) (i q : Nat) : State :=
  let other (j : SarJob) : Bool := !(j.stream == i && j.resseq == q)
  let cut (h : Sh) : Sh := { h with queue := h.queue.filter other, run := h.run.filter other }
  let s : State := { s with mnt := { s.mnt with shs := s.mnt.shs.map cut, waitSar := s.mnt.waitSar.filter other } }
  s.upto (fun e s => s.wr F.SH_SARQ_N (s.mnt.shs.getD e Sh.reset).queue.length e) 2

/-- A result's bank becomes ABANDONED (R409), and its jobs end without a report (R313). -/
def State.abandonBank (s : State) (i q : Nat) : State :=
  let s := match (s.st i).banks.find? fun b => b.resseq == q with
    | some b =>
      let s := s.each (s.bankSems (s.st i).ctx b.bank) fun n s => s.semAbandon n
      s.updSt i fun x => { x with banks := mapIf (fun y => y.resseq == q) (fun y => { y with abandoned := true }) x.banks }
    | none => s
  let mine : Job → Bool := Job.of i q
  let s := s.upto (fun k s => s.updLq k fun l =>
    { l with waiting := l.waiting && !(match l.jobs with | j :: _ => mine j | [] => false),
             ldps := if (match l.jobs with | j :: _ => mine j | [] => false) then [] else l.ldps,
             jobs := l.jobs.filter fun j => !mine j }) 48
  let s := s.cutSar i q
  s.updSlot i q fun r => { r with aborted := (r.checks.map (·.chk)) ++ r.aborted }

/-! ### Jobs -/

/-- A job's descriptor at its enqueue (R289). -/
def State.mkJob (s : State) (r : Slot) (pc site token chk : Nat) (fallback : Bool) : Job :=
  { pc := pc, ctx := r.ctx, stream := r.stream, resseq := r.resseq, site := site, token := token, bank := r.bank,
    replay := false, fallback := fallback, enq := s.cyc % 2 ^ 32, chk := chk, cur := pc, started := false, failed := false,
    notDone := false, purge := false, sigs := 0, wais := 0, ldps := 0, skipS := 0, skipW := 0, skipL := 0, xfc := none, xgen := 0,
    rslot := r.num, pos := r.ctxpos + token, again := false, lost := false, vdu := false, sat := false }

/-- A job enters the FIFO of a plan-relative queue, whose engine has something to issue (R322). -/
def State.enqJob (s : State) (c queue : Nat) (j : Job) : State :=
  match (s.ctx c).lqs[queue]? with
  | some q => (s.updLq q fun l => { l with jobs := l.jobs ++ [j] }).ungate q
  | none => s

/-- The VDU enqueues the COMMIT or REBUILD jobs that the plan names for a result's stream, each for the tokens given, into FIFOs
that have room (R305). They belong to no single result (R399). -/
def State.vduJobs (s : State) (r : Slot) (jobs : List (Nat × JobD)) (tokens : List Nat) : State :=
  let mine := (jobs.filter fun x => x.1 == (s.st r.stream).sidx).map (·.2)
  s.each (mine.flatMap fun d => tokens.map fun t => (d, t)) fun (d, t) s =>
    let room := match (s.ctx r.ctx).lqs[d.queue]? with | some q => decide ((s.lq q).jobs.length < 128) | none => false
    s.when room fun s => s.enqJob r.ctx d.queue { s.mkJob r d.pc d.site t 0 false with vdu := true }

/-- The result is incomplete (R170, R338): records are missing, or it opened with an empty bucket. -/
def Slot.short (r : Slot) : Bool := r.incomplete || r.noRate

/-- No check of the result is dispatched any more: it is incomplete, opened with an empty bucket, or its stream was suspended
(R170, R338, R354). -/
def Slot.barred (r : Slot) : Bool := r.short || r.suspended

/-- Groups of a result that a token's complete tensors trigger and that have not been enqueued (R287, R288). -/
def State.readyGroups (s : State) (r : Slot) (token : Nat) : List GroupD :=
  match (s.ctx r.ctx).plan with
  | none => []
  | some p =>
    if r.formed || r.barred || decide (r.ntok ≤ token) then []
    else p.groups.filter fun g =>
      g.sidx == (s.st r.stream).sidx && !r.groups.contains (g.num + 65536 * token) &&
      (g.jobs.all (fun j => j.kind == 0) || r.checks.any fun c => c.group == some g.num) &&
      g.triggers.all fun t => match p.tensor t with | some d => r.complete d token | none => false

/-- Jobs of a group that run for a token of a result: those that carry no check, and those whose check shedding has left to it. -/
def Slot.jobsOf (r : Slot) (g : GroupD) (token : Nat) : List JobD :=
  g.jobs.filter fun j => j.kind == 0 || r.checks.any fun c => c.chk == chkKey j.chk token

/-- Whether the jobs of these groups fit their FIFOs of 128 (R287). -/
def State.groupsFit (s : State) (r : Slot) (gs : List GroupD) (token : Nat) : Bool :=
  let js := gs.flatMap fun g => r.jobsOf g token
  js.all fun j =>
    match (s.ctx r.ctx).lqs[j.queue]? with
    | some q => decide ((s.lq q).jobs.length + (js.filter fun k => k.queue == j.queue).length ≤ 128)
    | none => true

/-- The groups a token completes are enqueued as one step (R287). -/
def State.enqGroups (s : State) (i q token : Nat) : State :=
  match s.slotOf i q with
  | none => s
  | some r =>
    let gs := s.readyGroups r token
    s.each gs fun g s =>
      let s := s.each (r.jobsOf g token) fun j s => s.enqJob r.ctx j.queue (s.mkJob r j.pc j.site token (chkKey j.chk token) false)
      s.updSlot i q fun r => { r with
        groups := (g.num + 65536 * token) :: r.groups,
        issued := ((r.jobsOf g token).filter fun j => j.kind != 0).map (fun j => chkKey j.chk token) ++ r.issued }

/-- Purge of a result's jobs after its verdict (R312, R437). -/
def State.purge (s : State) (i q : Nat) : State :=
  (s.upto (fun k s => s.updLq k fun l =>
    { l with jobs := mapIf (Job.of i q) (fun j => { j with purge := true }) l.jobs }) 48).cutSar i q

/-- A stream's context reset takes effect (R263): count 0, KV copy and hulls empty; owned joints reseeded (R473). Results that are
still pending keep their hulls and KV positions (R280). -/
def State.ctxReset (s : State) (i : Nat) : State :=
  let pend := s.slots.filter fun r => r.stream == i && !r.formed
  let bound := pend.foldl (fun m r => max m (r.resseq + 1)) 0
  let s := s.updSt i fun x => { x with
    count := 0, kv := [], hulls := [], pend := [], evicted := false, hullBad := false,
    olds := if pend.isEmpty then [] else x.olds ++ [⟨bound, x.kv, x.hulls, x.pend, x.hullBad, x.evicted⟩] }
  (s.reseedStream i).wr F.VDU_SCTRL_CTXRST 0 i

end Sys2Proof.Machine
end

