-- ==== Sys2Proof/Machine/Vectors.lean ====
section
/-!
DEFINITION. The space of the projection store: what a context's vectors occupy (R198, R230, R236, R238), and the old vectors that
leave with the results that hold them.
-/
namespace Sys2Proof.Machine

/-- A matrix of a context changed. -/
def State.updMat (s : State) (c site : Nat) (f : MatK → MatK) : State :=
  s.updCtx c fun x => { x with mats := mapIf (fun m => m.site == site) f x.mats }

/-- Declaration of a matrix of a context. -/
def State.matD (s : State) (c site : Nat) : Option MatD := (s.ctx c).plan.bind fun p => p.matD site

/-- Resident bytes of a matrix's vectors (R198, R220, R236). Of a streamed matrix that is no gather site the first vector is resident and
the others are its streamed siblings: R236 states this for k = 2, and for another k it is this model's choice (DESIGN CHOICE, log 119). -/
def MatD.bytes (d : MatD) : Nat :=
  if d.resid then 96 + 12 * d.dIn
  else if d.streamed && d.gather then 96 * d.k
  else if d.streamed then 96 + 101 * ceilDiv d.dIn 32
  else d.k * (96 + 101 * ceilDiv d.dIn 32)

/-- Resident bytes of a plan, and those of its largest matrix (R236, R347). -/
def Plan.pstBytes (p : Plan) : Nat := sumNat (p.mats.map MatD.bytes)
def Plan.maxMatBytes (p : Plan) : Nat := p.mats.foldl (fun m d => max m d.bytes) 0

/-- Generations whose vectors a matrix still holds beside its newest (R230). -/
def MatK.oldGens (m : MatK) : Nat := (m.vecs.map (·.gen)).eraseDups.length - 1

/-- PST_CMAT.NDONE, PST_CINEX, PST_CSPILL and PST_CRES from the matrices of a context (R238): the plan's vectors, the space of an
open re-key, and the old vectors that open results still hold (R230). PST_CINEX and PST_CSPILL count each vector's newest install alone
(DESIGN CHOICE, log 160). -/
def State.pstShow (s : State) (c : Nat) : State :=
  let ms := (s.ctx c).mats
  let newest (m : MatK) : List PVec :=
    m.vecs.filter fun v => !(m.vecs.any fun w => w.kidx == v.kidx && w.resid == v.resid && decide (v.gen < w.gen))
  let vs := ms.flatMap newest
  let s := (s.setWord R.PST_CINEX (min (sumNat (vs.map (·.ninex))) (2 ^ 32 - 1)) c).setWord R.PST_CSPILL (sumNat (vs.map (·.nspill))) c
  let open_ (d : MatD) : Bool := s.pst.cur == some (c, d.site) && (ms.find? fun m => m.site == d.site).any fun m => !m.vecs.isEmpty
  let held (d : MatD) : Nat := match ms.find? fun m => m.site == d.site with | some m => m.oldGens * d.bytes | none => 0
  let bytes := match (s.ctx c).plan with
    | some p => sumNat (p.mats.map fun d => d.bytes + held d + (if open_ d then d.bytes else 0))
    | none => 0
  (s.setWord R.PST_CRES bytes c).wr F.PST_CMAT_NDONE ((ms.filter fun m => !m.vecs.isEmpty).length) c

/-- The vectors of a context that an install made old are freed once no open result sampled a GEN below that install (R230). -/
def State.freeVecs (s : State) (c : Nat) : State :=
  let needs (g : Nat) : Bool := s.slots.any fun r => r.ctx == c && !r.formed && decide (r.gen < g)
  let keep (m : MatK) (v : PVec) : Bool :=
    m.vecs.all fun w => !(w.kidx == v.kidx && w.resid == v.resid && decide (v.gen < w.gen)) || needs w.gen
  if (s.ctx c).mats.all fun m => m.oldGens == 0 then s
  else (s.updCtx c fun x => { x with mats := x.mats.map fun m => { m with vecs := m.vecs.filter (keep m) } }).pstShow c

end Sys2Proof.Machine
end

