-- ==== Sys2Proof/Machine/Port.lean ====
section
/-!
DEFINITION. What other blocks do to a tap port or an open result: port states, dropped bytes, RESYNC, and the closing of
a result (R153 to R160, R166, R170).
-/
namespace Sys2Proof.Machine

/-! ### Records in a buffer (R136, R139, R140) -/

/-- Whether a TYPE is a port record, with the range of its LEN (R141). -/
def recType : Nat → Option (Bool × Nat × Nat)
  | 0x01 | 0x02 | 0x04 | 0x08 | 0x09 | 0x0A => some (false, 64, 64)
  | 0x03 | 0x05 => some (false, 64, 131072)
  | 0x06 => some (false, 64, 2112)
  | 0x07 => some (false, 64, 576)
  | 0x10 => some (true, 128, 128)
  | 0x11 => some (true, 64, 65536)
  | 0x1F => some (true, 64, 131072)
  | _ => none

/-- The header check of R140 for a record at a ring offset. -/
def headerOk (start : Nat) (b : List Byte) : Bool :=
  match recType (le 0 1 b) with
  | none => false
  | some (port, lo, hi) =>
    let len := le 4 4 b
    le 1 1 b % 16 == 1 && bit 6 (le 2 1 b) == port && len % 64 == 0 && decide (lo ≤ len) && decide (len ≤ hi) &&
    decide (start + len ≤ 0x1000000)

/-- The CRC tag of R139: RECSEQ, STREAM, PORTREC and the port. -/
def recTag (p : Nat) (b : List Byte) : List Byte :=
  natLe 8 (le 8 4 b + 2 ^ 32 * (le 2 1 b % 128) + 2 ^ 39 * p)

/-- The CRC of a whole record holds (R139). -/
def recCrcOk (p : Nat) (b : List Byte) : Bool :=
  let n := b.length
  crcOf crc32c (recTag p b ++ b.take (n - 4)) == le (n - 4) 4 b

/-! ### Port states -/

/-- PSTATE changes; _STAT.STATE follows (R153, R186). -/
def State.pstate (s : State) (p st : Nat) : State :=
  (s.wr F.TAP_STAT_PSTATE st p).wr F.TAP_STAT_STATE (match st with | 0 => 0 | 2 => 2 | _ => 1) p

/-- Bytes are discarded (R160). -/
def State.discard (s : State) (p n : Nat) : State := s.add64 R.TAP_DISC_LO R.TAP_DISC_HI n p

/-- Ring offset of the partial record's byte 0. -/
def State.recStart (s : State) (p : Nat) : Nat :=
  (s.rd F.TAP_CURSOR_PTR p + 0x1000000 - (s.tap p).buf.length) % 0x1000000

/-- The complete records that pass their checks at the head of a buffer whose first byte lies at a ring offset: offset, stamp and bytes of
each. The first has a stamp of its own, the others that of the last TLP. -/
def wholeRecs (p start stamp last : Nat) (b : List Byte) : Nat → List (Nat × Nat × List Byte)
  | 0 => []
  | fuel + 1 =>
    let len := le 4 4 b
    if decide (b.length < 32) || !headerOk start b || decide (b.length < len) || !recCrcOk p (b.take len) then []
    else (start, stamp, b.take len) :: wholeRecs p (start + len) last last (b.drop len) fuel

/-- The partial record of RUN, or the candidate of RESYNC, is dropped whole (R155 to R158, R160). TAP_PARTDROP counts partial
records; R160 tells a failed candidate apart from one, so no candidate counts there (DEDUCED, log 97), and neither does a record that
came whole and failed its CRC (`whole`). A whole record that passes its checks waits in the buffer for room in the port pool alone: it and
what came whole behind it are complete, so they are kept (R157, R179). -/
def State.dropPartial (s : State) (p : Nat) (whole : Bool := false) : State :=
  let t := s.tap p
  let ws := wholeRecs p (s.recStart p) t.stamp t.tlpAt t.buf t.buf.length
  let n := t.buf.length - sumNat (ws.map fun w => w.2.2.length)
  let run := s.rd F.TAP_STAT_PSTATE p == 2
  let s := (s.discard p n).when (run && !whole && decide (0 < n)) fun s => s.inc F.TAP_PARTDROP_N p
  s.updTap p fun t => { t with buf := [], hdr := false, ovr := false, whole := t.whole ++ ws }

/-- Entry to RESYNC (R153, R155). -/
def State.resync (s : State) (p cause : Nat) : State :=
  let s := ((s.pstate p 1).wr F.TAP_STAT_RSCAUSE cause p)
  s.setWord R.TAP_RSGEN ((s.word R.TAP_RSGEN p + 1) % 2 ^ 32) p

/-- The port drops what it holds in part and is in RESYNC. In RESYNC the discarded candidate is no new entry (R134, R156). -/
def State.dropToResync (s : State) (p cause : Nat) (whole : Bool := false) : State :=
  let run := s.rd F.TAP_STAT_PSTATE p == 2
  (s.dropPartial p whole).when run fun s => s.resync p cause

/-- The port leaves QUIESCED once both requests are clear (R153). -/
def State.unquiesce (s : State) (p : Nat) : State :=
  if s.rd F.TAP_STAT_PSTATE p = 3 && !s.on F.TAP_CTRL_QUIESCE p && !s.on F.TAP_STAT_ACB_Q p then s.resync p 7 else s

/-- A result is marked incomplete (R170). -/
def State.markInc (s : State) (i q : Nat) : State := s.updSlot i q fun r => { r with incomplete := true }

/-- The stream's open result is marked incomplete, if there is one. -/
def State.markOpenRes (s : State) (i : Nat) : State :=
  match (s.st i).open_ with | some q => s.markInc i q | none => s

/-- Results that are closed and whose record has left the output gate are forgotten. -/
def State.sweep (s : State) : State := { s with slots := s.slots.filter fun r => !(r.left && r.closed) }

/-- The stream's open result closes at the port. -/
def State.closeRes (s : State) (i : Nat) : State :=
  match (s.st i).open_ with
  | some q => ((s.updSlot i q fun r => { r with closed := true }).sweep).updSt i fun x => { x with open_ := none }
  | none => s

end Sys2Proof.Machine
end

