-- ==== Sys2Proof/Machine/Sentinel.lean ====
section
/-!
DEFINITION. Sentinel images and the step sequencer (R445 to R450): header and tables, the checks of R448, and every
layer's result to the bit.
-/
namespace Sys2Proof.Machine

/-- Header of a sentinel image is sound and its tables lie in it (R445): KIND as the descriptor asks, reserved fields
0, limits kept. -/
def snHeaderOk (kind : Nat) (b : List Byte) : Bool :=
  le 0 4 b == 0x31484E53 && le 4 2 b == 1 && le 6 1 b == kind && le 7 1 b / 8 == 0 && le 40 8 b == 0 &&
  decide (le 12 4 b ≤ if kind = 1 then 16000000 else 8000000) &&
  decide (250 ≤ le 16 2 b) && decide (le 16 2 b ≤ 4000) && decide (1 ≤ le 18 2 b) && decide (le 18 2 b ≤ 256) &&
  decide (1 ≤ le 20 1 b) && decide (le 20 1 b ≤ 16) && decide (1 ≤ le 21 1 b) &&
  decide (le 21 1 b ≤ if kind = 1 then 64 else 8) &&
  decide (le 24 4 b ≤ if kind = 1 then 196608 else 0) && le 32 8 b % 64 == 0 &&
  (kind == 1 || le 7 1 b / 4 % 2 == 0) && le 32 8 b + 3456 == b.length

/-- An input table entry (R446). -/
def snIn (b : List Byte) : SnIn :=
  ⟨le 0 2 b, le 2 2 b, le 4 2 b, le 6 1 b % 4, le 8 4 b, le 12 4 b⟩

/-- An input table entry keeps its limits and its reserved fields are 0; the activation area is 320 KiB (R424). -/
def snInOk (b : List Byte) : Bool :=
  let e := snIn b
  decide (1 ≤ e.count) && decide (e.count ≤ 1024) && decide (e.etype ≤ 2) && le 6 1 b / 4 == 0 && le 7 1 b == 0 &&
  decide (1 ≤ e.ageUs) && decide (e.ageUs ≤ 1000000) &&
  decide (e.dst + e.count * (if e.etype = 0 then 1 else 4) ≤ 327680)

/-- A layer table entry (R446). -/
def snLayer (b : List Byte) : SnLayer :=
  ⟨le 0 1 b, le 1 1 b, le 2 2 b, le 4 2 b, le 8 4 b, le 12 4 b, le 16 4 b, le 20 4 b, le 24 4 b⟩

/-- The header's fields and tables of an image's bytes; the data area follows the layer table. -/
def snParse (b : List Byte) : SnImage :=
  let nin := le 20 1 b
  let nl := le 18 2 b
  { slot := le 7 1 b % 4, coldOk := bit 2 (le 7 1 b), rollback := le 8 4 b, periodUs := le 16 2 b, nout := le 21 1 b, warmup := le 22 1 b,
    maxStale := le 23 1 b, stateBytes := le 24 4 b, macs := le 28 4 b, nw := le 12 4 b,
    ins := (List.range nin).map fun i => snIn (slice (64 + 16 * i) 16 b),
    layers := (List.range nl).map fun i => snLayer (slice (64 + 16 * nin + 32 * i) 32 b),
    data := slice (64 + 16 * nin + 32 * nl) (le 32 8 b - (64 + 16 * nin + 32 * nl)) b,
    hash := Config.sha384 (b.take (le 32 8 b)) }

/-- Signed bytes of a data area. -/
def s8 (b : Byte) : Int := toSigned 8 b.toNat

/-- Range of the sums a DENSE row can reach over int8 inputs, from its weights and bias. -/
def denseRange (w : List Byte) (bias : Int) : Int × Int :=
  w.foldl (fun (lo, hi) x =>
    let v := s8 x
    (lo + min (v * 127) (v * (-128)), hi + max (v * 127) (v * (-128)))) (bias, bias)

/-- A row of a DENSE layer: weights row by row from WOFF, then the int32 biases (the model's reading of one WOFF). -/
def denseRow (im : SnImage) (l : SnLayer) (i : Nat) : List Byte × Int :=
  (slice (l.woff + i * l.nin) l.nin im.data, toSigned 32 (le (l.woff + l.nout * l.nin + 4 * i) 4 im.data))

/-- An offset lies in an int32 vector. -/
def inWide (ws : List (Nat × Nat)) (o : Nat) : Bool := ws.any fun v => decide (v.1 ≤ o) && decide (o < v.1 + v.2)

/-- The parts of an int32 vector that `n` bytes written at `o` leave. -/
def wideRest (o n : Nat) (v : Nat × Nat) : List (Nat × Nat) :=
  if n = 0 || v.1 + v.2 ≤ o || o + n ≤ v.1 then [v]
  else (if v.1 < o then [(v.1, o - v.1)] else []) ++ (if o + n < v.1 + v.2 then [(o + n, v.1 + v.2 - (o + n))] else [])

/-- Where int32 vectors stand after `n` bytes have been written at `o`. -/
def widePut (ws : List (Nat × Nat)) (o n : Nat) (wide : Bool) : List (Nat × Nat) :=
  let w := ws.flatMap (wideRest o n)
  if wide then (o, n) :: w else w

/-- Where int32 vectors stand after a layer. -/
def SnLayer.widen (l : SnLayer) (ws : List (Nat × Nat)) : List (Nat × Nat) :=
  let w := inWide ws l.src
  match l.op with
  | 1 => widePut ws l.dst (4 * l.nout) true
  | 3 | 4 => widePut ws l.dst ((if w then 4 else 1) * l.nout) w
  | 2 | 5 | 6 => widePut ws l.dst l.nout false
  | _ => ws

/-- Whether each layer of an image reads an int32 vector at SRC, in a step that finds int32 vectors at `ws`, and where they stand after it. -/
def SnImage.widths (im : SnImage) (ws : List (Nat × Nat)) : List Bool × List (Nat × Nat) :=
  let ws := im.ins.foldl (fun ws e => widePut ws e.dst ((if e.etype = 0 then 1 else 4) * e.count) (e.etype != 0)) ws
  im.layers.foldl (fun x l => (x.1 ++ [inWide x.2 l.src], l.widen x.2)) ([], ws)

/-- Whether a layer ever reads an int32 vector at SRC: in a first step, or in one after it. -/
def SnImage.wideAt (im : SnImage) (i : Nat) : Bool :=
  let a := im.widths []
  a.1.getD i false || (im.widths a.2).1.getD i false

/-- Offsets of a layer lie in their areas and no DENSE sum leaves int32 (R448). Only DENSE reads NINL elements; the other
types read one element for each they write (R446), of 4 bytes where SRC lies in an int32 vector (`wide`). -/
def snLayerOk (im : SnImage) (wide : Bool) (l : SnLayer) : Bool :=
  let k := if wide then 4 else 1
  let act (o n : Nat) := decide (o + n ≤ 327680)
  decide (l.shift ≤ 62) &&
  match l.op with
  | 1 => act l.src l.nin && act l.dst (4 * l.nout) && decide (l.woff + l.nout * l.nin + 4 * l.nout ≤ im.data.length) &&
      (List.range l.nout).all fun i =>
        let (w, b) := denseRow im l i
        let (lo, hi) := denseRange w b
        decide (-(2 ^ 31) ≤ lo) && decide (hi < 2 ^ 31)
  | 2 => act l.src (4 * l.nout) && act l.dst l.nout
  | 3 | 4 => act l.src (k * l.nout) && act l.dst (k * l.nout)
  | 5 => act l.src l.nout && act l.woff l.nout && act l.dst l.nout
  | 6 => decide (l.src + l.nout ≤ im.stateBytes) && act l.dst l.nout
  | 7 => act l.src l.nout && decide (l.dst + l.nout ≤ im.stateBytes)
  | 8 => act l.src (k * l.nout) && decide (l.nout ≤ im.nout)
  | 9 => act l.src (k * l.nout) && decide (l.nout ≤ im.nout) && decide (l.woff + 4 * l.nout ≤ im.data.length)
  | _ => false

/-- Bytes that intervals of start and length cover, given by rising start; `e` is where the part counted so far ends. -/
def coverLen : Nat → List (Nat × Nat) → Nat
  | _, [] => 0
  | e, (a, n) :: xs => (a + n - max e a) + coverLen (max e (a + n)) xs

/-- An interval put into a list by rising start. -/
def putInterval (x : Nat × Nat) : List (Nat × Nat) → List (Nat × Nat)
  | [] => [x]
  | y :: ys => if x.1 ≤ y.1 then x :: y :: ys else y :: putInterval x ys

/-- Weight bytes that the DENSE layers read, each counted once (R43, R446). -/
def SnImage.weightBytes (im : SnImage) : Nat :=
  coverLen 0 ((im.layers.filter fun l => l.op == 1).foldl (fun xs l => putInterval (l.woff, l.nout * l.nin) xs) [])

/-- What an image takes of the sentinel store beside its weights (R43, R425): tables, biases, scales and its policy state. -/
def SnImage.restBytes (im : SnImage) : Nat := 16 * im.ins.length + 32 * im.layers.length + (im.data.length - im.nw) + im.stateBytes

/-- The images share 1,165,824 bytes for everything but weights (R425). -/
def snStoreOk (ims : List SnImage) : Bool := decide (sumNat (ims.map SnImage.restBytes) ≤ 1165824)

/-- Time bound of a step in units of 0.2 µs, times 3,280,000 (R453): 5 + MACS / 3,280,000 + 0.2 NLAYER µs. -/
def snBound (im : SnImage) : Nat := (25 + im.layers.length) * 3280000 + 5 * im.macs

/-- The FORMAT check of R448 for descriptor `kind - 1`: none where the image passes, otherwise the DETAIL of the descriptor (R466),
the input entry or layer at fault, or 0. -/
def snFormatFault (kind holdlatUs : Nat) (b : List Byte) : Option Nat :=
  if !snHeaderOk kind b then some 0
  else
    let im := snParse b
    let nin := le 20 1 b
    let nl := le 18 2 b
    let badIn := (List.range nin).find? fun i => !snInOk (slice (64 + 16 * i) 16 b)
    let badLayer := (List.range nl).find? fun i =>
      let x := slice (64 + 16 * nin + 32 * i) 32 b
      !(le 6 2 x == 0 && le 28 4 x == 0 && snLayerOk im (im.wideAt i) (snLayer x))
    match badIn, badLayer with
    | some i, _ => some i
    | none, some i => some i
    | none, none =>
      if 64 + 16 * nin + 32 * nl ≤ le 32 8 b && decide (im.weightBytes ≤ im.nw) && decide (im.nw ≤ im.data.length) &&
        decide (snBound im ≤ ((if kind = 1 then holdlatUs else im.periodUs) - 10) * 5 * 3280000) then none else some 0

/-! ### Running a model -/

/-- A byte of the activations; unwritten activations read 0. -/
def actByte (m : List (Nat × Byte)) (o : Nat) : Byte :=
  match m with
  | [] => 0
  | (k, v) :: r => if k = o then v else actByte r o

/-- A byte of the activations replaced; addresses stay strictly rising and no zero is listed. -/
def actPut (m : List (Nat × Byte)) (o : Nat) (x : Byte) : List (Nat × Byte) :=
  match m with
  | [] => if x = 0 then [] else [(o, x)]
  | (k, v) :: r =>
    if o = k then (if x = 0 then r else (o, x) :: r)
    else if o < k then (if x = 0 then (k, v) :: r else (o, x) :: (k, v) :: r)
    else (k, v) :: actPut r o x

/-- Bytes written from an offset upwards. -/
def actWrite (m : List (Nat × Byte)) : Nat → List Byte → List (Nat × Byte)
  | _, [] => m
  | o, x :: xs => actWrite (actPut m o x) (o + 1) xs

/-- An offset lies in an int32 vector. -/
def SnRun.isWide (r : SnRun) (o : Nat) : Bool := inWide r.wide o

/-- Element `i` of the vector at an offset, int32 or int8. -/
def SnRun.elem (r : SnRun) (wide : Bool) (o i : Nat) : Int :=
  if wide then toSigned 32 (leNat ((List.range 4).map fun k => actByte r.acts (o + 4 * i + k)))
  else s8 (actByte r.acts (o + i))

/-- Bytes are written at an offset, as an int32 vector or not. -/
def SnRun.put (r : SnRun) (o : Nat) (wide : Bool) (bs : List Byte) : SnRun :=
  { r with acts := actWrite r.acts o bs, wide := widePut r.wide o bs.length wide }

/-- A vector is written at an offset. -/
def SnRun.store (r : SnRun) (o : Nat) (wide : Bool) (xs : List Int) : SnRun :=
  r.put o wide (xs.flatMap fun x => if wide then natLe 4 (ofSigned 32 x) else natLe 1 (ofSigned 8 x))

/-- Clamp to int8 and to int32. -/
def sat8 (x : Int) : Int := clampInt (-128) 127 x
def sat32 (x : Int) : Int := clampInt (-(2 ^ 31)) (2 ^ 31 - 1) x

/-- Right shift with the rounding term of REQUANT (R446). -/
def shiftRound (x : Int) (n : Nat) : Int := if n = 0 then x else Int.fdiv (x + 2 ^ (n - 1)) (2 ^ n)

/-- One layer: the model memory, the policy state and the outputs so far become those after it (R446). DENSE and ADD read int8 and
REQUANT int32; the other types take the type of the vector that SRC lies in. OUTPUT sets the setpoints of its joints, and every SCORE
layer of a monitor adds its scores to those of the layers before (R456, log 141). -/
def snStep (mon : Bool) (im : SnImage) (l : SnLayer) (x : SnRun × List Byte × List Int) : SnRun × List Byte × List Int :=
  let (r, st, out) := x
  let idx := List.range l.nout
  let w := r.isWide l.src
  let x (i : Nat) : Int := r.elem w l.src i
  match l.op with
  | 1 => (r.store l.dst true (idx.map fun i =>
      let (w, b) := denseRow im l i
      (List.zip w (List.range l.nin)).foldl (fun a (p : Byte × Nat) => a + s8 p.1 * r.elem false l.src p.2) b), st, out)
  | 2 => (r.store l.dst false (idx.map fun i => sat8 (shiftRound (r.elem true l.src i * toSigned 32 l.mult) l.shift)), st, out)
  | 3 => (r.store l.dst w (idx.map fun i => max (x i) 0), st, out)
  | 4 => (r.store l.dst w (idx.map fun i => min (max (x i) (toSigned 16 l.arg)) (toSigned 16 (l.arg / 65536))), st, out)
  | 5 => (r.store l.dst false (idx.map fun i => sat8 (r.elem false l.src i + r.elem false l.woff i)), st, out)
  | 6 => (r.put l.dst false (slice l.src l.nout st), st, out)
  | 7 => (r, st.take l.dst ++ (idx.map fun i => actByte r.acts (l.src + i)) ++ st.drop (l.dst + l.nout), out)
  | 8 => (r, st, if mon then out else idx.map (fun k => sat32 (x k * toSigned 32 l.mult + toSigned 32 l.arg)) ++ out.drop l.nout)
  | 9 => (r, st, if mon then out ++ idx.map x else out)
  | _ => (r, st, out)

/-- Thresholds of the SCORE layers, in their order (R446, R456). -/
def snThresholds (im : SnImage) : List Int :=
  (im.layers.filter fun l => l.op == 9).flatMap fun l => (List.range l.nout).map fun k => toSigned 32 (le (l.woff + 4 * k) 4 im.data)

/-- All layers of a hold image, or of a monitor image, in order. -/
def snRunAll (mon : Bool) (im : SnImage) (r : SnRun) (st : List Byte) : SnRun × List Byte × List Int :=
  im.layers.foldl (fun x l => snStep mon im l x) (r, st, [])

/-- Elements of an input entry in a frame's payload (R446). -/
def snElems (e : SnIn) (payload : List Byte) : List Int :=
  (List.range e.count).map fun i =>
    match e.etype with
    | 0 => s8 (payload.getD (e.offset + i) 0)
    | 1 => toSigned 16 (beNat (slice (e.offset + 2 * i) 2 payload))
    | _ => beS32 (e.offset + 4 * i) payload

/-- The frame an entry takes at an instant: the newest at or before it (R450). -/
def snFrame (frames : List GFrame) (e : SnIn) (t : Nat) : Option GFrame :=
  frames.find? fun g => g.id == e.dataId && decide (g.sfd ≤ t)

/-- Inputs of a step at instant `t`: the model memory with its input vectors, whether any is stale, and whether one has
been stale for more than MAXSTALE consecutive steps (R450). -/
def snInputs (im : SnImage) (frames : List GFrame) (t : Nat) (r : SnRun) : SnRun × Bool × Bool :=
  (List.zip im.ins (List.range im.ins.length)).foldl (fun (x : SnRun × Bool × Bool) (ei : SnIn × Nat) =>
    let (r, stale, fail) := x
    let (e, i) := ei
    let fresh := match snFrame frames e t with
      | some g => if t ≤ g.sfd + e.ageUs * 1000 then some (snElems e g.payload) else none
      | none => none
    let vec := fresh.getD (r.lastIn.getD i (List.replicate e.count 0))
    let n := if fresh.isSome then 0 else r.staleN.getD i 0 + 1
    let r := r.store e.dst (e.etype != 0) vec
    let pad {α : Type} (d : α) (xs : List α) := xs ++ List.replicate (im.ins.length - xs.length) d
    let r := { r with lastIn := updAt (fun _ => vec) i (pad [] r.lastIn), staleN := updAt (fun _ => n) i (pad 0 r.staleN) }
    (r, stale || fresh.isNone, fail || decide (n > im.maxStale))) (r, false, false)

end Sys2Proof.Machine
end

