-- ==== Sys2Proof/Machine/Pair.lean ====
section
/-!
DEFINITION. The Mantis pair: its states, hold demands, the hand-back of SAR jobs, entry to HOLD and PROBE, and the
judgement of a hold step (R426 to R459). The steps' own rows stand in Mantis.lean.
-/
namespace Sys2Proof.Machine

/-- Parts of the pair read and changed. -/
def State.sh (s : State) (e : Nat) : Sh := s.mnt.shs.getD e Sh.reset
def State.updSh (s : State) (e : Nat) (f : Sh → Sh) : State :=
  { s with mnt := { s.mnt with shs := updAt f e s.mnt.shs } }
def State.updMnt (s : State) (f : Mantis → Mantis) : State := { s with mnt := f s.mnt }

/-- MNT_STAT.PSTATE (R426). -/
def State.pair (s : State) : Nat := s.rd F.MNT_STAT_PSTATE

/-- An engine that takes SAR jobs now (R426, R437): both in SPLIT, the remaining one in SINGLE. -/
def State.sarEng (s : State) (e : Nat) : Bool := (s.pair == 1 || s.pair == 6) && !(s.sh e).out

/-- The policy state is WARM (R441). -/
def State.isWarm (s : State) : Bool :=
  match s.mnt.hold with | some im => decide (im.warmup ≤ s.mnt.warm) | none => false

/-- The warm engine of SPLIT (R440, R458). -/
def State.warmEng (s : State) : Nat := if (s.sh 0).testing then 1 else 0

/-- The alarm lines take their levels; each assertion edge raises SENT_ALARM (R456). -/
def State.setSent (s : State) (m : Nat) : State :=
  let old := s.rd F.MNT_STAT_SENT
  let s := s.wr F.MNT_STAT_SENT m
  s.upto (fun k s => s.when (bit k m && !bit k old) fun s => (s.inc F.MNT_ALARMS_N).raise S.MNT_SENT_ALARM k) 8

/-- ROLE of an engine (R462). -/
def State.shRole (s : State) (e : Nat) : Nat :=
  let x := s.sh e
  let ps := s.pair
  if x.out then (if x.testing then 7 else 6)
  else
    match ps with
    | 0 | 7 => 0
    | 2 | 3 | 4 => 4
    | 5 => 7
    | _ =>
      if x.testing then 5
      else if ps = 1 && s.mnt.hold.isSome && s.warmEng == e then 2
      else if s.mnt.mon.isSome && (ps == 6 || s.warmEng != e) then 3
      else 1

/-- What the pages show of the pair follows its state (R457, R462, R465). -/
def State.pairView (s : State) : State :=
  let ps := s.pair
  let run := s.mnt.mon.isSome && (ps == 1 || ps == 6)
  let s := (s.wr F.MNT_STAT_WARM (b2n s.isWarm)).wr F.MNT_STAT_MON_RUN (b2n run)
  let s := s.upto (fun e s => (s.wr F.SH_STAT_ROLE (s.shRole e) e).wr F.SH_STAT_WARMENG
    (b2n (decide (1 ≤ ps) && decide (ps ≤ 4) && (if ps = 1 then s.warmEng == e else e == 0))) e) 2
  if run then s else s.setSent (if s.on F.MNT_CTRL_SENT_OFF_ALARM then 255 else 0)

/-- The pair enters a state; MANTIS_DEGRADED is raised on entry to PROBE, SINGLE or DOWN (R41, R428, R465). -/
def State.pairTo (s : State) (st : Nat) : State :=
  let s := s.wr F.MNT_STAT_PSTATE st
  let s := s.when (st == 1) fun s => s.wr F.MNT_STAT_HOLDSRC 0
  let s := s.pairView
  s.when (decide (5 ≤ st)) fun s => s.raise S.MNT_MANTIS_DEGRADED

/-- The policy state becomes COLD (R433, R451, R459): no warm step counts, which with WARMUP 0 is WARM all the same (R441, R465). -/
def State.cold (s : State) : State :=
  let s := s.updMnt fun m => { m with warm := 0, last := none }
  s.wr F.MNT_STAT_WARM (b2n s.isWarm)

/-- LOCK_IDLE is left for SPLIT: the monitor starts from its initial state (R444). -/
def State.toSplit (s : State) : State :=
  (s.updMnt fun m => { m with split := false, mrun := SnRun.reset, shs := m.shs.map Sh.freshMon, monK := none }).pairTo 1

/-- The policy state, with its input history, is copied from one engine's local buffer to the other's (R424, R439, R458). -/
def State.copyPolicy (s : State) (src dst : Nat) : State :=
  let y := s.sh src
  s.updSh dst fun x => { x with policy := y.policy, hrun := { y.hrun with acts := x.hrun.acts, wide := x.hrun.wide } }

/-- The march and the clear of a slot leave zeros in an engine's local buffer (R458). -/
def Sh.clearBuf (x : Sh) : Sh :=
  { x with policy := List.replicate x.policy.length 0, hrun := SnRun.reset, mact := [], mwide := [], stage := [] }

/-- The slots of both engines begin anew with a period, half a period apart (R458): at boot, and where a transaction has changed MNT_STPER
(DEDUCED, log 167). -/
def State.newSlots (s : State) : State :=
  let t := s.cyc
  let per := msC (s.rd F.MNT_STPER_MS)
  (s.updSh 0 fun x => { x with slotAt := t + per }).updSh 1 fun x => { x with slotAt := t + per / 2 }

/-- PROBE (R433): frames stop, the policy state is COLD, and both engines take a self-test slot. -/
def State.toProbe (s : State) : State :=
  let s := { s with tsn := s.tsn.dropHold s.ns }
  let s := s.cold.updMnt fun m => { m with
    step := none, reload := false, mstep := none, release := none, again := false, split := false, demandAt := none, fails := 0 }
  ((s.updSh 0 fun x => { x with testing := true }).updSh 1 fun x => { x with testing := true }).pairTo 5

/-! ### SAR jobs that the pair cannot run (R28, R29, R439) -/

/-- A SAR check ends NOT DONE without a job (R426, R442); `lock` where a handover or LOCK is why, which SARLOST records (R369). -/
def State.sarLost (s : State) (lock : Bool) (j : SarJob) : State :=
  s.updSlot j.stream j.resseq fun r =>
    if r.formed then r
    else { (if lock then r.sum 2 else r) with out := (j.chk, 2) :: r.out.filter (fun o => o.1 != j.chk) }

/-- A SAR job leaves the pair, at once, be its start condition met or not (R273 gives that for the pair; DESIGN CHOICE, log 165): it moves to a tally engine, as one job for each token of the result (R272), when the plan has a fallback
for it that fits the result's margin and its FIFO has room, otherwise it is NOT DONE and SARLOST is set (R28, R369). -/
def State.sarMove (s : State) (j : SarJob) : State :=
  match s.slotOf j.stream j.resseq, s.planOf j.stream with
  | some r, some p =>
    if r.formed then s
    else
      let lost := s.sarLost true j
      match p.sem.sar.find? fun f => f.pair == j.pair with
      | none => lost
      | some f =>
        let room := match (s.ctx r.ctx).lqs[f.queue]? with
          | some q => decide ((s.lq q).jobs.length + r.ntok ≤ 128)
          | none => false
        if s.ns + f.runUs * 1000 ≤ r.deadline && room then
          s.each (List.range r.ntok) fun t s =>
            s.enqJob r.ctx f.queue (s.mkJob r (p.prog.length + f.pc) (p.sarSite f.pair) t j.chk true)
        else lost
  | _, _ => s

/-- Every SAR job of the pair leaves it (R439 step 1, R442): through `leave`, which moves it or ends its check. -/
def State.sarStop (s : State) (leave : SarJob → State → State) : State :=
  let all (e : Nat) : List SarJob := (s.sh e).run.toList ++ (s.sh e).queue
  let a0 := all 0
  let a1 := all 1
  let w := s.mnt.waitSar
  let s := (s.add F.SH_SARABORT_N a0.length 0).add F.SH_SARABORT_N a1.length 1
  let s := s.upto (fun e s => (s.updSh e fun x => { x with run := none, queue := [] }).wr F.SH_SARQ_N 0 e) 2
  let s := s.updMnt fun m => { m with waitSar := [] }
  s.each (a0 ++ a1 ++ w) leave

/-! ### Hold steps (R449 to R455) -/

/-- MNT_HOLDT0 in ns. -/
def State.holdT0 (s : State) : Nat := s.rdTime R.MNT_HOLDT0_NS R.MNT_HOLDT0_SEC_LO R.MNT_HOLDT0_SEC_HI

/-- A transaction has moved the grid of the steps (R449): no index of the old one stands for an instant of the new one. -/
def State.newGrid (s : State) : State :=
  s.updMnt fun m => { m with ran := [], last := none, step := m.step.map fun r => { r with offGrid := true } }

/-- The instant t_k of a step in ns (R449). -/
def State.stepNs (s : State) (im : SnImage) (k : Int) : Int :=
  (s.holdT0 : Nat) + k * (im.periodUs * 1000 : Nat)

/-- The launch time L_k of a step in ns. -/
def State.launchNs (s : State) (im : SnImage) (k : Int) : Int := s.stepNs im k + (s.rd F.MNT_HOLDLAT_US * 1000 : Nat)

/-- TAPPLY of a hold step in ns (R452). -/
def State.holdApply (s : State) (im : SnImage) (k : Int) : Int := s.launchNs im k + (s.rd F.MNT_HOLDAPPLY_US * 1000 : Nat)

/-- A hold step fails (R451): HOLD_STEP, and HOLD_FAIL when MNT_HOLDMAXF in a row have failed. -/
def State.holdFail (s : State) (reason : Nat) : State :=
  let n := s.mnt.fails + 1
  let s := (s.inc F.MNT_HOLDFAILS_N).updMnt fun m => { m with fails := n, last := none }
  let s := s.report { src := S.MNT_HOLD_STEP, detail := natLe 1 reason }
  if n ≥ max 1 (s.rd F.MNT_HOLDMAXF_N) && s.pair == 4 then (s.raise S.MNT_HOLD_FAIL).toProbe else s

/-- The AEU judges a step's setpoints in joint order; the reason of the first rejection, or 0 (R451, R474). -/
def State.judgeStep (s : State) (tap : Int) : List (Nat × Int) → State × Nat
  | [] => (s, 0)
  | (j, p) :: xs =>
    let (reason, s) := s.judge j p tap none tap false []
    let s := s.countJudged j reason none
    if reason = 0 then s.judgeStep tap xs else (s, reason)

/-- The payload of a hold step's frame (R452). -/
def holdPayload (k : Int) (tap : Nat) (outs : List Int) (stale cold : Bool) : List Byte :=
  natBe 4 (ofSigned 32 k) ++ natBe 8 (guardTs tap) ++ natBe 1 outs.length ++ natBe 1 (1 + 2 * b2n stale + 4 * b2n cold) ++
    natBe 2 0 ++ (outs.zip (List.range outs.length)).flatMap fun (p, j) => natBe 1 j ++ natBe 3 0 ++ natBe 4 (ofSigned 32 p)

/-- A completed hold step is judged, and its frame enters the queues with launch time L_k (R451, R452); a step that completes later
than L_k − 5 µs fails, but in the safe state, where no frame is due (R455). -/
def State.holdJudge (s : State) (im : SnImage) (r : StepRun) : State :=
  let tap := s.holdApply im r.k
  if r.failed || (!s.fatal && decide (s.launchNs im r.k < s.ns + 5000)) then s.holdFail 0
  else
    let (s, reason) := s.judgeStep tap ((List.range r.outs.length).zip r.outs)
    if reason ≠ 0 then s.holdFail reason
    else
      let isCold := !s.isWarm
      let s := s.updMnt fun m => { m with warm := m.warm + 1 }
      let s := s.wr F.MNT_STAT_WARM (b2n s.isWarm)
      if s.fatal then s.updMnt fun m => { m with last := none }
      else
        let (s, ok) := s.sendGuarded (s.rd F.MNT_HOLDOUT_DATA_ID) (s.rd F.MNT_HOLDOUT_PORT_A) (s.rd F.MNT_HOLDOUT_PORT_B)
          (s.rd F.MNT_HOLDOUT_QUEUE) (holdPayload r.k tap.toNat r.outs r.stale isCold)
          (some (s.launchNs im r.k).toNat) true none
        let r' : StepRun := { r with hold := true, queued := ok, tapply := tap }
        s.updMnt fun m => { m with last := some r', fails := if ok then 0 else m.fails }

/-- Entry to HOLD (R441, R454, R545): with WARM state, or COLD where the image allows it; a warm step already computed whose
launch is at least 5 µs away becomes the first hold step. Otherwise HOLD_FAIL. -/
def State.holdEnter (s : State) : State :=
  match s.mnt.hold with
  | none => (s.updMnt fun m => { m with split := false }).pairTo 3
  | some im =>
    if !(s.isWarm || im.coldOk) then (s.raise S.MNT_HOLD_FAIL).toProbe
    else
      let keep := s.isWarm
      let s := s.updMnt fun m => { m with
        fails := 0, warm := if keep then m.warm else 0, split := false, release := none, again := false,
        step := m.step.map fun r => { r with hold := true } }
      let s := { s with ssc := { s.ssc with streams := s.ssc.streams.map fun (x : SscStream) => { x with lineFall := none } } }
      let s := s.pairTo 4
      match s.mnt.last with
      | some r => if (s.ns : Int) + 5000 ≤ s.launchNs im r.k then s.holdJudge im r else s.updMnt fun m => { m with last := none }
      | none => s

/-- A hold demand from the SSC (0), the ACB (1) or the host (2) (R27, R427, R439, R440, R444, R461): from SPLIT the policy state goes
from the warm engine to the other one; in P1 and P2 the demand is refused (R724). -/
def State.holdDemand (s : State) (src : Nat) : State :=
  let s := s.wr F.MNT_STAT_HOLDSRC (s.rd F.MNT_STAT_HOLDSRC ||| 2 ^ src)
  if s.rd F.CLK_PWR_STATE = 1 || s.rd F.CLK_PWR_STATE = 2 then s.raise S.MNT_HOLD_REFUSED else
  match s.pair with
  | 1 =>
    let s := s.sarStop fun j s => s.sarMove j
    let t := s.cyc
    let w := s.warmEng
    let s := (s.copyPolicy w (1 - w)).updMnt fun m => { m with demandAt := some t, mstep := none }
    let s := s.upto (fun e s => s.updSh e fun x => { x with testing := false }) 2
    s.pairTo 2
  | 2 => s
  | 3 => if s.mnt.hold.isSome then (s.updMnt fun m => { m with split := false }).holdEnter else s
  | 4 =>
    let t := s.cyc
    s.updMnt fun m => { m with again := m.release.isSome, demandAt := some t }
  | _ => s.raise S.MNT_HOLD_REFUSED

/-- The first compared cycle (R439, R441); `bad` is how many of the state copies failed their CRC comparison. -/
def State.handoverDone (s : State) (bad : Nat) : State :=
  match s.pair, s.mnt.demandAt with
  | 2, some c =>
    if 2 ≤ bad then (s.raise S.MNT_HANDOVER_FAIL).toProbe
    else
      let s := (s.inc F.MNT_HANDOVERS_N).wr F.MNT_HOLAST_NS (min 65535 ((s.cyc - c) * 5 / 4))
      (s.updMnt fun m => { m with demandAt := none }).holdEnter
  | _, _ => s

end Sys2Proof.Machine
end

