-- ==== Sys2Proof/Machine/Shed.lean ====
section
/-!
DEFINITION. Capacity, load and deficit of the shed controller, the shed state of a stream, and the 100 ms of a restore (R348,
R349, R354, R356, R728, R731).
-/
namespace Sys2Proof.Machine

/-! ### Capacity and load (R348, R728, R731) -/

/-- Loads in operations per second, or capacities: lane, vector and Mantis. -/
structure Rates where
  lane : Nat
  vec : Nat
  mac : Nat
deriving DecidableEq, Repr

/-- Capacities (R348), with F_th taken as `fth` and issue rates lowered by `k` sixteenths. -/
def State.capacity (s : State) (fth k : Nat) : Rates :=
  let a := s.teActive
  let mon := match s.mnt.mon with | some im => im.macs * 1000000 / max 1 im.periodUs | none => 0
  { lane := 1080000000 * a * fth * (16 - k), vec := 270000000 * a * fth * (16 - k),
    mac := 2952000000000 * ((List.range 2).filter s.sarEng).length - mon }

/-- Sixteenths by which the measures of R728 lower the issue rates. -/
def State.rateCut (s : State) : Nat := min 15 (s.clk.measures - 2)

/-- The capacities with, or without, thermal and power reductions (R728, R731, R732). -/
def State.capNow (s : State) (thermal : Bool) : Rates :=
  if thermal then s.capacity (s.rd F.CLK_STAT_FTH) s.rateCut else s.capacity 8 0

/-- SHED entries of a stream that are in effect. -/
def State.shedEnts (s : State) (i : Nat) : List ShedE :=
  match s.planOf i with | some p => (s.st i).shed.filterMap fun k => p.shed[k]? | none => []

/-- One stream's load (R349). -/
def State.streamLoad (s : State) (i : Nat) : Rates :=
  let c := (s.st i).c
  let es := s.shedEnts i
  { lane := c.rateMax * (c.laneops - sumNat (es.map (·.laneops))), vec := c.rateMax * (c.vslots - sumNat (es.map (·.vslots))),
    mac := c.rateMax * (c.macs - sumNat (es.map (·.macs))) }

/-- The present load. -/
def State.loadNow (s : State) : Rates :=
  let ls := s.loaded.map s.streamLoad
  ⟨sumNat (ls.map (·.lane)), sumNat (ls.map (·.vec)), sumNat (ls.map (·.mac))⟩

/-- Queues of a context that carry jobs of a stream that counts (R348). -/
def State.liveQueues (s : State) (c : Nat) : List QueueD :=
  match (s.ctx c).plan with
  | none => []
  | some p =>
    let live := (s.loaded.filter fun i => (s.st i).ctx == c).map fun i => (s.st i).sidx
    let qs := (p.groups.filter fun g => live.contains g.sidx).flatMap fun g => g.jobs.map (·.queue)
    (List.range p.queues.length).filterMap fun k => if qs.contains k then p.queues[k]? else none

/-- The allocations that R321 must pack, as slots, pages, flags and state bytes (R348). -/
def State.spaceItems (s : State) : List (Nat × Nat × Nat × Nat) :=
  ((List.range 16).flatMap fun c => (s.liveQueues c).map fun d => (1, d.pages, d.flags, 0)) ++
    s.loaded.map fun i => (0, 0, 0, 64 * (s.st i).c.envState)

/-- Allocations packed in turn, each on the engine with the most free scratch and then state that it fits (R321). -/
def packs : List (Nat × Nat × Nat × Nat) → List (Nat × Nat × Nat × Nat) → Bool
  | [], _ => true
  | (n, p, f, b) :: ds, es =>
    let fits (e : Nat × Nat × Nat × Nat) : Bool :=
      decide (e.1 + n ≤ 31) && decide (e.2.1 + p ≤ 96) && decide (e.2.2.1 + f ≤ 48) && decide (e.2.2.2 + b ≤ 524288)
    let best := (es.zip (List.range es.length)).foldl (fun (m : Option (Nat × Nat × Nat)) x =>
      if !fits x.1 then m
      else match m with
        | none => some (x.2, x.1.2.1, x.1.2.2.2)
        | some (_, mp, mb) => if x.1.2.1 < mp || (x.1.2.1 == mp && x.1.2.2.2 < mb) then some (x.2, x.1.2.1, x.1.2.2.2) else m) none
    match best with
    | none => false
    | some (i, _, _) => packs ds (updAt (fun (e : Nat × Nat × Nat × Nat) => (e.1 + n, e.2.1 + p, e.2.2.1 + f, e.2.2.2 + b)) i es)

/-- The allocations of R348 do not fit the active engines. -/
def State.overfull (s : State) : Bool := !packs s.spaceItems (List.replicate s.teActive (0, 0, 0, 0))

/-- A queue that carries jobs of a stream which holds engine space is bound to no engine: the repack of R321 has found it no place. -/
def State.unbound (s : State) : Bool :=
  (List.range 48).any fun q =>
    (s.lq q).eng.isNone && match (s.lq q).ctx with
    | some (c, k) =>
      (match (s.ctx c).plan with
       | some p => (s.holders c).any fun i => !(s.st i).suspended && p.groups.any fun g => g.sidx == (s.st i).sidx && g.jobs.any fun j => j.queue == k
       | none => false)
    | none => false

/-- Engine space is in deficit: the allocations of R348 do not fit the active engines, or R321's repack has left a queue unbound, whose
checks are shed (DEDUCED, log 166). -/
def State.spaceShort (s : State) : Bool := s.overfull || s.unbound

/-- Resources in deficit, as VDU_STAT.DEFICIT shows them (R348, R388). -/
def State.deficit (s : State) (thermal : Bool) : Nat :=
  let c := s.capNow thermal
  let l := s.loadNow
  b2n (decide (c.lane < l.lane)) + 2 * b2n (decide (c.vec < l.vec)) + 4 * b2n (decide (c.mac < l.mac)) + 8 * b2n s.spaceShort

/-! ### Shed state (R350, R354, R356, R388) -/

/-- The shed state that VDU_SSTAT shows. -/
def State.shedShow (s : State) (i : Nat) : State :=
  s.wr F.VDU_SSTAT_SHED (if (s.st i).suspended then 2 else if (s.st i).shed.isEmpty then 0 else 1) i

/-- An item is put in, or taken out of, effect: an entry, or with none the suspension (R354). -/
def State.setShed (s : State) (i : Nat) (ent : Option Nat) (on : Bool) : State :=
  s.updSt i fun x => match ent with
    | some k => { x with shed := if on then x.shed ++ [k] else x.shed.erase k }
    | none => { x with suspended := on }

/-- The last item shed is restorable: every capacity is at least 1.1 times the load with it (R356). -/
def State.restorable (s : State) : Bool :=
  match s.vdu.items.getLast? with
  | none => false
  | some (i, ent, _) =>
    let was := s.unbound
    let s := s.setShed i ent false
    let c := s.capNow true
    let l := s.loadNow
    let tot (f : Nat × Nat × Nat × Nat → Nat) : Nat := sumNat (s.spaceItems.map f)
    let a := s.teActive
    decide (11 * l.lane ≤ 10 * c.lane) && decide (11 * l.vec ≤ 10 * c.vec) && decide (11 * l.mac ≤ 10 * c.mac) &&
      !s.overfull && !was && decide (11 * tot (·.1) ≤ 310 * a) && decide (11 * tot (·.2.1) ≤ 960 * a) &&
      decide (11 * tot (·.2.2.1) ≤ 480 * a) && decide (11 * tot (·.2.2.2) ≤ 5242880 * a)

/-- The deficit that remains is shown, and the 100 ms of R356 begin, run on or end. -/
def State.shedEnd (s : State) : State :=
  let d := s.deficit true
  let s := (s.wr F.VDU_STAT_DEFICIT d).wr F.VDU_STAT_TDEF (b2n (d % 4 != 0 && s.deficit false % 4 == 0))
  let t := s.cyc
  let ok := s.restorable
  { s with vdu := { s.vdu with restAt := if ok then some (s.vdu.restAt.getD t) else none } }

end Sys2Proof.Machine
end

