-- ==== Sys2Proof/Machine/Restart.lean ====
section
/-!
DEFINITION. The stream reactions of the safe state controller (R540 to R545) and the start of a restart attempt (R571,
R572, R575): what a trigger does.
-/
namespace Sys2Proof.Machine

/-! ### Restart attempts -/

/-- One stream's reaction state changed. -/
def State.updSsc (s : State) (i : Nat) (f : SscStream → SscStream) : State :=
  { s with ssc := { s.ssc with streams := updAt f i s.ssc.streams } }

/-- One stream's reaction state. -/
def State.sscOf (s : State) (i : Nat) : SscStream := s.ssc.streams.getD i ⟨0, false, none, none⟩

/-- The ACB quiesces a port (R158, R572). -/
def State.acbQuiesce (s : State) (p : Nat) : State :=
  let s := s.wr F.TAP_STAT_ACB_Q 1 p
  if s.rd F.TAP_STAT_PSTATE p = 0 then s else (s.dropPartial p).pstate p 3

/-- Manifest digests of every loaded context's chunks, in increasing context number and manifest order (R575). -/
def State.chunks (s : State) : List Nat :=
  s.ctxs.flatMap fun c => match c.plan with | some p => p.manifest | none => []

/-- The selected digests of a sample (R575). -/
def chunkSample (offset stride : Nat) (ds : List Nat) : List Nat :=
  (ds.zip (List.range ds.length)).filterMap fun (d, i) => if (i + offset) % stride = 0 then some d else none

/-- The settings of an attempt are sampled (R94, R587). -/
def State.acbSample (s : State) : AcbSet :=
  { rdyPort := s.rd F.ACB_CTRL_RDYPORT, replay := s.on F.ACB_CTRL_REPLAY, attempts := s.rd F.ACB_CTRL_ATTEMPTS,
    rstHold := s.rd F.ACB_RSTHOLD_US, rstLong := s.rd F.ACB_RSTLONG_MS, rdyTo := s.rd F.ACB_RDYTO_MS,
    rdyToF := s.rd F.ACB_RDYTOF_MS, rplTo := s.rd F.ACB_RPLTO_MS,
    rplMode := s.rd64 R.ACB_RPLMODE_LO R.ACB_RPLMODE_HI }

/-- The ACB enters a step. -/
def State.acbStep (s : State) (n : Nat) : State :=
  let t := s.cyc
  ({ s with acb := { s.acb with stepAt := t } } : State).wr F.ACB_STAT_STEP n

/-- A stream stops being admitted for the restart; its open result closes incomplete (R572), and a transaction bound to
it ends (R97). -/
def State.acbCut (s : State) (i : Nat) : State :=
  if !(s.st i).admitted then s
  else
    let s := ((s.markOpen i).markOpenRes i).closeRes i
    let armed := s.boundLost [i]
    let s := s.updSt i fun x => { x with admitted := false }
    let s := { s with acb := { s.acb with admitted := s.acb.admitted ++ [i] } }
    s.txnLost armed

/-- An attempt starts with step 1 (R571, R572, R575): results marked, streams cut, ports quiesced, the sample drawn. -/
def State.acbAttempt (s : State) : State :=
  let s := (s.inc F.ACB_RCNT_N).inc F.ACB_STAT_ATTEMPT
  let vars := s.acbVariants
  let set := s.acbSample
  let t := s.ns
  let c := s.cyc
  let s := { s with acb := { s.acb with vars := vars, set := set, startNs := t, startCyc := c } }
  let s := s.acbStep 1
  let stride := if bit 1 vars then 1 else max 1 (s.rd F.ACB_RHSTRIDE_N)
  let off := (s.fresh 64).toNat % stride
  let s := s.drew
  let ds := chunkSample off stride s.chunks
  let s := (s.setWord R.ACB_RHOFF off).setWord R.ACB_RHN ds.length
  let dig := Config.sha384 (ds.flatMap fun d => natBe 48 d)
  let s := { s with acb := { s.acb with digest := dig } }
  let s := (s.upto (fun i s => s.acbCut i) 64).shedEnd
  s.upto (fun p s => s.acbQuiesce p) 2

/-- A restart is requested (R544, R571, R584): ACC_DOWN with reason RESTART, a running brake test is to end (R516), and the first
attempt starts. -/
def State.acbRequest (s : State) (st : Nat) : State :=
  if s.rd F.ACB_STAT_STEP ≠ 0 then s
  else
    let s := { s with acb := { s.acb with trigStream := st, admitted := [] } }
    let s := (s.btStop 5).wr F.ACB_STAT_ATTEMPT 0
    let s := s.acbAttempt
    s.broadcast 0x22 1 (s.word R.ACB_RCNT)

/-! ### Reactions -/

/-- The mode that SSC_SCFG or the class gives a stream is RESTART (R540, R560). -/
def State.wantsRestart (s : State) (i : Nat) : Bool :=
  match s.rd F.SSC_SCFG_MODE i with
  | 0 => s.word R.SSC_CLSMODE / 4 ^ (s.st i).c.cls % 4 == 2
  | m => m == 2

/-- A mode of RESTART is effective (R540). -/
def State.canRestart (s : State) : Bool :=
  s.mnt.hold.isSome && decide (1 ≤ s.pair) && decide (s.pair ≤ 4) && !s.fatal

/-- The effective mode of a stream is RESTART. -/
def State.effRestart (s : State) (i : Nat) : Bool := s.wantsRestart i && s.canRestart

/-- Level of the stream-OK line (R542, R545). -/
def State.okLine (s : State) (i : Nat) : Bool :=
  (s.st i).admitted && !s.fatal &&
  match s.rd F.SSC_SSTAT_RSTATE i with
  | 0 => true
  | 2 => match (s.sscOf i).lineFall with | some c => decide (s.cyc < c) | none => false
  | _ => false

/-- A stream enters, or stays in, RESTARTING; its line falls at once in HOLD or when it had fallen, else 10 µs after the hold demand,
which the first trigger of the reaction makes (R544, R545). -/
def State.toRestarting (s : State) (i : Nat) : State :=
  let was := s.rd F.SSC_SSTAT_RSTATE i
  let t := (if s.on F.SSC_STAT_RESTART then s.ssc.restartAt.getD s.cyc else s.cyc) + usC 10
  let n := s.vdu.forms
  let now := s.pair == 4
  let s := s.updSsc i fun x => { x with
    runFrom := n, complete := false,
    lineFall := if was = 0 then (if now then none else some t) else if was = 2 then x.lineFall else none }
  (s.wr F.SSC_SSTAT_RSTATE 2 i).wr F.SSC_SSTAT_VCNT 0 i

/-- The first RESTART trigger of a reaction (R544): timer, restart request and hold demand in one cycle. -/
def State.startReaction (s : State) (i : Nat) : State :=
  let t := s.cyc
  let s := { s with ssc := { s.ssc with restartAt := some t } }
  let s := ((s.wr F.SSC_STAT_RESTART 1).inc F.SSC_RSTCNT_N).acbRequest i
  s.holdDemand 0

/-- A trigger of a stream's reaction (R541, R542); all triggers of one stream in one cycle make one (R31). -/
def State.trigger (s : State) (i : Nat) : State :=
  let c := s.cyc
  if (s.sscOf i).trigAt = some c then s
  else
  let s := (s.updSsc i fun x => { x with trigAt := some c }).inc F.SSC_SNTRIG_N i
  if s.fatal then s
  else
    let eff := s.effRestart i
    let s := s.when (s.wantsRestart i && !eff) fun s => s.raiseSt S.SSC_RESTART_DEGR i i
    if s.fatal then s
    else if eff then
      let s := s.toRestarting i
      if s.on F.SSC_STAT_RESTART then s else s.startReaction i
    else
      let n := s.vdu.forms
      let s := s.updSsc i fun x => { x with runFrom := n }
      let s := s.wr F.SSC_SSTAT_VCNT 0 i
      if s.rd F.SSC_SSTAT_RSTATE i = 0 then s.wr F.SSC_SSTAT_RSTATE 1 i else s

/-- The restart is reported complete to the SSC (R542, R546). -/
def State.restartDone (s : State) : State :=
  match s.ssc.restartAt with
  | none => s
  | some c =>
    let s := s.setWord R.SSC_RSTLAST (min (allOnes 32) ((s.cyc - c) / 800))
    let s := s.wr F.SSC_STAT_RESTART 0
    let s := { s with ssc := { s.ssc with restartAt := none } }
    let n := s.vdu.forms
    s.upto (fun i s => s.when (s.rd F.SSC_SSTAT_RSTATE i == 2) fun s =>
      (s.updSsc i fun x => { x with runFrom := n, complete := true }).wr F.SSC_SSTAT_VCNT 0 i) 64

end Sys2Proof.Machine
end

