-- ==== Sys2Proof/Machine/Routes.lean ====
section
/-!
DEFINITION. The Reed mesh as other blocks see it: its topology and routes (R656 to R658, R660), and the transfer values that leave with the
last outcome of their producers (R666).
-/
namespace Sys2Proof.Machine

/-- The Reed block changed. -/
def State.updReed (s : State) (f : Reed → Reed) : State := { s with reed := f s.reed }

/-! ### Topology and routes (R656 to R658) -/

/-- This companion's number, the number of companions, and the torus width. -/
def State.dev (s : State) : Nat := s.rd F.REED_GCFG_DEV
def State.ndev (s : State) : Nat := s.rd F.REED_GCFG_NDEV
def State.torusW (s : State) : Nat := s.rd F.REED_GCFG_W

/-- Whether a TORUS is well formed (R657); the other topologies always are. -/
def State.topoOk (s : State) : Bool :=
  s.rd F.REED_GCFG_TOPO ≠ 3 ||
  (s.torusW != 0 && s.ndev % s.torusW == 0 && decide (2 ≤ s.ndev / s.torusW) && decide (s.ndev / s.torusW ≤ 8))

/-- One step around a ring of `n` from `a`, up or down. -/
def ringStep (n a : Nat) (up : Bool) : Nat := if up then (a + 1) % n else (a + n - 1) % n

/-- The device that the topology places on a port (R657). -/
def State.neighbour (s : State) (p : Nat) : Option Nat :=
  let d := s.dev
  let n := s.ndev
  match s.rd F.REED_GCFG_TOPO with
  | 1 => if p = 0 then some (1 - d) else none
  | 2 => if p = 0 then some (ringStep n d true) else if p = 1 then some (ringStep n d false) else none
  | 3 =>
    if !s.topoOk then none
    else
      let w := s.torusW
      let x := d % w
      let y := d / w
      some (if p < 2 then y * w + ringStep w x (p == 0) else ringStep (n / w) y (p == 2) * w + x)
  | _ => none

/-- The port of the shorter direction round a ring of `n`, up on a tie. -/
def shorter (n a b up down : Nat) : Nat := let u := (b + n - a) % n; if u ≤ n - u then up else down

/-- The port of the route to a device (R658). -/
def State.route (s : State) (b : Nat) : Option Nat :=
  let d := s.dev
  if b = d then none
  else
    match s.rd F.REED_GCFG_TOPO with
    | 1 => some 0
    | 2 => some (shorter s.ndev d b 0 1)
    | 3 =>
      if !s.topoOk then none
      else
        let w := s.torusW
        if b % w ≠ d % w then some (shorter w (d % w) (b % w) 0 1) else some (shorter (s.ndev / w) (d / w) (b / w) 2 3)
    | _ => none

/-- A new flit of this companion to a device. -/
def State.flitTo (s : State) (typ vc dst : Nat) (payload : List Byte) : RFlit :=
  { typ := typ, vc := vc, src := s.dev, dst := dst, bcast := false, hops := 16, bseq := 0, payload := payload }

/-- A device that no flit reaches: a port on the way to it went DOWN, or the first port of its route is neither UP nor retraining (R654,
R660). -/
def State.cutOff (s : State) (dev : Nat) : Bool :=
  s.reed.unreach.contains dev ||
    match s.route dev with
    | some p => let st := s.rd F.REED_PSTAT_LSTATE p; st != 3 && st != 4
    | none => false

/-- Whether transfer checks with a peer are suspended (R585, R660). -/
def State.peerGone (s : State) (dev : Nat) : Bool := s.reed.down.contains dev || s.cutOff dev

/-- A flit leaves on the route to its destination; none to a device that is unreachable, for which an XVAL or SIG is counted, also one
that would be forwarded (R660). -/
def State.rsendTo (s : State) (f : RFlit) : State :=
  if s.cutOff f.dst then s.when (f.typ == 0x20 || f.typ == 0x21) fun s => s.inc F.REED_XDROP_N
  else match s.route f.dst with | some p => s.rsend p f | none => s

/-! ### Values that wait for their producers (R666) -/

/-- PROD of R666 for a result's producers; none while one of them has no outcome. -/
def State.prodOf (s : State) (x : XOut) : Option Nat :=
  match s.slotOf x.stream x.resseq with
  | none => some 1
  | some r =>
    let outs := x.producers.map fun c =>
      match r.out.find? fun o => o.1 == chkKey c x.token with
      | some (_, o) => some o
      | none => if r.formed || r.aborted.contains (chkKey c x.token) then some 2 else none
    if outs.any (·.isNone) then none
    else if outs.any (· == some 1) then some 2
    else if x.notDone || outs.any (· == some 2) then some 1 else some 0

/-- Payload of an XVAL flit (R666). -/
def xvalPayload (x : XOut) (prod : Nat) : List Byte :=
  natLe 4 x.xid ++ natLe 8 x.resseq ++ natLe 2 x.token ++ natLe 1 (x.wins.length + 16 * prod) ++ natLe 1 (x.dst % 64) ++
    natLe 4 x.kgen ++ natLe 4 0 ++ x.wins.flatMap fun w => natLe 20 w.1 ++ natLe 2 w.2

/-- XVALs whose producers all have an outcome leave; those to an unreachable peer are counted (R660, R666). It is part of whatever gives a
check its outcome: its report, the end of the checks that no longer run, and the formation of the record. -/
def State.xflush (s : State) : State :=
  let ready := s.reed.xwait.filter fun x => (s.prodOf x).isSome
  let s := s.updReed fun r => { r with xwait := r.xwait.filter fun x => !ready.contains x }
  s.each ready fun x s =>
    if s.peerGone x.peer then s.inc F.REED_XDROP_N
    else s.rsendTo (s.flitTo 0x21 0 x.peer (xvalPayload x ((s.prodOf x).getD 1)))

end Sys2Proof.Machine
end

