-- ==== Sys2Proof/Machine/Verdict.lean ====
section
/-!
DEFINITION. Reports to a result's slot and the formation of its record (R360 to R369, R384, R385), with what formation does
to hulls, retained outputs, joint histories and jobs; deadlines; and the judgement of ACTION and INPUT_BIND records.
-/
namespace Sys2Proof.Machine

/-! ### Hulls (R265 to R267) -/

/-- Values of `n` elements from an offset of a KV row. -/
def rowVals (t : TensD) (codes scales : List Nat) (off n : Nat) : List Val :=
  (List.range n).map fun i => decodeScaled t.fmt t.mx (scales.getD ((off + i) / 32) 127) (codes.getD (off + i) 0)

/-- Bounds joined with a row's values. -/
def joinRow : List (Val × Val) → List Val → List (Val × Val)
  | b :: bs, v :: vs => (b.1.min v, b.2.max v) :: joinRow bs vs
  | [], vs => vs.map fun v => (v, v)
  | bs, [] => bs

/-- The block of a pair's hull that a position belongs to (R267). -/
def AttnD.block (a : AttnD) (pos : Nat) : Nat := if a.window = 0 then 0 else pos / 64

/-- A V row folded into a list of hulls. -/
def foldHull (hs : List Hull) (pair block : Nat) (vs : List Val) : List Hull :=
  if hs.any fun h => h.pair == pair && h.block == block then
    mapIf (fun h => h.pair == pair && h.block == block) (fun h => { h with bounds := joinRow h.bounds vs }) hs
  else ⟨pair, block, joinRow [] vs⟩ :: hs

/-- A stream as a result sees it: a result before the last context reset keeps the hulls and positions of its time (R280). -/
def Stream.asOf (x : Stream) (q : Nat) : Stream :=
  match x.olds.find? fun o => decide (q < o.bound) with
  | some o => { x with kv := o.kv, hulls := o.hulls, pend := o.pend, hullBad := o.hullBad, evicted := o.evicted }
  | none => x

/-- What a result changes of the hulls and positions that it sees. -/
def State.updKv (s : State) (i q : Nat) (f : Stream → Stream) : State :=
  s.updSt i fun x =>
    let y := f (x.asOf q)
    match x.olds.find? fun o => decide (q < o.bound) with
    | some o =>
      { x with
        olds := x.olds.map fun p => if p.bound = o.bound then ⟨p.bound, y.kv, y.hulls, y.pend, y.hullBad, y.evicted⟩ else p }
    | none => y

/-- A context reset leaves the hulls and positions of the time before to the results that are still pending (R280). -/
def State.dropOlds (s : State) (i : Nat) : State :=
  s.updSt i fun x =>
    { x with olds := x.olds.filter fun o => s.slots.any fun r => r.stream == i && !r.formed && decide (r.resseq < o.bound) }

/-- The V row of a pair at a held position. -/
def Stream.vRow (x : Stream) (p : Plan) (a : AttnD) (h pos : Nat) : Option (List Val) :=
  match x.kv.find? fun r => r.site == a.kvSite && r.pos == pos, p.portTensor a.kvSite 1 with
  | some r, some t => some (rowVals t r.codes r.scales (a.vOff + h * a.dHead) a.dHead)
  | _, _ => none

/-- A position's rows of one pair fold into its committed hull. -/
def Stream.foldPos (x : Stream) (p : Plan) (pair : Nat) (ah : AttnD × Nat) (pos : Nat) : Stream :=
  match x.vRow p ah.1 ah.2 pos with
  | some vs => { x with hulls := foldHull x.hulls pair (ah.1.block pos) vs, pend := x.pend.filter (· != (pair, pos)) }
  | none => x

/-- Positions fold into the committed hull of every pair of their layer (R266). -/
def Stream.fold (x : Stream) (p : Plan) (kvs : List (Nat × Nat)) : Stream :=
  let ps := p.pairs
  let x := kvs.foldl (fun x (site, pos) =>
    (ps.zip (List.range ps.length)).foldl (fun x (ah, i) =>
      if ah.1.kvSite = site then x.foldPos p i ah pos else x) x) x
  { x with kv := mapIf (fun r => kvs.contains (r.site, r.pos)) (fun r => { r with folded := true }) x.kv }

/-- The pending hulls are rebuilt from the positions the stream still holds after the committed ones (R305). -/
def Stream.rebuild (x : Stream) (p : Plan) : Stream :=
  let ps := p.pairs
  { x with pend := (ps.zip (List.range ps.length)).flatMap fun (ah, i) =>
      (x.kv.filter fun r => r.site == ah.1.kvSite && !r.folded).map fun r => (i, r.pos) }

/-! ### Formation -/

/-- Bytes of packed element codes (R144). -/
def packCodes (w : Nat) (codes : List Nat) : List Byte :=
  natLe (ceilDiv (codes.length * w) 8) (codes.foldr (fun c a => c % 2 ^ w + 2 ^ w * a) 0)

/-- The retained bytes of a result: those of the tensor that the plan names, with its scales (R276, R385), of the last token, for the
spec does not say of which (DESIGN CHOICE, log 131). -/
def State.retainBytes (s : State) (r : Slot) : List Byte :=
  match (s.ctx r.ctx).plan with
  | none => []
  | some p =>
    let x := s.st r.stream
    match p.graph.retained.find? fun y => y.1 == x.sidx with
    | some (_, t) =>
      match p.tensor t with
      | some d =>
        let (cs, ss) := r.whole d (r.ntok - 1)
        (packCodes (fmtBits d.fmt) cs ++ ss.flatMap fun x => natLe 1 x).take x.c.retain
      | none => []
    | none => []

/-- Whether an assigned check ended PASS or FAIL. -/
def Slot.judged (r : Slot) (c : ChkD) : Bool := r.out.any fun o => o.1 == c.chk && decide (o.2 ≤ 1)

/-- Whether an assigned check can report no more: reported, aborted, or never dispatched (R362). -/
def Slot.over (r : Slot) (c : ChkD) : Bool :=
  r.out.any (fun o => o.1 == c.chk) || r.aborted.contains c.chk || !r.issued.contains c.chk

/-- The cause bits of R366. A check that was never dispatched counts as aborted for the first rows of R362 only, so at the
deadline it counts as neither reported nor aborted; a result opened with an empty bucket has RATE and not MISSING, whose row
does not name R338. A BIND or ACT check that ended NOT DONE sets REQUIRED whatever the mask, for a VALID verdict asserts every
binding and every action (R30, R102; DEDUCED, log 94). -/
def Slot.causes (r : Slot) (ppm : Nat) (dl : Bool) : Nat :=
  b2n (dl && r.checks.any fun c => !r.out.any (fun o => o.1 == c.chk) && !r.aborted.contains c.chk) + 2 * b2n r.incomplete + 4 * b2n (decide (ppm < r.minPpm)) +
  8 * b2n (r.checks.any fun c => (bit c.kind r.required || c.kind == 9 || c.kind == 10) && !r.judged c) + 16 * b2n r.suspended + 32 * b2n r.noRate +
  64 * b2n r.engines + 128 * b2n r.internal

/-- The bits of FAULTSUM that tell of the moment of formation: THERMAL and DEGRADED (R369). -/
def State.formBits (s : State) : Nat :=
  256 * s.rd F.VDU_STAT_TDEF + 512 * b2n (decide (s.teCount < 4) || s.mnt.shs.any (·.out))

/-- A SAR check that the pair handed over to a tally engine and that has no outcome yet: its fallback jobs have not all ended (R28, R369). -/
def State.movedSar (s : State) (r : Slot) : Bool :=
  r.checks.any fun c => c.kind == 7 && !r.out.any (fun o => o.1 == c.chk) &&
    s.lqs.any fun l => l.jobs.any fun j => Job.of r.stream r.resseq j && j.fallback && j.chk == c.chk

/-- FAULTSUM at formation (R369): a SAR check whose fallback has not ended then is lost through the handover. -/
def State.faultSum (s : State) (r : Slot) : Nat :=
  let nd := (r.checks.filter fun c => !r.judged c).length + r.shedNd
  let r := if s.movedSar r then r.sum 2 else r
  r.fsum % 2 ^ 8 + s.formBits + 2 ^ 16 * min 255 nd

/-- A formed record takes its place in the stream's order (R372). -/
def State.placeRec (s : State) (v : VRec) : State :=
  let s := s.updSt v.stream fun x => { x with emitQ := x.emitQ.map fun e =>
    if e.1 = v.resseq then (e.1, some v) else e }
  { s with vdu := { s.vdu with forms := s.vdu.forms + 1 } }

/-- The RESSEQ, status and retained output of a formed record are kept for the last 256 of its stream (R385). -/
def State.retain (s : State) (i q status : Nat) (bs : List Byte) : State :=
  s.updSt i fun x => { x with
    retained := ((q, status, bs) :: x.retained).take 256, retBad := x.retBad.filter fun y => y != q }

/-- A class A stream's, or an INVALID, record is reported to the SSC (R25, R386). -/
def State.reportSsc (s : State) (i status : Nat) : State :=
  if status = 2 || (status == 3 && (s.st i).classA) then s.trigger i else s

/-- The overrun count of a stream and its policy (R337, R384). -/
def State.overrun (s : State) (i status : Nat) (dl : Bool) : State :=
  if status = 4 || status = 5 then s
  else if !(dl && status == 3) then s.wr F.VDU_SSTAT_OVRCNT 0 i
  else if s.rd F.VDU_SSTAT_OVRCNT i < 2 then s.inc F.VDU_SSTAT_OVRCNT i
  else
    let s := (s.wr F.VDU_SSTAT_OVRCNT 0 i).report { src := S.VDU_OVERRUN3, chan := i, stream := some i, mark := false }
    match (s.st i).c.ovr with
    | 1 => s.wr F.TAP_SSTAT_BLOCKED 1 (s.portOf i) i
    | 2 => s.trigger i
    | _ => s

/-- Accepted setpoints of a VALID result enter the joints' histories (R471, R472). -/
def State.acceptActs (s : State) (r : Slot) : State :=
  s.each r.acts fun a s =>
    if !a.judged then s
    else s.each a.ents fun (j, p) s => if a.held.contains j then s else s.accept j p a.tapply false

/-- What becomes of a result's jobs, bank and words when its record is formed (R312, R361, R437): those still left at its deadline (`dl`)
are purged. -/
def State.afterForm (s : State) (i q : Nat) (dl : Bool) : State :=
  let s := if dl then s.purge i q else s.cutSar i q
  let s := match (s.st i).banks.find? fun b => b.resseq == q, s.planOf i with
    | some b, some p => s.each p.joins fun j s =>
        match s.semAbs (s.st i).ctx b.bank j false with
        | some n => if s.rd F.SEM_SSTAT_STATE n = 1 then s.wr F.SEM_SSTAT_COUNT 0 n else s
        | none => s
    | _, _ => s
  let gone := (s.st i).banks.any fun b => b.resseq == q && b.abandoned
  (s.release i q).when (!gone) fun s => s.freeBank i q

/-- A signal of the end of a job to the join semaphore of its result's bank (R309, R361, R401): the VDU consumes one that arrives after
the record was formed. -/
def State.joinSignal (s : State) (src i q c n : Nat) : State :=
  let formed := match s.slotOf i q with | some r => r.formed | none => true
  (s.semSignal src 0 c n 1).when formed fun s => s.when (s.rd F.SEM_SSTAT_STATE n == 1) fun s => s.wr F.SEM_SSTAT_COUNT 0 n

/-- The status of R365 for a record that is neither RETRACTED nor ABANDONED. -/
def Slot.status (r : Slot) (cause : Nat) : Nat := if r.failed.isSome then 2 else if cause = 0 then 1 else 3

/-- CHK_FAIL with the check's stream, kind, site and RESSEQ (R364, R391, R768). -/
def State.chkFail (s : State) (i q kind unit : Nat) (detail : List Byte := []) : State :=
  s.report { src := S.VDU_CHK_FAIL, chan := i, stream := some i, aux := kind, unit := unit, ref := q, detail := detail }

/-- A result's record is formed (R362 to R369): `how` is 0 by its checks or its incompleteness, 1 at the deadline, 4 by a
RETRACT, 5 by UNLOAD or RESET. -/
def State.form (s : State) (i q how : Nat) : State :=
  match s.slotOf i q, s.planOf i with
  | some r, some p =>
    if r.formed then s
    else
      let plain := decide (how ≤ 1)
      let ppm := r.ppm p
      let cause := if plain then r.causes ppm (how == 1) else 0
      let status := if plain then r.status cause else how
      let (fk, ar) := if status = 2 then (r.failed.getD (0, 0)) else (0, 0)
      let v : VRec :=
        { stream := i, resseq := q, status := status, dl := how == 1, cov := if plain then ppm else 0xFFFFFFFF,
          margin := if plain then (r.deadline : Int) - s.ns else 0, tfirst := r.tfirst,
          dlast := match r.dlast with | some t => t - r.tfirst | none => 0xFFFFFFFF, dverdict := s.ns - r.tfirst,
          cause := cause, fkind := fk, areason := if fk = 10 then ar else 0, fsum := s.faultSum r, epoch := r.gen,
          n := s.vdu.forms, formed := s.ns }
      let keep := s.retainBytes r
      let s := (s.updSlot i q fun r => { r with formed := true }).xflush
      let s := (s.placeRec v).retain i q status keep
      let s := if plain then (s.updKv i q fun x => x.fold p r.kvs).vduJobs r p.sem.commitJobs (List.range r.ntok) else s
      let s := s.each r.sarFails fun f s => s.chkFail i q 7 f.1 f.2
      let s := if status = 1 then s.acceptActs r else s
      let s := s.each p.sem.commit fun x s =>
        match s.semAbs r.ctx 0 x.1 true with | some n => s.semSignal 8 0 r.ctx n x.2 | none => s
      let s := ((s.afterForm i q (how == 1)).dropOlds i).freeVecs r.ctx
      (s.overrun i status (how == 1)).reportSsc i status
  | _, _ => s

/-- A record for a skipped sequence number (R168, R368); it retains no output (R385). -/
def State.skipRec (s : State) (i q tfirst : Nat) : State :=
  let v : VRec :=
    { stream := i, resseq := q, status := 3, dl := false, cov := 0xFFFFFFFF, margin := 0, tfirst := tfirst,
      dlast := 0xFFFFFFFF, dverdict := 0, cause := 2, fkind := 0, areason := 0, fsum := s.formBits, epoch := 0xFFFFFFFF,
      n := s.vdu.forms, formed := s.ns }
  let s := s.updSt i fun x => { x with emitQ := x.emitQ ++ [(q, none)] }
  ((s.placeRec v).retain i q 3 []).reportSsc i 3

/-- A result is ready under the first two rows of R362. -/
def Slot.ready (r : Slot) : Bool := !r.formed && (r.dlast.isSome || r.short) && r.checks.all fun c => r.over c

/-- Drawn SAR jobs that have not started are dropped when their result is incomplete or formed (R170, R288); their checks
count as aborted (R362). -/
def State.sarTrim (s : State) : State :=
  let gone (j : SarJob) : Bool :=
    match s.slotOf j.stream j.resseq with
    | some r => r.formed || r.short && j.on.isNone
    | none => true
  s.each (s.mnt.waitSar.filter gone) fun j s =>
    (s.updMnt fun m => { m with waitSar := m.waitSar.erase j }).updSlot j.stream j.resseq fun r =>
      { r with aborted := j.chk :: r.aborted }

/-- Records are formed until none is ready. -/
def State.settleN (s : State) : Nat → State
  | 0 => s
  | k + 1 =>
    match s.slots.find? (·.ready) with
    | some r => (s.form r.stream r.resseq 0).settleN k
    | none => s

/-- Every record that is ready is formed: part of every command's effect that can complete a result (R362). Values whose producers have all
ended leave (R666). -/
def State.settle (s : State) : State := s.sarTrim.xflush.settleN s.slots.length

/-! ### Reports (R360, R364) -/

/-- A check of the result reports an outcome (0 PASS, 1 FAIL, 2 NOT DONE). `again` marks a replay or a SAR fallback.
A failed SAR check shows in no record before the verdict is formed (R271). -/
def State.chkReport (s : State) (i q chk kind res areason unit : Nat) (again : Bool) (detail : List Byte := []) : State :=
  match s.slotOf i q with
  | none => if res = 1 then s.chkFail i q kind unit detail else s
  | some r =>
    if r.formed then (if res = 1 then s.chkFail i q kind unit detail else s)
    else
      let old := r.out.find? fun o => o.1 == chk
      let ok := match old with | none => true | some (_, o) => again && o != 1
      if !ok then (s.updSlot i q fun r => { r with internal := true }).report { src := S.VDU_REPORT_BAD, chan := i, stream := some i, mark := false }
      else
        let s := s.updSlot i q fun r => { r with
          out := (chk, res) :: r.out.filter (fun o => o.1 != chk),
          failed := if res = 1 then (match r.failed with | some f => some f | none => some (kind, areason)) else r.failed }
        let s := if res ≠ 1 then s
          else if kind = 7 then s.updSlot i q fun r => { r with sarFails := r.sarFails ++ [(unit, detail)] }
          else s.chkFail i q kind unit detail
        s.xflush.release i q

/-- VERDICT_DEADLINE (R362): TBU time reaches a result's deadline. A result that was complete before is formed as such. -/
def opVerdictDeadline (i q : Nat) (s : State) : State :=
  let s := s.settle
  match s.slotOf i q with
  | some r => if r.formed then s else (s.reachNs r.deadline).form i q 1
  | none => s

/-! ### ACTION (R474, R479) -/

/-- Every earlier result of the stream is formed. -/
def State.predsFormed (s : State) (i q : Nat) : Bool :=
  (s.slots.filter fun r => r.stream == i && decide (r.resseq < q)).all (·.formed)

/-- One entry of a record is judged; the pair carries the first rejection found, which fails the ACT check, and the earlier commands of
the result by joint, the newest first. -/
def State.judgeEnt (s : State) (i q : Nat) (a : ActRec) (idx : Nat) (e : Nat × Int) (x : Nat × List (Nat × Int × Int)) :
    State × Nat × List (Nat × Int × Int) :=
  let dup := decide ((a.ents.filter fun y => y.1 == e.1).length > 1)
  let pre := (x.2.filter fun y => y.1 == e.1).map fun y => (y.2.1, y.2.2)
  let (reason, s) := s.judge e.1 e.2 a.tapply (some i) a.arrival dup pre
  let s := s.countJudged e.1 reason (some i)
  let s := s.when (reason != 0 && x.1 == 0) fun s => s.chkReport i q actKey 10 1 reason e.1 false (natLe 1 reason ++ natLe 1 idx)
  (s, if x.1 = 0 then reason else x.1, (e.1, e.2, (a.tapply : Int)) :: x.2)

/-- Commands of a result that its judged records hold, the newest first. -/
def Slot.cmds (r : Slot) : List (Nat × Int × Int) :=
  (r.acts.filter (·.judged)).foldl (fun xs a => a.ents.foldl (fun xs (j, p) => (j, p, (a.tapply : Int)) :: xs) xs) []

/-- The ACT check passes once every record has been judged and END_RESULT dispatched (R479). -/
def State.actDone (s : State) (i q : Nat) : State :=
  match s.slotOf i q with
  | some r =>
    if !r.formed && r.dlast.isSome && r.issued.contains actKey && !r.out.any (fun o => o.1 == actKey) &&
        r.acts.all (·.judged)
    then s.chkReport i q actKey 10 0 0 0 false else s
  | none => s

/-- An ACTION record of a result waits for the verdict of an earlier result of its stream (R474, R484). -/
def State.actWaits (s : State) (r : Slot) : Bool :=
  !r.formed && r.acts.any (fun a => !a.judged) && !r.out.any (fun o => o.1 == actKey) && !s.predsFormed r.stream r.resseq

/-- ACTION_JUDGE (R474, R479): the first unjudged ACTION record of a result is judged once every earlier result of the stream is
formed, unless the result's ACT check has ended: an entry has been rejected, or a history it needs is lost. -/
def opActionJudge (i q : Nat) (s : State) : State :=
  match s.slotOf i q with
  | none => s
  | some r =>
    if r.formed || !s.predsFormed i q || r.out.any (fun o => o.1 == actKey) then s
    else
      let n := (r.acts.takeWhile (·.judged)).length
      match r.acts[n]? with
      | none => s
      | some a =>
        let (s, x) := (a.ents.zip (List.range a.ents.length)).foldl (fun (y : State × Nat × List (Nat × Int × Int)) e =>
          y.1.judgeEnt i q a e.2 e.1 y.2) (s, 0, r.cmds)
        let s := s.updSlot i q fun r => { r with acts := updAt (fun b => { b with judged := true }) n r.acts }
        (if x.1 = 0 then s.actDone i q else s).settle

/-! ### INPUT_BIND (R276 to R278) -/

/-- The delivered input tensor as bytes, over every token, with its scales after each token's elements (R144, R277). The spec gives
the layout of one part; where an input came in several parts or for several tokens, each token's elements stand in ELEM_OFF order
with that token's scales behind them, tokens in order (DEDUCED, log 96). -/
def Slot.inputBytes (r : Slot) (t : TensD) : List Byte :=
  (List.range r.ntok).flatMap fun k =>
    let (cs, ss) := r.whole t k
    packCodes (fmtBits t.fmt) cs ++ ss.flatMap fun x => natLe 1 x

/-- The delivered input tensor is complete for every token. -/
def Slot.inputDone (r : Slot) (t : TensD) : Bool := (List.range r.ntok).all fun k => r.complete t k

/-- The outcome of one entry (R276): 0 still open, 1 PASS, 2 FAIL, 3 NOT DONE. An entry of origin 1 whose data ID the plan does
not mark bindable, or of which no frame has been received yet, stays open, as a counter above the highest received does, and ends
NOT DONE at the deadline: R106 fails a frame that was never received, and R276 speaks only of counters against the highest
received (DESIGN CHOICE, log 95). An entry for an INPUT that the plan graph does not declare is judged FAIL (DESIGN CHOICE, log 130). -/
def State.judgeBind (s : State) (r : Slot) (p : Plan) (e : BindE) : Nat :=
  match p.graph.inputs.find? fun y => y.input == e.input with
  | none => 2
  | some d =>
    if e.origin ≠ d.origin then 2
    else
      match p.tensor d.tensor with
      | none => 2
      | some t =>
        match e.origin with
        | 1 =>
          let b := s.tsn.binds.find? fun y => y.ctx == r.ctx && y.id == e.id
          match s.tsn.digests.find? fun y => y.ctx == r.ctx && y.id == e.id && y.fcnt == e.ref with
          | some g =>
            let age := (b.map (·.ageUs)).getD 0
            if g.poison then 3
            else if g.conflict || g.digest != e.digest || (age != 0 && decide (r.tfirst > g.sfd + age * 1000)) then 2
            else if !((b.map (·.direct)).getD false) then 1
            else if !r.inputDone t then 0
            else if (Config.kmacBind p.bindKey (natBe 2 e.id ++ natBe 4 e.ref ++ r.inputBytes t)).toNat = g.digest then 1
            else 2
          | none =>
            match b.bind (·.high) with
            | none => 0
            | some h =>
              let ahead := (e.ref + 2 ^ 32 - h) % 2 ^ 32
              if 1 ≤ ahead ∧ ahead < 2 ^ 31 then 0
              else if (b.map (·.aged)).getD [] |>.contains e.ref then 3
              else 2
        | 2 =>
          if r.resseq ≤ e.ref then 2
          else
            match (s.st r.stream).retained.find? fun y => y.1 == e.ref with
            | some (_, st, bs) =>
              if st ≠ 1 || (s.st r.stream).retBad.contains e.ref then 3
              else if !r.inputDone t then 0
              else if (r.inputBytes t) = bs then 1 else 2
            | none => if s.slots.any fun y => y.stream == r.stream && y.resseq == e.ref && !y.formed then 0 else 3
        | _ => if !r.inputDone t then 0 else if (r.inputBytes t) = d.const then 1 else 2

/-- The outcome of the BIND check (R278), 0 while it is open. -/
def Slot.bindOut (r : Slot) : Nat :=
  if r.bindBad || r.binds.any (fun e => e.res == 2) then 2
  else if !r.bindEnd || r.binds.any (fun e => e.res == 0) then 0
  else if r.binds.any fun e => e.res == 3 then 3 else 1

/-- BIND_JUDGE (R276, R278): the open entries of a result are judged on what is known now. -/
def opBindJudge (i q : Nat) (s : State) : State :=
  match s.slotOf i q, s.planOf i with
  | some r, some p =>
    if r.formed then s
    else
      let r' : Slot := { r with binds := r.binds.map fun (e : BindE) => if e.res = 0 then { e with res := s.judgeBind r p e } else e }
      let s := s.updSlot i q fun r => { r with binds := r'.binds }
      match r'.bindOut with
      | 0 => s
      | o =>
        if r.issued.contains bindKey && !r.out.any fun x => x.1 == bindKey then
          (s.chkReport i q bindKey 9 (o - 1) 0 0 false).settle
        else s
  | _, _ => s

end Sys2Proof.Machine
end

