-- ==== Sys2Proof/Machine/Tap.lean ====
section
/-!
DEFINITION. The tap ports (R131 to R190): framing at the cursor, RESYNC, flush and quiesce, sequence, and the record rules
that a record's own bytes decide. A record that passes waits in its port for its dispatch.
-/
namespace Sys2Proof.Machine

/-! ### Record rules -/

/-- PLEN of a WEIGHT_CHUNK (R150). -/
def chunkLen (r : HeldRec) (dIn : Nat) : Nat :=
  16 + le 8 4 r.payload * elemBytes (bits 15 8 r.hinfo) (bit 4 r.hinfo) dIn

/-- An INPUT_BIND entry keeps the reserved fields of its origin at 0 (R147). -/
def bindEntryOk (b : List Byte) : Bool :=
  let o := le 2 1 b
  decide (1 ≤ o) && decide (o ≤ 3) && le 3 1 b == 0 && le 6 2 b == 0 &&
  (o == 1 || (le 4 2 b == 0 && le 16 16 b == 0)) && (o != 1 || le 12 4 b == 0) && (o != 3 || le 8 8 b == 0)

/-- The rules of R137, R138 and R142 to R150 that the record's own bytes decide. A READY whose REHASH is neither 1 nor 2 counts as
malformed here, for R149 names no other kind (DESIGN CHOICE, log 123). -/
def recShapeOk (r : HeldRec) : Bool :=
  let b := r.raw
  let t := r.typ
  let len := b.length
  let site := t == 3 || t == 4 || t == 5 || t == 0x11
  let tok := t == 3 || t == 4 || t == 5
  let pl := r.payload
  le 1 1 b / 16 == 0 && le 2 1 b / 128 == 0 && le 3 1 b == 0 &&
  (!r.port || (r.stream == 0 && r.resseq == 0)) && (!(t == 9 || t == 10) || r.resseq == 0) &&
  (site || r.site == 0) && (tok || r.token == 0) &&
  decide (32 + r.plen + 4 ≤ len) && decide (len < 32 + r.plen + 4 + 64) &&
  (slice (32 + r.plen) (len - 36 - r.plen) b).all (· == 0) &&
  match t with
  | 0x01 => r.hinfo == 0 && r.plen == 24 && le 6 2 pl == 0 && le 12 4 pl == 0
  | 0x02 => r.hinfo == 0 && r.plen == 8 && le 4 4 pl == 0
  | 0x03 => r.hinfo / 2 ^ 10 % 2 ^ 6 == 0 && decide (1 ≤ le 4 4 pl) && decide (bits 7 0 r.hinfo ≤ 10) &&
      r.plen == 8 + elemBytes (bits 7 0 r.hinfo) (bit 8 r.hinfo) (le 4 4 pl) &&
      (!bit 8 r.hinfo || le 0 4 pl % 32 == 0)
  | 0x04 => r.hinfo == 0 && r.plen == 8 && le 4 4 pl == 0
  | 0x05 => r.hinfo % 2 ^ 16 == 0 && decide (1 ≤ le 4 4 pl) && r.plen == 8 + 4 * le 4 4 pl
  | 0x06 => r.hinfo / 256 == 0 && decide (1 ≤ r.hinfo) && decide (r.hinfo ≤ 64) && r.plen == 32 * r.hinfo &&
      (List.range r.hinfo).all fun i => bindEntryOk (slice (32 * i) 32 pl)
  | 0x07 => r.hinfo / 256 == 0 && decide (1 ≤ r.hinfo) && decide (r.hinfo ≤ 64) && r.plen == 8 + 8 * r.hinfo &&
      (List.range r.hinfo).all fun i => le (8 + 8 * i + 1) 3 pl == 0
  | 0x08 => r.hinfo / 256 == 0 && decide (r.hinfo ≤ 2) && r.plen == 0
  | 0x09 => r.hinfo / 2 ^ 20 == 0 && r.hinfo / 2 ^ 10 % 2 ^ 6 == 0 && r.plen == 0
  | 0x0A => r.hinfo / 2 ^ 25 == 0 && r.hinfo / 2 ^ 20 % 2 ^ 4 == 0 && r.hinfo / 2 ^ 10 % 2 ^ 6 == 0 && r.plen == 0
  | 0x10 => r.hinfo == 0 && r.plen == 64 && decide (1 ≤ le 4 1 pl) && decide (le 4 1 pl ≤ 2) && le 5 3 pl == 0 &&
      le 12 4 pl == 0
  | 0x11 => r.hinfo / 2 ^ 16 == 0 && r.hinfo / 2 ^ 5 % 2 ^ 3 == 0 && decide (16 ≤ r.plen) && decide (1 ≤ le 8 4 pl) &&
      le 12 4 pl == 0 && decide (bits 15 8 r.hinfo ≤ 10)
  | _ => r.hinfo == 0

/-- PLAN_ID (R142, R330): the first four bytes of the image's hash, little-endian. -/
def Plan.id (p : Plan) : Nat :=
  let b (k : Nat) : Nat := p.hash / 2 ^ (376 - 8 * k) % 256
  b 0 + 256 * b 1 + 65536 * b 2 + 16777216 * b 3

/-- The rules that the plan of the record's stream decides: SITE, format, and the tensor's declared length (R144 to R146,
R151, R171). -/
def State.recPlanOk (s : State) (r : HeldRec) : Bool :=
  let pl := r.payload
  let off := le 0 4 pl
  let n := le 4 4 pl
  match s.planOf r.stream with
  | none => true
  | some p =>
    match r.typ with
    | 0x03 =>
      let role := bits 9 9 r.hinfo
      match p.siteC r.site, p.portTensor r.site role with
      | some c, some t =>
        bits 7 0 r.hinfo == (if role = 0 then c.fmtIn else c.fmtOut) && bit 8 r.hinfo == c.mx &&
        decide (off + n ≤ t.count) && (!c.mx || n % 32 == 0 || off + n == t.count)
      | _, _ => false
    | 0x05 =>
      match p.siteC r.site, p.portTensor r.site 2 with
      | some c, some t => c.stype == 2 && decide (off + n ≤ t.count)
      | _, _ => false
    | 0x04 => p.graph.attn.any fun a => a.kvSite == r.site
    | 0x01 => le 0 4 pl == p.id && decide (1 ≤ le 4 2 pl) && (match p.streams[(s.st r.stream).sidx]? with
        | some c => decide (le 4 2 pl ≤ c.ntokMax)
        | none => true)
    | _ => true

/-- A WEIGHT_CHUNK keeps the rules of R150 and R181 on its arrival: chunks are accepted, its context is in key-up or has a re-key
open, its site is a matrix of the context's plan, its formats are those of the site's weights, and whole rows fill its payload. -/
def State.chunkOk (s : State) (p : Nat) (r : HeldRec) : Bool :=
  let c := bits 3 0 r.hinfo
  let open_ := s.rd F.PST_CSTAT_STATE c == 1 || s.on F.PST_CSTAT_REKEY c
  s.on F.TAP_CTRL_ACCEPT_WCHUNK p && open_ &&
  match (s.ctx c).plan with
  | some plan =>
    match plan.matD r.site, plan.siteC r.site with
    | some d, some sc => bits 15 8 r.hinfo == sc.fmtW && bit 4 r.hinfo == sc.mx && r.plen == chunkLen r d.dIn
    | _, _ => false
  | none => false

/-- The rules of a port record that its own bytes or the plan decide. -/
def State.portRecOk (s : State) (p : Nat) (r : HeldRec) : Bool := recShapeOk r && (r.typ != 0x11 || s.chunkOk p r)

/-! ### Port state -/

/-- TAP_LASTBAD takes an offset and a cause (R188). -/
def State.lastBad (s : State) (p off cause : Nat) : State :=
  (s.wr F.TAP_LASTBAD_OFFSET off p).wr F.TAP_LASTBAD_CAUSE cause p

/-- A framing failure (R155, R156): in RUN the partial record is dropped and the port enters RESYNC; in RESYNC the
candidate is discarded with no new entry. The fault source is raised either way. A record that came whole (`whole`) is not partial. -/
def State.frameFail (s : State) (p : Nat) (x : Src) (rs cause : Nat) (whole : Bool := false) : State :=
  ((s.lastBad p (s.recStart p) cause).dropToResync p rs whole).raise (x.at p)

/-- Bytes have been taken at the cursor: it moves, and CONS_PTR follows (R134, R154). -/
def State.taken (s : State) (p cursor : Nat) : State :=
  (s.wr F.TAP_CURSOR_PTR (cursor % 0x1000000) p).wr F.TAP_CONSPTR_PTR ((cursor + 63) / 64 * 64 % 0x1000000) p

/-! ### Acceptance (R161 to R165, R177) -/

/-- Bytes of the stream area of a port that no reservation and no excess of a stream takes (R176). A stream takes the larger of
its reservation and what it holds, so a record that does not fit the unused reservation must fit the slack whole; the streams of a
context in key-up, which are not admitted yet, take nothing (DEDUCED, log 98). -/
def State.slack (s : State) (p : Nat) : Nat :=
  let mine := (List.range 64).filter fun i => (s.st i).admitted && s.portOf i == p
  917504 - sumNat (mine.map fun i => max (s.st i).c.ingressPeak (s.rd F.TAP_SHELD_BYTES p i))

/-- A stream record's LEN fits its reservation or the slack (R177). -/
def State.fitsArea (s : State) (p i len : Nat) : Bool :=
  let held := s.rd F.TAP_SHELD_BYTES p i
  let rsv := (s.st i).c.ingressPeak
  decide (len ≤ rsv - held) || decide (len ≤ s.slack p)

/-- Every pending verdict of a stream becomes UNVERIFIED (R190). -/
def State.markPending (s : State) (i : Nat) : State :=
  { s with slots := mapIf (fun r => r.stream == i && !r.formed) (fun r => { r with incomplete := true }) s.slots }

/-- DUP_CONFLICT, SEQ_JUMP or ING_OVR of a stream: raised, pending verdicts marked, and the stream BLOCKED (R178, R190). -/
def State.block (s : State) (p i : Nat) (x : Src) : State :=
  let s := s.raiseSt (x.at p) i i
  (s.markPending i).wr F.TAP_SSTAT_BLOCKED 1 p i

/-- Records of a stream leave the port, whether their turn has come or not. -/
def State.dropAll (s : State) (p i : Nat) (f : HeldRec → Bool) : State :=
  (s.updTap p fun t => { t with recs := t.recs.filter fun r => !(!r.port && r.stream == i && f r) }).heldCounts p i

/-- An ingress overrun of a stream (R177): the open result closes incomplete and its words are released, those that still wait
for their dispatch among them. -/
def State.overrunIn (s : State) (p i : Nat) : State :=
  let q := (s.st i).open_
  let s := (s.markOpenRes i).closeRes i
  let s := match q with | some q => s.dropAll p i fun x => x.resseq == q | none => s
  s.block p i S.TAP_ING_OVR

/-- The stream is blocked at a record's turn (R178): its later records, which wait behind it, are discarded and counted. -/
def State.cutLater (s : State) (p i : Nat) : State :=
  let n := ((s.tap p).recs.filter fun r => !r.done && !r.port && r.stream == i).length
  (s.add F.TAP_SDISC_N n p i).dropAll p i fun r => !r.done

/-- MALFORMED with its counters (R152, R188). -/
def State.malformed (s : State) (p : Nat) (r : HeldRec) : State :=
  let s := s.lastBad p r.off 5
  let s := if r.port then s.inc F.TAP_PMAL_N p else s.inc F.TAP_SMAL_N p r.stream
  if r.port then s.raise (S.TAP_MALFORMED.at p) else s.raiseSt (S.TAP_MALFORMED.at p) r.stream r.stream

/-- A record waits for its dispatch, with its place in its sequence taken. -/
def State.keepRec (s : State) (p : Nat) (r : HeldRec) : State :=
  let s := s.updTap p fun t => { t with recs := t.recs ++ [{ r with arrival := t.arrivals }], arrivals := t.arrivals + 1 }
  let s := if r.port then s.wr F.TAP_PNEXTSEQ_SEQ ((r.recseq + 1) % 2 ^ 32) p
    else (s.wr F.TAP_SNEXTSEQ_SEQ ((r.recseq + 1) % 2 ^ 32) p r.stream).add64 R.TAP_SACC_LO R.TAP_SACC_HI 1 p r.stream
  s.heldCounts p r.stream

/-- An orphan (R167) is counted; it sets ORPHAN unless it follows the RETRACT of its own result. -/
def State.orphan (s : State) (p i q : Nat) : State :=
  let s := s.inc F.TAP_SDISC_N p i
  if (s.st i).retracted.contains q then s else s.raiseSt (S.TAP_ORPHAN.at p) i i

/-- A record behind the expected one (R163). The spec has no register that counts duplicates, stale records or gaps of port
records (R187, R188), so none of these moves a counter (DESIGN CHOICE, log 118). -/
def State.behind (s : State) (p : Nat) (r : HeldRec) : State :=
  match (s.tap p).recs.find? fun x => x.port == r.port && x.stream == r.stream && x.recseq == r.recseq with
  | some x =>
    if x.raw = r.raw then (if r.port then s else s.inc F.TAP_SDUP_N p r.stream)
    else if r.port then s.raise (S.TAP_DUP_CONFLICT.at p)
    else s.block p r.stream S.TAP_DUP_CONFLICT
  | none =>
    if r.port then s.raise (S.TAP_STALE.at p)
    else (s.inc F.TAP_SSTALE_N p r.stream).raiseSt (S.TAP_STALE.at p) r.stream r.stream

/-- The oldest record of a stream, or of the port, that waits for its dispatch (R164). -/
def State.nextRec (s : State) (p : Nat) (port : Bool) (i : Nat) : Option HeldRec :=
  (s.tap p).recs.find? fun r => !r.done && r.port == port && (port || r.stream == i)

/-- A BEGIN_RESULT whose PLAN_ID, NTOK or CTXPOS does not match (R142); `pos` is the stream's position count. -/
def Plan.beginBad (p : Plan) (c : StreamC) (pos : Nat) (pl : List Byte) : Bool :=
  le 0 4 pl != p.id || le 8 4 pl != pos || le 4 2 pl == 0 || decide (le 4 2 pl > c.ntokMax)

/-- A BEGIN_RESULT of this number is malformed with SEQ_JUMP (R168). -/
def Stream.jumps (x : Stream) (q : Nat) : Bool :=
  match x.last, x.maxUsed with
  | some l, _ => !(decide (l < q) && decide (q ≤ l + 65))
  | none, some m => decide (q ≤ m)
  | none, none => false

/-- A KV_APPEND whose POS is not its token's position, or whose tensor is not complete (R145). -/
def Slot.kvBad (y : Slot) (t : TensD) (r : HeldRec) : Bool :=
  le 0 4 r.payload != y.ctxpos + r.token || !y.complete t r.token

/-- The stream has a result of this number, open or earlier (R172). -/
def Stream.knows (x : Stream) (q : Nat) : Bool :=
  match x.last, x.maxUsed with
  | some l, _ => decide (q ≤ l)
  | none, some m => decide (q ≤ m)
  | none, none => false

/-- The conditions of R142, R145 and R172 that the state of the stream decides, for a record ahead of the expected one with none of
its stream waiting before it: it is judged as it arrives, for a malformed record out of sequence is discarded (R152). -/
def State.aheadBad (s : State) (p : Nat) (r : HeldRec) : Bool :=
  let i := r.stream
  let x := s.st i
  (s.nextRec p false i).isNone &&
  match r.typ, s.planOf i with
  | 1, some plan => x.jumps r.resseq || plan.beginBad x.c (if x.open_.isNone && s.on F.VDU_SCTRL_CTXRST i then 0 else x.count) r.payload
  | 4, some plan => x.open_ == some r.resseq && (match plan.portTensor r.site 1, s.slotOf i r.resseq with
      | some t, some y => y.kvBad t r
      | none, _ => true
      | _, none => false)
  | 8, _ => !x.knows r.resseq
  | _, _ => false

/-- A record that has passed its CRC (R151, R152, R161 to R167, R177, R178). An orphan of a stream that is not admitted here is
an accepted record (R167), so it takes an arrival number (R165). -/
def State.acceptRec (s : State) (p : Nat) (r : HeldRec) (ovr : Bool) : State :=
  if r.port then
    if !s.portRecOk p r then s.malformed p r
    else
      let d := (r.recseq + 2 ^ 32 - s.rd F.TAP_PNEXTSEQ_SEQ p) % 2 ^ 32
      if d = 0 then s.keepRec p r
      else if d < 2 ^ 31 then (s.keepRec p r).raise (S.TAP_GAP.at p)
      else s.behind p r
  else
    let i := r.stream
    let x := s.st i
    let here := x.admitted && s.portOf i == p
    if here && s.on F.TAP_SSTAT_BLOCKED p i then s.inc F.TAP_SDISC_N p i
    else if ovr then s.overrunIn p i
    else
      let d := (r.recseq + 2 ^ 32 - s.rd F.TAP_SNEXTSEQ_SEQ p i) % 2 ^ 32
      let ahead := decide (0 < d) && decide (d < 2 ^ 31)
      let bad := !recShapeOk r || (x.admitted && s.portOf i != p) || (here && (!s.recPlanOk r || (ahead && s.aheadBad p r)))
      if bad then
        let s := s.malformed p r
        if here && d == 0 then s.keepRec p { r with bad := true } else s
      else if !here then
        let s := (s.updTap p fun t => { t with arrivals := t.arrivals + 1 }).add64 R.TAP_SACC_LO R.TAP_SACC_HI 1 p i
        s.orphan p i r.resseq
      else if d = 0 then s.keepRec p r
      else if d < 2 ^ 31 then
        ((s.keepRec p { r with gap := true }).add F.TAP_SGAP_N d p i).raiseSt (S.TAP_GAP.at p) i i
      else s.behind p r

/-! ### Records at their turn (R144, R164, R171, R287) -/

/-- Element codes of a packed field (R144). -/
def unpackCodes (w n : Nat) (b : List Byte) : List Nat :=
  let v := leNat b
  (List.range n).map fun k => v / 2 ^ (w * k) % 2 ^ w

/-- The part that a TENSOR or ACC32 record carries. -/
def HeldRec.part (r : HeldRec) (tensor : Nat) : TPart :=
  let pl := r.payload
  let n := le 4 4 pl
  let acc := r.typ == 5
  let w := if acc then 32 else fmtBits (bits 7 0 r.hinfo)
  let nb := ceilDiv (n * w) 8
  { site := if acc then none else some r.site, tensor := tensor, token := r.token, off := le 0 4 pl, codes := unpackCodes w n (slice 8 nb pl),
    scales := if !acc && bit 8 r.hinfo then (List.range (ceilDiv n 32)).map fun k => le (8 + nb + k) 1 pl else [] }

/-- How a part meets the elements already there: 0 none overlaps, 1 the overlap is identical, 2 it differs (R171). -/
def Slot.overlap (r : Slot) (x : TPart) : Nat :=
  let old := (List.range x.codes.length).filterMap fun k =>
    match r.elem x.tensor x.token (x.off + k) with
    | some e => some (x.elem (x.off + k) == some e)
    | none => none
  if old.isEmpty then 0 else if old.all (· == true) then 1 else 2

/-- The tensor of a record by its (SITE, ROLE) pair (R171); an ACC32
record names the accumulators of its SITE. -/
def Plan.recTensor (p : Plan) (r : HeldRec) : Option TensD := p.portTensor r.site (if r.typ = 5 then 2 else bits 9 9 r.hinfo)

/-- Whether the groups that a record's part would complete do not fit their FIFOs (R179, R287). -/
def State.partStall (s : State) (i : Nat) (r : HeldRec) (sl : Slot) : Bool :=
  match s.planOf i with
  | some p =>
    match p.recTensor r with
    | some t =>
      let x := r.part t.num
      sl.overlap x == 0 && !s.groupsFit sl (s.readyGroups { sl with parts := sl.parts ++ [x] } r.token) r.token
    | none => false
  | none => false

/-- The next record of a stream cannot be dispatched because a target FIFO is full (R179). -/
def State.dispatchStall (s : State) (p i : Nat) : Bool :=
  match s.nextRec p false i with
  | some r => !r.bad && (s.st i).admitted && (r.typ == 3 || r.typ == 5) && (s.st i).open_ == some r.resseq &&
      (match s.slotOf i r.resseq with | some sl => s.partStall i r sl | none => false)
  | none => false

/-! ### Backpressure (R179, R180) -/

/-- A whole port record waits in the buffer, or its header has arrived, and it does not fit the free port pool (R176, R179). -/
def State.poolFull (s : State) (p : Nat) : Bool :=
  let b := match (s.tap p).whole with
    | w :: _ => w.2.2
    | [] => (s.tap p).buf
  decide (32 ≤ b.length) && bit 6 (le 2 1 b) && decide (s.rd F.TAP_POOL_BYTES p + le 4 4 b > 131072)

/-- Whether the port withholds credits now (R179). The KV copy and the AEU take a record in one step, so neither ever holds it
back (log 99). -/
def State.backpressure (s : State) (p : Nat) : Bool :=
  s.poolFull p || (List.range 64).any fun i => s.portOf i == p && s.dispatchStall p i

/-- The backpressure episode is brought up to date (R159, R180, R188). -/
def State.bpMark (s : State) (p : Nat) : State :=
  let t := s.tap p
  match t.bpAt, s.backpressure p with
  | none, true => (s.updTap p fun t => { t with bpAt := some s.cyc, bpLong := false, bpFrom := s.cyc }).wr F.TAP_STAT_BP 1 p
  | some c, false =>
    let n := (s.cyc - t.bpFrom) * 5 / 4
    let s := (s.add64 R.TAP_BPTIME_LO R.TAP_BPTIME_HI n p).peak F.TAP_BPMAX_NS n p
    (s.updTap p fun t => { t with bpAt := none, lastAt := t.lastAt + (s.cyc - max c t.lastAt) }).wr F.TAP_STAT_BP 0 p
  | _, _ => s

/-! ### Framing (R154 to R156) -/

/-- A record of a port's stream finds no room when its header arrives: the overrun of R177. -/
def State.overrunNow (s : State) (p : Nat) (b : List Byte) : Bool :=
  let i := le 2 1 b % 64
  !bit 6 (le 2 1 b) && (s.st i).admitted && s.portOf i == p && !s.on F.TAP_SSTAT_BLOCKED p i && !s.fitsArea p i (le 4 4 b)

/-- The header of the partial record is judged when it has arrived (R140, R177); the flag says that it is sound. -/
def State.judgeHeader (s : State) (p : Nat) : State × Bool :=
  let t := s.tap p
  let b := t.buf
  if t.hdr then (s, true)
  else if !headerOk (s.recStart p) b then (s, false)
  else
    (s.updTap p fun t => { t with hdr := true, ovr := s.overrunNow p b }, true)

/-- Records complete in the buffer are taken one after another; `fuel` bounds their number by the bytes there. A port record that
does not fit the free port pool waits (R179); what lies behind it came with the last TLP, whose arrival stamps it (R165). -/
def State.parse (s : State) (p : Nat) : Nat → State
  | 0 => s
  | fuel + 1 =>
    let b := (s.tap p).buf
    let start := s.recStart p
    if b.length < 32 then s
    else
      match s.judgeHeader p with
      | (s, false) => s.frameFail p S.TAP_HDR 4 1
      | (s, true) =>
        let len := le 4 4 b
        if b.length < len then s
        else if !recCrcOk p (b.take len) then
          let s := s.discard p (b.length - len)
          let s := (s.updTap p fun t => { t with buf := b.take len }).taken p (start + len)
          (s.inc F.TAP_CRCCNT_N p).frameFail p S.TAP_CRC 2 0 true
        else if s.poolFull p then s
        else
          let t := s.tap p
          let r : HeldRec :=
            { raw := b.take len, off := start, stamp := t.stamp, arrival := 0, at_ := s.cyc, done := false, bad := false, gap := false }
          let s := if s.rd F.TAP_STAT_PSTATE p = 2 then s else s.pstate p 2
          let s := s.updTap p fun t => { t with buf := b.drop len, stamp := t.tlpAt, lastAt := s.cyc, hdr := false, ovr := false }
          (s.acceptRec p r t.ovr).parse p fuel

/-- Complete records that waited for the port pool are accepted as it takes them (R157, R179). -/
def State.takeWhole (s : State) (p : Nat) : List (Nat × Nat × List Byte) → State
  | [] => s
  | w :: ws =>
    if s.poolFull p then s
    else
      let s := s.updTap p fun t => { t with whole := ws }
      (s.acceptRec p { raw := w.2.2, off := w.1, stamp := w.2.1, arrival := 0, at_ := s.cyc, done := false, bad := false, gap := false }
        (s.overrunNow p w.2.2)).takeWhole p ws

/-- The port's backpressure after a change of what it holds or of the FIFOs; bytes that waited for credits are parsed. -/
def State.bpUpdate (s : State) (p : Nat) : State :=
  let s := s.takeWhole p (s.tap p).whole
  let was := (s.tap p).bpAt.isSome
  let s := s.bpMark p
  if was && (s.tap p).bpAt.isNone then (s.parse p ((s.tap p).buf.length + 1)).bpMark p else s

/-- Both ports' backpressure. -/
def State.bpAll (s : State) : State := (s.bpUpdate 0).bpUpdate 1

/-- Bytes of a TLP are taken at the cursor. -/
def State.takeBytes (s : State) (p off : Nat) (d : List Byte) : State :=
  let s := s.updTap p fun t => { t with
    stamp := if t.buf.isEmpty then s.ns else t.stamp, buf := t.buf ++ d, lastAt := s.cyc, tlpAt := s.ns }
  let s := s.taken p (off + d.length)
  s.parse p (d.length + 1)

/-- A TLP exceeds 512 bytes or the port's Max_Payload_Size, or runs past the ring (R133). -/
def State.tlpLong (s : State) (p off : Nat) (d : List Byte) : Bool :=
  decide (min 512 (s.host.maxPay.getD p 512) < d.length) || decide (0x1000000 < off + d.length)

/-- TAP_RING_WRITE (R133, R153 to R156, R179, R790): a Memory Write TLP to BAR0. None arrives while the link is down, while the tap
function is in D3hot, or while the port withholds its credits (log 99). `ok` says that it is not poisoned and enables every byte. One
that is too long or runs past the ring is reported through AER too (R785). In QUIESCED a bad TLP is discarded like any other and leaves no fault and no TAP_LASTBAD, for
R155 and R156 give a framing failure its outcome in RUN and RESYNC only (DESIGN CHOICE, log 100). In RESYNC a bad TLP sets BADTLP and
writes TAP_LASTBAD with the cursor's offset also where no candidate is in progress (DESIGN CHOICE, log 124). A TLP
at offset 0 that finds another candidate in part discards that one with CAUSE 2, out of place, and starts a new one (DESIGN CHOICE,
log 155). -/
def opTapRingWrite (p off : Nat) (d : List Byte) (ok : Bool) (s : State) : State :=
  if !s.on F.TAP_STAT_LINKUP p || !s.host.d0.getD (2 + p) true || d.isEmpty || s.backpressure p then s
  else
    let bad := !ok || s.tlpLong p off d
    let cur := s.rd F.TAP_CURSOR_PTR p
    let cand := !(s.tap p).buf.isEmpty
    let st := s.rd F.TAP_STAT_PSTATE p
    let s := s.when (decide (st ≠ 0) && s.tlpLong p off d) fun s => s.emit (.aer p)
    let s := match st with
      | 0 => s
      | 3 => s.discard p d.length
      | 2 =>
        if bad then (s.discard p d.length).frameFail p S.TAP_BADTLP 5 3
        else if off ≠ cur then
          let s := s.frameFail p S.TAP_OOP 3 2
          if off = 0 then s.takeBytes p 0 d else s.discard p d.length
        else s.takeBytes p off d
      | _ =>
        if bad then (s.discard p d.length).frameFail p S.TAP_BADTLP 5 3
        else if cand && off == cur then s.takeBytes p off d
        else
          let s := s.when cand fun s => (s.lastBad p (s.recStart p) 2).dropPartial p
          if off = 0 then s.takeBytes p 0 d else s.discard p d.length
    (s.bpUpdate p).settle

/-- TAP_RING_READ (R132): a Memory Read to BAR0. -/
def opTapRingRead (p : Nat) (s : State) : State := (s.emit (.ur p)).raise (S.TAP_RING_RD.at p)

/-- TAP_STATUS_WRITE (R132): a Memory Write to BAR2. -/
def opTapStatusWrite (p : Nat) (s : State) : State := s.raise (S.TAP_RING_RD.at p)

/-- PART_TO (R159): a record has stayed partial for 200 µs outside backpressure. -/
def opPartTo (p : Nat) (s : State) : State :=
  let t := s.tap p
  if t.buf.isEmpty || t.bpAt.isSome then s
  else ((s.reachCyc (t.lastAt + usC 200)).frameFail p S.TAP_PART_TO 7 4).settle

/-- BP_LONG (R180): the running backpressure episode passes BPLIM times 10 µs. -/
def opBpLong (p : Nat) (s : State) : State :=
  let t := s.tap p
  match t.bpAt with
  | some c =>
    if t.bpLong || !s.backpressure p then s
    else
      let s := s.reachCyc (c + s.rd F.TAP_CTRL_BPLIM p * usC 10 + 1)
      (s.updTap p fun t => { t with bpLong := true }).raise (S.TAP_BP_LONG.at p)
  | none => s

/-- TAP_LINK_DOWN (R153, R156, R189). TAP_LASTBAD records a candidate that the link loses; its CAUSE has no code for that, so it
is a free value (log 101). -/
def opTapLinkDown (p : Nat) (s : State) : State :=
  if !s.on F.TAP_STAT_LINKUP p then s
  else
    let st := s.rd F.TAP_STAT_PSTATE p
    let s := s.wr F.TAP_STAT_LINKUP 0 p
    let s := s.when (st == 1 && !(s.tap p).buf.isEmpty) fun s => (s.lastBad p (s.recStart p) (s.fresh 4).toNat).drew
    let s := s.when (st == 1 || st == 2) fun s => s.dropToResync p 6
    (s.when (decide (st ≠ 0)) fun s => s.raise (S.TAP_LINK_DOWN.at p)).bpUpdate p

/-- TAP_LINK_UP (R153). -/
def opTapLinkUp (p : Nat) (s : State) : State := s.wr F.TAP_STAT_LINKUP 1 p

/-- A block reset or an FLR of the port: a port in RUN enters RESYNC, and its status returns to reset (R67, R185); a QUIESCED or
OFF port stays so. -/
def State.tapRestart (s : State) (p cause : Nat) : State :=
  match s.rd F.TAP_STAT_PSTATE p with
  | 0 | 3 => s
  | _ => (s.dropToResync p cause).bpUpdate p

/-- TAP_FLR (R790): the tap function is reset. -/
def opTapFlr (p : Nat) (s : State) : State := s.tapRestart p 0

/-- FLUSH (R157): a candidate that it discards in RESYNC is no new entry (R134, R185). -/
def opFlush (p : Nat) (s : State) : State :=
  match s.rd F.TAP_STAT_PSTATE p with
  | 0 | 3 => s
  | _ => (s.dropToResync p 1).bpUpdate p

/-- QUIESCE_SET (R158): the host sets TAP_CTRL.QUIESCE. -/
def opQuiesceSet (p : Nat) (s : State) : State :=
  let s := s.wr F.TAP_CTRL_QUIESCE 1 p
  if s.rd F.TAP_STAT_PSTATE p = 0 then s else (((s.dropPartial p).pstate p 3)).bpUpdate p

/-- The quiesce that an ended restart attempt left behind goes (R583). -/
def State.dropAcbQ (s : State) (p : Nat) : State := if s.rd F.ACB_STAT_STEP = 0 then s.wr F.TAP_STAT_ACB_Q 0 p else s

/-- QUIESCE_CLEAR (R153, R583): the host clears TAP_CTRL.QUIESCE. -/
def opQuiesceClear (p : Nat) (s : State) : State := ((s.wr F.TAP_CTRL_QUIESCE 0 p).dropAcbQ p).unquiesce p

/-- TAP_CTRL.EN takes its value by a transaction (R153): a port enabled starts its port sequence and arrival numbers at 0
(R161, R165). -/
def State.tapEnable (s : State) (p : Nat) (on : Bool) : State :=
  match s.rd F.TAP_STAT_PSTATE p, on with
  | 0, true =>
    let s := ((s.setWord R.TAP_PNEXTSEQ 0 p).setWord R.TAP_RSGEN 0 p).updTap p fun t => { t with arrivals := 0 }
    let s := (s.dropAcbQ p).resync p 0
    if s.on F.TAP_CTRL_QUIESCE p || s.on F.TAP_STAT_ACB_Q p then s.pstate p 3 else s
  | 0, false => s
  | _, false => (((s.dropPartial p).pstate p 0)).bpUpdate p
  | _, true => s

/-- TAP_SCLR (R187). -/
def opTapSclr (p i : Nat) (s : State) : State :=
  [R.TAP_SPEAK, R.TAP_SACC_LO, R.TAP_SACC_HI, R.TAP_SGAP, R.TAP_SDUP, R.TAP_SSTALE, R.TAP_SMAL, R.TAP_SDISC,
    R.TAP_SRETR].foldl (fun s r => s.setWord r 0 p i) s

/-- TAP_CLR (R188): a running backpressure episode counts on from here. -/
def opTapClr (p : Nat) (s : State) : State :=
  let s := s.updTap p fun t => { t with bpFrom := s.cyc }
  [R.TAP_DISC_LO, R.TAP_DISC_HI, R.TAP_PARTDROP, R.TAP_CRCCNT, R.TAP_BPTIME_LO, R.TAP_BPTIME_HI, R.TAP_BPMAX,
    R.TAP_WCACC, R.TAP_WCREJ, R.TAP_PMAL].foldl (fun s r => s.setWord r 0 p) s

end Sys2Proof.Machine
end

