-- ==== Sys2Proof/Machine/Parser.lean ====
section
/-!
DEFINITION. Dispatch of the stream records (R142 to R148, R164 to R175, R255, R262, R263, R270, R336, R338, R358, R397,
R398). Each command takes the oldest undispatched record of its stream; it has no effect where that record is of another
type or cannot be dispatched yet.
-/
namespace Sys2Proof.Machine

/-- A record's turn has come. -/
def State.turn (s : State) (p : Nat) (r : HeldRec) : State :=
  s.updTap p fun t => { t with recs := t.recs.map fun x => if x = r then { x with done := true } else x }

/-- A stream record that counts for NREC of the open result (R169). -/
def State.countRec (s : State) (i q : Nat) : State := s.updSlot i q fun r => { r with nrec := r.nrec + 1 }

/-- A record inside the stream's open result, whose header names no result of its own or another one (R169). -/
def State.countOpen (s : State) (i : Nat) : State :=
  match (s.st i).open_ with | some q => s.countRec i q | none => s

/-- Words of a record that no check reads leave the buffer. -/
def State.dropRec (s : State) (p : Nat) (r : HeldRec) : State :=
  let s := s.updTap p fun t => { t with recs := t.recs.filter fun x => !(x.done && x.port == r.port && x.arrival == r.arrival) }
  s.heldCounts p r.stream

/-- A record of a result takes its turn: after a gap the open result is marked; a malformed record marks it; an orphan is
discarded; otherwise `f` acts for the open result (R152, R162, R167), or the record stays undispatched where `stall` says
so (R179). -/
def State.resultRec (s : State) (i typ : Nat) (f : HeldRec → Slot → State → State)
    (stall : HeldRec → Slot → State → Bool := fun _ _ _ => false) : State :=
  let p := s.portOf i
  match s.nextRec p false i with
  | none => s
  | some r =>
    if r.typ ≠ typ then s
    else
      let s := s.when r.gap fun s => s.markOpenRes i
      if r.bad then
        let s := match (s.st i).open_ with
          | some q => (s.markInc i q).when (q == r.resseq) fun s => s.countRec i q
          | none => s
        ((s.turn p r).dropRec p { r with done := true }).settle.bpAll
      else
        match (s.st i).open_ with
        | some q =>
          if q ≠ r.resseq then ((((s.countRec i q).turn p r).orphan p r.stream r.resseq).dropRec p r).settle
          else
            match s.slotOf i q with
            | some sl =>
              if stall r sl s then s.bpUpdate p else (f r sl ((s.turn p r).countRec i q)).settle.bpAll
            | none => ((s.turn p r).dropRec p r)
        | none => (((s.turn p r).orphan p r.stream r.resseq).dropRec p r).settle

/-- A record that only its turn shows to be malformed (CTXPOS, the POS of a KV_APPEND, the target of a RETRACT) marks the open
result. It has its place in the sequence already, also where it followed a gap while earlier records of its stream waited: what decides
it is then known only at its turn (R151, R152; DESIGN CHOICE, log 102). -/
def State.badTurn (s : State) (p : Nat) (r : HeldRec) : State := ((s.malformed p r).markOpenRes r.stream).dropRec p r

/-! ### BEGIN_RESULT -/

/-- The seed of a RESSEQ (R255); 0 while the stream's key waits for its draw (R690; DESIGN CHOICE, log 174). -/
def Stream.seed (x : Stream) (q : Nat) : Nat := if x.seedDue then 0 else (Config.aes256 x.seedKey q).toNat % 2 ^ 64

/-- The RESSEQ for which the status page shows a seed (R134, R255). -/
def Stream.seedFor (x : Stream) : Nat := match x.maxUsed with | some q => q + 1 | none => 0

/-- First bank of a stream among its context's banks (R395). -/
def Plan.bankBase (p : Plan) (sidx : Nat) : Nat := sumNat ((p.streams.filter fun c => decide (c.sidx < sidx)).map (·.semBanks))

/-- The stream's next bank after the one given last that is not held (R397). -/
def Stream.nextBank (x : Stream) (p : Plan) : Option Nat :=
  let n := max 1 x.c.semBanks
  let b := p.bankBase x.sidx
  ((List.range n).map fun k => b + (x.bankLast + 1 + k) % n).find? fun k => !x.banks.any fun h => h.bank == k

/-- The result bucket now, in 10^-9 tokens (R338). -/
def State.bucketNow (s : State) (i : Nat) : Nat :=
  let x := s.st i
  min 4000000000 (x.bucket + (s.ns - x.bucketAt) * x.c.rateMax)

/-- Slots reserved for a stream (R358). -/
def StreamC.rsv (c : StreamC) : Nat := ceilDiv (c.rateMax * c.deadlineUs) 1000000 + 1

/-- Slots of a stream in use. -/
def State.inUse (s : State) (i : Nat) : Nat := (s.slots.filter fun r => r.stream == i && !r.left).length

/-- A free slot in the stream's reservation or the pool (R358). -/
def State.slotFree (s : State) (i : Nat) : Bool :=
  let adm := (List.range 64).filter fun k => (s.st k).admitted
  let pool := 1024 - sumNat (adm.map fun k => (s.st k).c.rsv)
  let excess := sumNat ((List.range 64).map fun k => s.inUse k - (if (s.st k).admitted then (s.st k).c.rsv else 0))
  decide (s.inUse i < (s.st i).c.rsv) || decide (excess < pool)

/-- Pairs that may be drawn (R270): of plain softmax attention, where the KV copy holds every position before the result's own that a
token of it attends, and will hold them with its own. -/
def Stream.eligible (x : Stream) (p : Plan) (ctxpos ntok : Nat) : List Nat :=
  let ps := p.pairs
  ((ps.zip (List.range ps.length)).filter fun (ah, _) =>
    let a := ah.1.from_ ctxpos
    ah.1.plain && decide (ctxpos + ntok ≤ a + x.c.kvwin) &&
    (List.range (ctxpos - a)).all fun k => x.kv.any fun r => r.site == ah.1.kvSite && r.pos == a + k).map (·.2)

/-- `n` pairs drawn without replacement (R129, R270). -/
def State.draw (s : State) : Nat → List Nat → List Nat × State
  | 0, _ => ([], s)
  | n + 1, xs =>
    match xs[(s.fresh 64).toNat % max 1 xs.length]? with
    | none => ([], s)
    | some x =>
      let (ys, s) := s.drewKey.draw n (xs.erase x)
      (x :: ys, s)

/-- LU credits of a job's check for one token (R122): the site it checks, or the sites that its commands recompute. -/
def Plan.credits (p : Plan) (j : JobD) (token : Nat) : List (Nat × Nat) :=
  let sites := match j.kind with
    | 1 | 2 | 8 => [j.site]
    | 3 | 4 | 5 => p.elemSites j
    | _ => []
  (p.lu.filter fun x => sites.contains x.1).map fun x => (luKey x.1 token, x.2)

/-- The checks a plan assigns to a result (R359): those of its job groups for every token, its draws and BIND. A shed entry
removes its group's checks, but none of a kind that the stream requires (R349, R353). -/
def Plan.assigned (p : Plan) (x : Stream) (ctxpos ntok : Nat) (draws : List Nat) : List ChkD :=
  let shed := (x.shed.filterMap fun k => p.shed[k]?).map (·.group)
  let stays (g : GroupD) (j : JobD) : Bool := !shed.contains g.num || bit j.kind x.c.required
  let groups := (p.groups.filter fun g => g.sidx == x.sidx).flatMap fun g =>
    (List.range ntok).flatMap fun t => (g.jobs.filter fun j => j.kind != 0 && stays g j).map fun j =>
      { chk := chkKey j.chk t, kind := j.kind, site := j.site, group := some g.num, pair := 0, lu := p.credits j t : ChkD }
  let sar := draws.map fun d =>
    match p.pairs[d]? with
    | some (a, _) => { chk := sarKey d, kind := 7, site := a.site, group := none, pair := d,
                       lu := [(luKey a.site 0, a.qHeads / max 1 a.kvHeads * a.headLu ctxpos ntok)] : ChkD }
    | none => ⟨sarKey d, 7, 0, none, d, []⟩
  groups ++ sar ++ (if p.graph.inputs.isEmpty then [] else [⟨Sys2Proof.Machine.bindKey, 9, 0, none, 0, []⟩])

/-- The draws become SAR jobs that wait for their start condition (R270, R273). -/
def State.enqSar (s : State) (i q gen cls : Nat) (draws : List Nat) : State :=
  s.each draws fun d s =>
    let j : SarJob :=
      { stream := i, resseq := q, gen := gen, chk := sarKey d, pair := d, cls := cls, order := 0, again := false,
        aborted := false, on := none }
    s.updMnt fun m => { m with waitSar := m.waitSar ++ [j] }

/-- The start condition of a SAR job (R273): the pair's queries of the last token, and the layer's KV_APPEND of every
position of the result, have been accepted. None starts once no check of the result is dispatched any more (R170); one that has run
and runs again does (R435). -/
def State.sarReady (s : State) (j : SarJob) : Bool :=
  match s.slotOf j.stream j.resseq, s.planOf j.stream with
  | some r, some p =>
    if j.on.isSome then !r.formed else
    match p.pairs[j.pair]? with
    | some (a, h) =>
      match p.portTensor a.kvSite 1 with
      | some t =>
        !r.barred && !r.formed &&
        let n := a.qHeads / max 1 a.kvHeads * a.dHead
        (List.range n).all (fun i => (r.elem t.num (r.ntok - 1) (a.qOff + h * n + i)).isSome) &&
        (List.range r.ntok).all fun k => r.kvs.contains (a.kvSite, r.ctxpos + k)
      | none => false
    | none => false
  | _, _ => false

/-- A job enters the queue of an engine, numbered by its enqueue (R437). -/
def State.sarEnq (s : State) (e : Nat) (j : SarJob) : State :=
  let n := s.mnt.order
  let s := (s.updMnt fun m => { m with order := n + 1 }).updSh e fun x => { x with queue := x.queue ++ [{ j with order := n }] }
  s.wr F.SH_SARQ_N (s.sh e).queue.length e

/-- Jobs whose start condition holds enter the shorter queue of an engine in service with room for them (R437), those that run again
that of the engine they are bound to (R435). -/
def State.sarFeed (s : State) : State :=
  s.each (s.mnt.waitSar.filter s.sarReady) fun j s =>
    let len (e : Nat) : Nat := (s.sh e).queue.length
    let e := match j.on with | some e => e | none => if s.sarEng 0 && (!s.sarEng 1 || decide (len 0 ≤ len 1)) then 0 else 1
    if s.sarEng e && decide (len e < 32) then (s.updMnt fun m => { m with waitSar := m.waitSar.erase j }).sarEnq e j
    else s

/-- A result opens (R119, R166, R229, R255, R338, R358, R397). While no draw is served, and in a
result of which no check is dispatched, its SAR checks end NOT DONE (R690); so do the checks that shedding removes (R110, R355). -/
def State.openRes (s : State) (p i : Nat) (plan : Plan) (r : HeldRec) (bank : Nat) (bad : Bool) : State :=
  let x := s.st i
  let pl := r.payload
  let ntok := max 1 (min (le 4 2 pl) x.c.ntokMax)
  let ctxpos := x.count
  let tokens := s.bucketNow i
  let rate := decide (tokens < 1000000000)
  let s := s.updSt i fun x => { x with bucket := tokens - (if rate then 0 else 1000000000), bucketAt := s.ns }
  let inc := bad || rate
  let sarN := x.c.sarPairs - ((x.shed.filterMap fun k => plan.shed[k]?).filter fun e => e.kind == 7 && e.group == 0xFFFF).length
  let split := s.pair == 1 || s.pair == 6
  let outage := s.noDraws
  let ps := x.eligible plan ctxpos ntok
  let noDraw := inc || x.suspended || outage
  let (draws, s) := s.draw (if noDraw then 0 else sarN) ps
  let lost : List ChkD := (List.range (if noDraw then min sarN ps.length else 0)).map fun k => ⟨sarKey (2 ^ 20 + k), 7, 0, none, 0, []⟩
  let gen := s.word R.PST_CGEN x.ctx
  let checks := plan.assigned x ctxpos ntok draws ++ lost
  let num := ((List.range 1024).find? fun n => !s.slots.any fun y => y.num == n && !y.left).getD 0
  let early := if inc || x.suspended then [] else draws.map sarKey
  let sl : Slot :=
    { num := num, stream := i, ctx := x.ctx, resseq := r.resseq, ctxpos := ctxpos, ntok := ntok, bank := bank, gen := gen,
      tfirst := r.stamp, deadline := r.stamp + x.c.deadlineUs * 1000, dlast := none, nrec := 0, closed := false,
      incomplete := bad, formed := false, suspended := x.suspended, noRate := rate, engines := decide (s.teCount ≤ 1),
      internal := false, fsum := if x.shed.isEmpty then 0 else 128,
      checks := checks, issued := early, out := [], aborted := [], failed := none, parts := [], kvs := [], groups := [],
      sel := [], rteBad := [], binds := [], bindBad := false, bindEnd := false, acts := [],
      total := plan.totalLu ctxpos ntok, minPpm := x.c.minPpm, required := x.c.required,
      shedNd := (plan.assigned { x with shed := [] } ctxpos ntok []).length - (plan.assigned x ctxpos ntok []).length +
        (min x.c.sarPairs ps.length - min sarN ps.length), left := false, sarFails := [], sarToks := [] }
  let s := { s with slots := s.slots ++ [sl] }
  let s := s.updSt i fun x => { x with
    open_ := some r.resseq, last := some r.resseq, maxUsed := some r.resseq, bankLast := bank - plan.bankBase x.sidx,
    retracted := x.retracted.filter (· != r.resseq), banks := ⟨bank, r.resseq, false, false⟩ :: x.banks, emitQ := x.emitQ ++ [(r.resseq, none)] }
  let s := s.wr64 R.TAP_SRES_LO R.TAP_SRES_HI r.resseq p i
  let s := s.when rate fun s => s.report { src := S.VDU_RATE_EXCESS, chan := i, stream := some i, mark := false }
  let s := s.when (!inc && !x.suspended) fun s => s.enqSar i r.resseq gen x.c.cls draws
  let s := s.when (!split) fun s =>
    let js := s.mnt.waitSar.filter fun j => j.stream == i && j.resseq == r.resseq
    (s.updMnt fun m => { m with waitSar := m.waitSar.filter fun j => !(j.stream == i && j.resseq == r.resseq) }).each js
      fun j s => if s.pair = 7 then s.sarLost false j else s.sarMove j
  s.when (le 16 8 pl != x.seed x.seedFor || le 16 8 pl != x.seed r.resseq) fun s => s.event 6 0x40 fun e =>
    { e with page := 6 + p, stream := i, ref := r.resseq, detail := natLe 8 (le 16 8 pl) }

/-- BEGIN_RESULT (R142, R166, R168, R336, R338, R358, R397, R398). -/
def opBeginResult (i : Nat) (s : State) : State :=
  let p := s.portOf i
  match s.nextRec p false i, s.planOf i with
  | some r, some plan =>
    if r.typ ≠ 1 then s
    else if !(s.st i).admitted then (((s.turn p r).orphan p r.stream r.resseq).dropRec p r).settle
    else
      let s := (s.when ((s.st i).open_.isNone && s.on F.VDU_SCTRL_CTXRST i) fun s => s.ctxReset i).freeBanks i
      let x := s.st i
      let pl := r.payload
      let pending := (s.slots.filter fun y => y.stream == i && !y.formed).length
      if x.nextBank plan |>.isNone then
        if pending < x.c.semBanks then s
        else ((((s.turn p r).dropRec p r).cutLater p i).overrunIn p i).settle.bpAll
      else
        let s := s.turn p r
        let s := s.when r.gap fun s => s.markOpenRes i
        let s := (s.markOpenRes i).closeRes i
        let q := r.resseq
        let jump := x.jumps q
        let s :=
          if jump then (((s.when (!r.bad) fun s => s.malformed p r).dropRec p r).cutLater p i).block p i S.TAP_SEQ_JUMP
          else if decide (pending ≥ x.c.semBanks) || !s.slotFree i then ((s.dropRec p r).cutLater p i).overrunIn p i
          else
            let skip := match x.last with | some l => q - l - 1 | none => 0
            let s := s.when (decide (0 < skip)) fun s => (s.upto (fun k s => s.skipRec i (q - skip + k) r.stamp) skip).raiseSt (S.TAP_GAP.at p) i i
            let wrong := plan.beginBad x.c x.count pl
            let s := s.when (wrong && !r.bad) fun s => s.malformed p r
            (s.openRes p i plan r ((x.nextBank plan).getD 0) (r.bad || wrong)).dropRec p r
        s.settle.bpAll
  | _, _ => s

end Sys2Proof.Machine
end

