-- ==== Sys2Proof/Machine/Records.lean ====
section
/-!
DEFINITION. Dispatch of the stream's records after BEGIN_RESULT (R143 to R149, R168 to R175, R253, R262, R287, R398) and
of PAD.
-/
namespace Sys2Proof.Machine

/-- BANK_WAIT_TIMEOUT (R398): a BEGIN_RESULT that waits for a bank has been held for 100 µs. -/
def opBankWaitTimeout (i : Nat) (s : State) : State :=
  let p := s.portOf i
  match s.nextRec p false i, s.planOf i with
  | some r, some plan =>
    let pending := (s.slots.filter fun y => y.stream == i && !y.formed).length
    if r.typ = 1 && (s.st i).admitted && (((s.freeBanks i).st i).nextBank plan).isNone && decide (pending < (s.st i).c.semBanks) then
      let s := s.reachCyc (r.at_ + usC 100)
      ((((s.turn p r).dropRec p r).cutLater p i).overrunIn p i).settle.bpAll
    else s
  | _, _ => s

/-- A token that the result declared has no part at all: the accelerator delivered fewer tokens than it declared (R130). A token of
which some but not all declared tensors arrived counts as delivered (DESIGN CHOICE, log 126). -/
def Slot.lacks (r : Slot) : Bool := (List.range r.ntok).any fun t => !r.parts.any fun x => x.token == t

/-- END_RESULT (R92, R130, R143, R166, R169, R278, R362, R479). `bnd` is what the boundary of the stream does (R92): it comes after
the close and before anything is formed. -/
def opEndResult (i : Nat) (bnd : State → State) (s : State) : State :=
  s.resultRec i 2 fun r sl s =>
    let q := sl.resseq
    let p := s.portOf i
    let s := s.when (le 0 4 r.payload != sl.nrec || sl.lacks) fun s => s.markInc i q
    let s := bnd (s.closeRes i)
    let s := s.updSlot i q fun x => { x with dlast := some r.stamp, bindEnd := true }
    let s := s.dropRec p r
    let s := s.sarFeed
    let late := s.mnt.waitSar.filter fun j => j.stream == i && j.resseq == q && !s.sarReady j
    let s := s.each late fun j s =>
      (s.updMnt fun m => { m with waitSar := m.waitSar.erase j }).updSlot i q fun x => { x with aborted := j.chk :: x.aborted }
    let s := match s.slotOf i q, s.planOf i with
      | some x, some plan =>
        if x.barred || !(x.checks.any fun c => c.chk == bindKey) then s
        else
          let missing := plan.graph.inputs.any fun d => !x.binds.any fun e => e.input == d.input
          opBindJudge i q (s.updSlot i q fun x => { x with
            bindBad := x.bindBad || missing, issued := if x.issued.contains bindKey then x.issued else bindKey :: x.issued })
      | _, _ => s
    s.actDone i q

/-- The router and the expert whose site a TENSOR record names (R253). -/
def Plan.expertOf (p : Plan) (site : Nat) : List (RouterD × Nat) :=
  p.graph.routers.flatMap fun d =>
    ((d.expertSites.zip (List.range d.expertSites.length)).filter fun e => e.1.contains site).map fun e => (d, e.2)

/-- An RTE check of a router and token fails under R253; one that has passed is overruled. -/
def State.rteFail (s : State) (i q site token : Nat) : State :=
  match s.slotOf i q with
  | none => s
  | some r =>
    let s := s.updSlot i q fun x => { x with rteBad := luKey site token :: x.rteBad }
    s.each (r.checks.filter fun c => c.kind == 4 && c.site == site && c.chk / 65536 == token &&
        r.out.any fun o => o.1 == c.chk && o.2 != 1) fun c s =>
      let s := s.updSlot i q fun x => { x with
        out := (c.chk, 1) :: x.out.filter (fun o => o.1 != c.chk),
        failed := match x.failed with | some f => some f | none => some (4, 0) }
      s.chkFail i q 4 site

/-- A TENSOR or ACC32 part takes its place (R171, R253, R273, R287, R401). -/
def State.takePart (s : State) (i : Nat) (r : HeldRec) (sl : Slot) : State :=
  let port := s.portOf i
  match s.planOf i with
  | none => s
  | some p =>
    match p.recTensor r with
    | none => s
    | some t =>
      let q := sl.resseq
      let x := r.part t.num
      match sl.overlap x with
      | 1 => (s.inc F.TAP_SDUP_N port i).dropRec port r
      | 2 => ((s.dropRec port r).cutLater port i).block port i S.TAP_DUP_CONFLICT
      | _ =>
        let s := s.updSlot i q fun y => { y with parts := y.parts ++ [x] }
        let s := s.each (if r.typ = 3 then p.expertOf r.site else []) fun de s =>
          match sl.sel.find? fun y => y.1 == de.1.site && y.2.1 == r.token with
          | some y => if y.2.2.contains de.2 then s else s.rteFail i q de.1.site r.token
          | none => s
        let done := match s.slotOf i q with | some y => y.complete t r.token | none => false
        let s := s.when done fun s => s.each (p.sem.landed.filter fun y => y.1 == t.num) fun y s =>
          match s.semAbs sl.ctx sl.bank y.2 false with
          | some n => s.semSignal (6 + port) 0 sl.ctx n 1
          | none => s
        ((s.enqGroups i q r.token).sarFeed).release i q

/-- TENSOR (R144, R171). -/
def opTensor (i : Nat) (s : State) : State :=
  s.resultRec i 3 (fun r sl s => s.takePart i r sl) fun r sl s => s.partStall i r sl

/-- ACC32 (R146, R171). -/
def opAcc32 (i : Nat) (s : State) : State :=
  s.resultRec i 5 (fun r sl s => s.takePart i r sl) fun r sl s => s.partStall i r sl

/-- KV_APPEND (R145, R262, R263): the position's rows of every KV head are copied; the slot's earlier position is
evicted. The stream's count is the number of positions accepted (R121). -/
def opKvAppend (i : Nat) (s : State) : State :=
  s.resultRec i 4 fun r sl s =>
    let port := s.portOf i
    let pos := le 0 4 r.payload
    match (s.planOf i).bind fun p => p.portTensor r.site 1 with
    | none => s.badTurn port r
    | some t =>
      match s.slotOf i sl.resseq with
      | none => s
      | some y =>
        if y.kvBad t r then s.badTurn port r
        else
          let (cs, ss) := y.whole t r.token
          let w := (s.st i).c.kvwin
          let kvs := if y.kvs.contains (r.site, pos) then y.kvs else y.kvs ++ [(r.site, pos)]
          let n := sl.ctxpos + ((kvs.map (·.2)).eraseDups).length
          let s := s.updSt i fun x => { x with
            kv := (KvRow.mk r.site pos cs ss false) :: x.kv.filter (fun k => !(k.site == r.site && k.pos % w == pos % w)),
            count := max x.count n, evicted := x.evicted || decide (w < pos + 1) }
          let s := s.updSlot i sl.resseq fun x => { x with kvs := kvs }
          let late := y.formed && !(s.st i).retracted.contains sl.resseq
          let s := match s.planOf i with
            | some p => s.when late fun s => s.updSt i fun x => x.fold p [(r.site, pos)]
            | none => s
          (((s.dropRec port r).enqGroups i sl.resseq r.token).sarFeed).release i sl.resseq

/-- One entry of an INPUT_BIND record (R147). -/
def bindEntry (b : List Byte) : BindE :=
  { input := le 0 2 b, origin := le 2 1 b, id := le 4 2 b, ref := le 8 8 b, digest := le 16 16 b, res := 0 }

/-- INPUT_BIND (R147, R278): entries join the result; an input named twice with differing entries fails the check. -/
def opInputBind (i : Nat) (s : State) : State :=
  s.resultRec i 6 fun r sl s =>
    let q := sl.resseq
    let es := (List.range r.hinfo).map fun k => bindEntry (slice (32 * k) 32 r.payload)
    let s := s.updSlot i q fun x =>
      let step (y : List BindE × Bool) (e : BindE) : List BindE × Bool :=
        match y.1.find? fun o => o.input == e.input with
        | some o => (y.1, y.2 || { o with res := 0 } != e)
        | none => (y.1 ++ [e], y.2)
      let (bs, bad) := es.foldl step (x.binds, x.bindBad)
      { x with
        binds := bs, bindBad := bad,
        issued := if x.barred || x.issued.contains bindKey then x.issued else bindKey :: x.issued }
    if sl.barred then s.dropRec (s.portOf i) r else (opBindJudge i q s).release i q

/-- A 64-bit Guard timestamp as nanoseconds, SEC[47:32] restored as those nearest to the own time (R601). -/
def State.guardNs (s : State) (v : Nat) : Nat :=
  let own := secOf s.ns
  let d := (v / 2 ^ 32 + 2 ^ 32 - own % 2 ^ 32) % 2 ^ 32
  (if d < 2 ^ 31 || own + d < 2 ^ 32 then own + d else own + d - 2 ^ 32) * 1000000000 + v % 2 ^ 32

/-- ACTION (R148, R479): the record's setpoints wait for the AEU; the first record adds the ACT check. -/
def opAction (i : Nat) (s : State) : State :=
  s.resultRec i 7 fun r sl s =>
    let pl := r.payload
    let a : ActRec :=
      { tapply := s.guardNs (le 0 8 pl), arrival := r.stamp,
        ents := (List.range r.hinfo).map fun k => (le (8 + 8 * k) 1 pl, toSigned 32 (le (12 + 8 * k) 4 pl)), judged := false,
        held := (sl.acts.flatMap (·.held)).eraseDups }
    if sl.barred then s.dropRec (s.portOf i) r
    else
      let s := s.updSlot i sl.resseq fun x => { x with
        acts := x.acts ++ [a],
        checks := if x.issued.contains actKey then x.checks else x.checks ++ [⟨actKey, 10, 0, none, 0, []⟩],
        issued := if x.issued.contains actKey then x.issued else actKey :: x.issued }
      s.release i sl.resseq

/-- A result is withdrawn (R172 to R174): its record is RETRACTED, its jobs and bank are abandoned, its positions leave the
KV copy and the stream's count returns to its CTXPOS. The bank stays ABANDONED until the VDU reinitialises it before a later result of
the stream receives it (R361, R409, R418). -/
def State.retract (s : State) (i q : Nat) (sl : Slot) : State :=
  let s := s.when ((s.st i).open_ == some q) fun s => s.closeRes i
  let past := (s.st i).olds.any fun o => decide (q < o.bound)
  let s := s.updSt i fun x => { x with retracted := q :: x.retracted, count := if past then x.count else sl.ctxpos }
  let s := s.updKv i q fun x => { x with kv := x.kv.filter fun k => !sl.kvs.contains (k.site, k.pos) }
  let s := match s.planOf i with
    | some p => (s.updKv i q fun x => x.rebuild p).vduJobs sl p.sem.rebuildJobs [0]
    | none => s
  ((s.abandonBank i q).form i q 4).release i q

/-- RETRACT (R92, R149, R172 to R175); `bnd` as for END_RESULT. -/
def opRetract (i : Nat) (bnd : State → State) (s : State) : State :=
  let p := s.portOf i
  match s.nextRec p false i with
  | none => s
  | some r =>
    if r.typ ≠ 8 then s
    else if !(s.st i).admitted then (((s.turn p r).orphan p r.stream r.resseq).dropRec p r).settle
    else
      let s := ((s.turn p r).when r.gap fun s => s.markOpenRes i).countOpen i
      let q := r.resseq
      let s := s.dropRec p { r with done := true }
      let known := (s.st i).knows q
      if r.bad then (s.markOpenRes i).settle
      else if !known then ((s.malformed p r).markOpenRes i).settle
      else
        let s := (s.inc F.TAP_SRETR_N p i).settle
        match s.slotOf i q with
        | some sl =>
          if sl.formed then (s.raiseSt (S.TAP_LATE_RETRACT.at p) i i).settle
          else if s.ns ≥ sl.deadline then ((s.form i q 1).raiseSt (S.TAP_LATE_RETRACT.at p) i i).settle
          else (bnd (s.retract i q sl)).settle.bpAll
        | none => (s.raiseSt (S.TAP_LATE_RETRACT.at p) i i).settle

/-- PAD (R149): the port's next record is ignored. -/
def opPad (p : Nat) (s : State) : State :=
  match s.nextRec p true 0 with
  | some r => if r.typ ≠ 0x1F then s else ((s.turn p r).dropRec p r).bpUpdate p
  | none => s

end Sys2Proof.Machine
end

