-- ==== Sys2Proof/Machine/Acb.lean ====
section
/-!
DEFINITION. Supervision of the accelerator: the command table, the steps of a restart attempt and the compute reset balls
(R562 to R583).
-/
namespace Sys2Proof.Machine

/-! ### The command table -/

/-- ACB_NOPEN and ACB_COPEN follow the table. -/
def State.acbCounts (s : State) : State :=
  let s := s.wr F.ACB_NOPEN_N s.acb.table.length
  s.upto (fun c s => s.wr F.ACB_COPEN_N ((s.acb.table.filter fun e => e.cls == c).length) c) 16

/-- The table's entries that satisfy a condition go without a fault (R566). -/
def State.acbDrop (s : State) (f : CmdEntry → Bool) : State :=
  ({ s with acb := { s.acb with table := s.acb.table.filter fun e => !f e } } : State).acbCounts

/-- A CMD record takes its turn (R162, R167, R562, R563); `f` acts for the record in an enabled ACB. -/
def State.cmdRec (s : State) (i typ : Nat) (f : HeldRec → State → State) : State :=
  let p := s.portOf i
  match s.nextRec p false i with
  | none => s
  | some r =>
    if r.typ ≠ typ then s
    else
      let s := s.turn p r
      let s := if !(s.st i).admitted then s.orphan p r.stream r.resseq
        else
          let s := (s.when r.gap fun s => s.markOpenRes i).countOpen i
          if r.bad then s.markOpenRes i
          else if !s.on F.ACB_CTRL_EN then s.inc F.ACB_NDISC_N
          else f r s
      (s.dropRec p { r with done := true }).settle.bpAll

/-- CMD_BEGIN (R149, R563). -/
def opCmdBegin (i : Nat) (s : State) : State :=
  s.cmdRec i 9 fun r s =>
    let id := bits 9 0 r.hinfo
    let cls := bits 19 16 r.hinfo
    if s.acb.table.any fun e => e.cmdid == id then s.raiseSt S.ACB_CMD_PROTO i cls
    else
      let e : CmdEntry := { cmdid := id, stream := i, cls := cls, opNum := 0, begunNs := r.stamp }
      ({ s with acb := { s.acb with table := s.acb.table ++ [e] } } : State).acbCounts

/-- CMD_END (R149, R563). -/
def opCmdEnd (i : Nat) (s : State) : State :=
  s.cmdRec i 10 fun r s =>
    let id := bits 9 0 r.hinfo
    let cls := bits 19 16 r.hinfo
    match s.acb.table.find? fun e => e.cmdid == id && e.cls == cls && e.stream == i with
    | none => s.raiseSt S.ACB_CMD_PROTO i cls
    | some e =>
      let s := (s.acbDrop fun x => x == e).peak F.ACB_CMAX_US ((r.stamp - e.begunNs) / 1000) cls
      if bit 24 r.hinfo then (s.markOpenRes i).raiseSt S.ACB_CMD_ERR i cls else s

/-- The next record of an entry's stream is its CMD_END: it is dispatched in this cycle (R162, R565). -/
def State.endsNow (s : State) (e : CmdEntry) : Bool :=
  match s.nextRec (s.portOf e.stream) false e.stream with
  | some r => r.typ == 10 && !r.bad && bits 9 0 r.hinfo == e.cmdid && bits 19 16 r.hinfo == e.cls && (s.st e.stream).admitted
  | none => false

/-- HANG (R26, R541, R562, R564): the entry of a CMDID reaches its class's timeout. Its CMD_END that is dispatched in that cycle counts
instead (R565). -/
def opHang (id : Nat) (s : State) : State :=
  match s.acb.table.find? fun e => e.cmdid == id with
  | none => s
  | some e =>
    if !(s.on F.ACB_CTRL_EN && s.on F.ACB_CCFG_EN e.cls) then s
    else
      let s := s.reachNs (e.begunNs + s.rd F.ACB_CCFG_TIMEOUT_US e.cls * 1000)
      if s.endsNow e then s
      else
      let s := (s.acbDrop fun x => x == e).inc F.ACB_CHANG_N e.cls
      let s := s.raiseSt S.ACB_HANG e.stream e.cls 0 e.cmdid
      let demand := s.effRestart e.stream
      let s := s.trigger e.stream
      (if demand && !s.fatal then s.holdDemand 1 else s).settle

/-! ### The end of an attempt -/

/-- The recorder has lost an attempt's event record: REC_DROP follows (R582, R769). -/
def State.acbLost (s : State) (lost : Bool) : State := s.when lost fun s => s.raise S.ERC_REC_DROP

/-- An attempt fails (R580, R581): its ledger entry, its variant, and the next attempt or RESTART_ABANDON. `cause` is the
ACB source. An F-level escalation has already ended it (R583); one that the loss of its record brings lets no other attempt start, and the
balls keep their level. -/
def State.acbFail (s : State) (cause : Nat) : State :=
  if s.rd F.ACB_STAT_STEP = 0 then s
  else
    let r := s.acbLedger 2 cause
    let lv := b2n s.accLevel
    let s := match cause with
      | 4 => r.1.wr F.ACB_STAT_LONGRST 1
      | 5 => (r.1.wr F.ACB_STAT_FULLRH 1).wr F.ACB_STAT_RELOAD 1
      | _ => r.1
    let s := (s.acbStep 0).acbLost r.2
    let s := s.when (cause == 5) fun s => s.event 19 0x41 id
    let idle (s : State) : State := { s with acb := { s.acb with rst := false } }
    if s.fatal then idle (s.wr F.ACB_CTRL_ACC_RUN lv)
    else if cause ≠ 3 && decide (s.rd F.ACB_STAT_ATTEMPT < s.acb.set.attempts) then s.acbAttempt
    else (idle s).raise S.ACB_RESTART_ABANDON

/-- One stream is admitted or re-admitted (R168, R255, R338, R473, R579, R691), in mode RESET with its context emptied (R578). Records that
still wait are orphans (R167, R185). While no draw is served its seed key waits (R690). -/
def State.readmit (s : State) (i : Nat) (reset : Bool) : State :=
  match s.planOf i with
  | none => s
  | some _ =>
    let p := s.portOf i
    let old := (s.tap p).recs.filter fun r => !r.port && r.stream == i && !r.done
    let stray := old.filter fun r => !(s.st i).retracted.contains r.resseq
    let s := (s.updTap p fun t => { t with recs := t.recs.filter fun r => r.port || r.stream != i || r.done }).heldCounts p i
    let s := (s.add F.TAP_SDISC_N old.length p i).each stray fun _ s => s.raiseSt (S.TAP_ORPHAN.at p) i i
    let t := s.ns
    let due := s.noDraws
    let (key, s) := if due then (0, s) else ((s.fresh 256).toNat, s.drewKey)
    let s := s.updSt i fun x => { x with
      admitted := true, last := none, open_ := none, bucket := 4000000000, bucketAt := t, seedKey := key, seedDue := due }
    let s := ((s.setWord R.TAP_SNEXTSEQ 0 p i).wr F.TAP_SSTAT_BLOCKED 0 p i).reseedStream i
    if reset then s.ctxReset i else s

/-- Step 7 (R356, R578, R579, R584): streams re-admitted, whose load counts again, ports unquiesced, the attempt COMPLETE, and the SSC told. -/
def State.acbReadmit (s : State) (all : Bool) : State :=
  let s := s.acbStep 7
  let s := s.each s.acb.admitted fun i s => s.readmit i (all || bit 2 s.acb.vars || bit i s.acb.set.rplMode)
  let s := s.shedEnd
  let s := s.upto (fun p s => (s.wr F.TAP_STAT_ACB_Q 0 p).unquiesce p) 2
  let s := (s.wr F.ACB_STAT_LONGRST 0).wr F.ACB_STAT_FULLRH 0
  let r := s.acbLedger 1 0
  let s := ({ r.1 with acb := { r.1.acb with admitted := [] } } : State).acbStep 0
  (s.restartDone.broadcast 0x23 1 (s.word R.ACB_RCNT)).acbLost r.2

/-! ### Steps -/

/-- A port is quiet: QUIESCED, or OFF, in which it takes no record. -/
def State.quiet (s : State) (p : Nat) : Bool := s.rd F.TAP_STAT_PSTATE p == 3 || s.rd F.TAP_STAT_PSTATE p == 0

/-- RESTART_QUIESCED (R571): step 2, both balls low and the command table cleared. -/
def opRestartQuiesced (s : State) : State :=
  if s.rd F.ACB_STAT_STEP = 1 && s.quiet 0 && s.quiet 1 then
    ({ (s.acbDrop fun _ => true) with acb := { (s.acbDrop fun _ => true).acb with rst := true } } : State).acbStep 2
  else s

/-- RESTART_RESET_LOW (R571): both readbacks show low; the hold of step 3 starts. -/
def opRestartResetLow (s : State) : State :=
  if s.rd F.ACB_STAT_STEP = 2 then ((s.wr F.ACB_STAT_RBA 0).wr F.ACB_STAT_RBB 0).acbStep 3 else s

/-- RESTART_HOLD_EXPIRY (R571, R573): step 4 releases the balls and unquiesces the RDYPORT port, whose port sequence
starts at 0. -/
def opRestartHoldExpiry (s : State) : State :=
  if s.rd F.ACB_STAT_STEP = 3 then
    let a := s.acb
    let s := s.reachCyc (a.stepAt + if bit 0 a.vars then msC a.set.rstLong else usC a.set.rstHold)
    let s := ({ s with acb := { s.acb with rst := false } } : State).acbStep 4
    let p := a.set.rdyPort
    ((s.setWord R.TAP_PNEXTSEQ 0 p).wr F.TAP_STAT_ACB_Q 0 p).unquiesce p
  else s

/-- RESTART_RESET_HIGH (R571): both readbacks show high; WAIT_READY begins. Its time-out runs from step 4 (R574). -/
def opRestartResetHigh (s : State) : State :=
  if s.rd F.ACB_STAT_STEP = 4 && s.accLevel then ((s.wr F.ACB_STAT_RBA 1).wr F.ACB_STAT_RBB 1).wr F.ACB_STAT_STEP 5 else s

/-- READY (R183, R574): the RDYPORT port's next record in WAIT_READY is checked; elsewhere it is discarded. -/
def opReady (p : Nat) (s : State) : State :=
  match s.nextRec p true 0 with
  | none => s
  | some r =>
    if r.typ ≠ 0x10 then s
    else
      let s := ((s.turn p r).dropRec p r).bpUpdate p
      if s.rd F.ACB_STAT_STEP ≠ 5 || p ≠ s.acb.set.rdyPort then s.inc F.TAP_PMAL_N p
      else
        let pl := r.payload
        let full := bit 1 s.acb.vars
        let ok := le 0 4 pl == s.word R.ACB_RCNT && le 4 1 pl == (if full then 2 else 1) &&
          le 8 4 pl == s.word R.ACB_RHN && beNat (slice 16 48 pl) == s.acb.digest
        (if !ok then (s.raise S.ACB_REHASH_BAD).acbFail 5
         else if s.acb.set.replay && !bit 2 s.acb.vars then s.acbStep 6
         else s.acbReadmit false).settle

/-- READY_TO (R574): its time runs from step 4, also while the balls are not yet high. -/
def opReadyTo (s : State) : State :=
  if s.rd F.ACB_STAT_STEP = 4 || s.rd F.ACB_STAT_STEP = 5 then
    let a := s.acb
    let s := s.reachCyc (a.stepAt + msC (if bit 1 a.vars then a.set.rdyToF else a.set.rdyTo))
    ((s.raise S.ACB_READY_TO).acbFail 4).settle
  else s

/-- REPLAY_DONE (R576): the host ends step 6. -/
def opReplayDone (s : State) : State :=
  if s.rd F.ACB_STAT_STEP = 6 then (s.acbReadmit false).settle else s.access

/-- REPLAY_TO (R577): step 6 ends by its time; every stream is re-admitted in mode RESET and SKIPRPL is set. -/
def opReplayTo (s : State) : State :=
  if s.rd F.ACB_STAT_STEP = 6 then
    let s := s.reachCyc (s.acb.stepAt + msC s.acb.set.rplTo)
    let s := s.raise S.ACB_REPLAY_TO
    if s.rd F.ACB_STAT_STEP ≠ 6 then s.settle
    else
      let s := s.wr F.ACB_STAT_SKIPRPL 1
      let s := { s with acb := { s.acb with vars := s.acb.vars ||| 4 } }
      (s.acbReadmit true).settle
  else s

/-- RST_RB (R569, R591): a ball differs from its driven level for more than 20 ns. The other ball follows the level that both
are driven to from then on (R568). -/
def opRstRb (ball : Nat) (s : State) : State :=
  let lv := b2n (!s.accLevel)
  let s := (s.raise S.ACB_RST_RB ball).acbFail 3
  let after := b2n s.accLevel
  (if ball = 0 then (s.wr F.ACB_STAT_RBA lv).wr F.ACB_STAT_RBB after
   else (s.wr F.ACB_STAT_RBB lv).wr F.ACB_STAT_RBA after).settle

/-- ACC_RUN (R568): the host writes ACB_CTRL.ACC_RUN; both balls and their readbacks follow. -/
def opAccRun (v : Bool) (s : State) : State :=
  if s.rd F.ACB_STAT_STEP ≠ 0 then s.access
  else
    let s := s.wr F.ACB_CTRL_ACC_RUN (b2n v)
    (s.wr F.ACB_STAT_RBA (b2n v)).wr F.ACB_STAT_RBB (b2n v)

/-- CLRSKIP and CLRRELOAD (R581). -/
def opClrskip (s : State) : State := s.wr F.ACB_STAT_SKIPRPL 0
def opClrreload (s : State) : State := s.wr F.ACB_STAT_RELOAD 0

/-- ACB_CCLR (R589) and ACB_CLR (R590). -/
def opAcbCclr (c : Nat) (s : State) : State := (s.setWord R.ACB_CHANG 0 c).setWord R.ACB_CMAX 0 c
def opAcbClr (s : State) : State := (s.setWord R.ACB_NDISC 0).upto (fun c s => s.setWord R.ACB_CHANG 0 c) 16

end Sys2Proof.Machine
end

