-- ==== Sys2Proof/Machine/Sio.lean ====
section
/-!
DEFINITION. The safety I/O block (R488 to R522): the 10 µs tick with filters, pair states, the function table, outputs,
test pulses, feedback and brake tests, and the host's commands of the SIO page.
-/
namespace Sys2Proof.Machine

/-- The samples of a tick: bit n is ball DCIn_A, DCIn_B, FBKn_A, FBKn_B; the captured edges as (ball, time in ns) with DCI
balls numbered n for A and 32 + n for B (R491, R514). -/
structure Samples where
  dciA : Nat
  dciB : Nat
  fbkA : Nat
  fbkB : Nat
  edges : List (Nat × Nat)

/-- One ball's filter at tick n: the filtered level and the tick since which samples differ (R492). -/
def filter1 (sample level : Bool) (dif : Option Nat) (f n : Nat) : Bool × Option Nat :=
  if sample = level then (level, none)
  else
    let n1 := dif.getD n
    if f ≤ n - n1 then (sample, none) else (level, some n1)

/-! ### Dual-channel inputs (R493 to R497) -/

/-- Demand levels of the channels; a TYPE without them takes 0 (R493, R496). -/
def demandB (type : Nat) : Bool := type == 2

/-- A filtered level of a pair takes a value, a change with its event record (R514). -/
def State.dciLevel (s : State) (n : Nat) (chB v : Bool) (edge : Nat) : State :=
  let f := if chB then F.DCI_STAT_FILTB else F.DCI_STAT_FILTA
  if s.on f n = v then s else (s.wr f (b2n v) n).sioEvent 0x40 n (b2n !v) (b2n v) edge

/-- Both filtered levels go to the demand levels and the disagreement count to 0 (R496). -/
def State.dciDemand (s : State) (n : Nat) : State :=
  let s := (s.dciLevel n false false s.ns).dciLevel n true (demandB (s.rd F.DCI_CFG_TYPE n)) s.ns
  s.updDci n fun d => { d with difA := none, difB := none, disAt := none }

/-- A pair enters a state (R494, R514). -/
def State.dciState (s : State) (n st : Nat) : State :=
  let old := s.rd F.DCI_STAT_STATE n
  if old = st then s
  else
    let t := s.sio.tick
    let s := s.wr F.DCI_STAT_STATE st n
    let s := match st with
      | 1 => s.inc F.DCI_NDEM_N n
      | 2 => s.updDci n fun d => { d with armedAt := t }
      | 4 => s.inc F.DCI_NDISC_N n
      | _ => s
    let s := s.sioEvent 0x41 n old st s.ns
    if st = 0 then s.dciDemand n else s

/-- The configuration of a pair is sampled (R491, R516, R522). -/
def State.dciConfig (s : State) (n : Nat) : State :=
  let c := s.word R.DCI_CFG n
  let td := s.word R.DCI_TD n
  let d := s.dci n
  let ty := bits 1 0 c
  let bad := (ty == 1 || ty == 2) && bit 2 c && s.rd F.DCI_CFG_TYPE (bits 7 3 c) != 3
  let new := d.cfg != c || d.cfgTd != td
  let t := s.sio.tick
  let s := s.when new fun s => (s.dciDemand n).updDci n fun d => { d with cfgAt := some t }
  let s := s.updDci n fun d => { d with bad := bad, cfg := c, cfgTd := td }
  s.when (bad && (!d.bad || new)) fun s => s.report { src := S.SIO_CFG_BAD, unit := n }

/-- One channel of a pair is filtered; a change is recorded with the time of its edge (R492, R514). -/
def State.dciFilter (s : State) (n : Nat) (chB : Bool) (v : Samples) : State :=
  let t := s.sio.tick
  let d := s.dci n
  let lev := s.on (if chB then F.DCI_STAT_FILTB else F.DCI_STAT_FILTA) n
  let sample := bit n (if chB then v.dciB else v.dciA)
  let dif := if chB then d.difB else d.difA
  let edge := match dif with
    | some _ => if chB then d.edgeB else d.edgeA
    | none => (v.edges.lookup (if chB then 32 + n else n)).getD s.ns
  let (lev', dif') := filter1 sample lev dif (s.rd F.DCI_CFG_FILT n) t
  let s := s.wr (if chB then F.DCI_STAT_RAWB else F.DCI_STAT_RAWA) (b2n sample) n
  let s := s.updDci n fun d =>
    if chB then { d with difB := dif', edgeB := edge } else { d with difA := dif', edgeA := edge }
  s.dciLevel n chB lev' edge

/-- A filtered change of a reset input's channel A: the tick of its rise is kept, and a fall answers the tick of the rise
of a pulse of 50 ms to 3 s; any other pulse raises RESET_BAD (R497). -/
def State.resetInput (s : State) (n : Nat) (was : Bool) : State × Option Nat :=
  let now := s.on F.DCI_STAT_FILTA n
  if s.rd F.DCI_CFG_TYPE n ≠ 3 || was = now then (s, none)
  else
    let t := s.sio.tick
    if now then (s.updDci n fun d => { d with riseAt := some t }, none)
    else
      match (s.dci n).riseAt with
      | none => (s, none)
      | some r =>
        let s := s.updDci n fun d => { d with riseAt := none }
        if 5000 ≤ t - r && t - r ≤ 300000 then (s, some r) else (s.report { src := S.SIO_RESET_BAD, unit := n }, none)

/-- The disagreement of a pair starts, runs on or ends (R495); it is shown on while the pair is LATCHED (R518). -/
def State.dciDisagree (s : State) (n : Nat) (dis : Bool) : State :=
  let t := s.sio.tick
  (s.wr F.DCI_STAT_DISAG (b2n dis) n).updDci n fun d => { d with disAt := if dis then some (d.disAt.getD t) else none }

/-- A pair's state at a tick (R494, R495, R516, R522). A configuration change leaves a LATCHED pair so until samples have confirmed the
demand levels that it set (log 144), and a pair in ARMED stays there while its reset input is none (R516). -/
def State.dciStep (s : State) (n : Nat) : State :=
  let t := s.sio.tick
  let ty := s.rd F.DCI_CFG_TYPE n
  let typed := ty == 1 || ty == 2
  let a := !s.on F.DCI_STAT_FILTA n
  let b := s.on F.DCI_STAT_FILTB n == demandB ty
  let d := s.dci n
  let st := s.rd F.DCI_STAT_STATE n
  let fresh := d.cfgAt == some t
  let hold := fresh || (d.cfgAt.isSome && (d.difA.isSome || d.difB.isSome))
  let s := s.updDci n fun d => { d with cfgAt := if st == 4 && a && b && hold then d.cfgAt else none }
  let dis := typed && a != b
  if !s.on F.SIO_CTRL_EN then (s.dciDisagree n false).dciState n 0
  else if st = 4 then
    let s := s.dciDisagree n dis
    if typed && !d.bad && a && b && !hold then s.dciState n 1 else s
  else if !typed || (d.bad && (st != 2 || fresh)) then (s.dciDisagree n false).dciState n 0
  else if d.bad then s.dciDisagree n dis
  else if (match d.disAt with | some n0 => decide (n0 + s.rd F.DCI_TD_D n + 1 ≤ t) | none => false) then
    ((s.dciDisagree n dis).dciState n 4).raise S.SIO_DISCREP n
  else
    let s := s.dciDisagree n dis
    match st with
    | 0 => s.dciState n 1
    | 1 => if a || b then s else s.dciState n (if s.on F.DCI_CFG_INTLK n then 2 else 3)
    | _ => if a || b then s.dciState n 1 else s

/-- A valid reset pulse acts on every pair that names its input and is in ARMED since before the rise (R497). -/
def State.resetPairs (s : State) (r rise : Nat) : State :=
  s.upto (fun n s =>
    if s.on F.DCI_CFG_INTLK n && s.rd F.DCI_CFG_RSTSEL n == r && s.rd F.DCI_STAT_STATE n == 2 &&
        !(s.dci n).bad && decide ((s.dci n).armedAt < rise) then s.dciState n 3
    else s) 32

/-- Every pair at a tick. -/
def State.dciTick (s : State) (v : Samples) : State :=
  let s := s.upto (fun n s => s.dciConfig n) 32
  let (s, pulses) := (List.range 32).foldl (fun (acc : State × List (Nat × Nat)) n =>
    let (s, ps) := acc
    let was := s.on F.DCI_STAT_FILTA n
    let s := (s.dciFilter n false v).dciFilter n true v
    let (s, r) := s.resetInput n was
    (s, match r with | some r => (n, r) :: ps | none => ps)) (s, [])
  let s := s.upto (fun n s => s.dciStep n) 32
  let s := s.each pulses fun p s => s.resetPairs p.1 p.2
  let s := s.upto (fun n s => s.wr F.DCI_STAT_DTICKS (match (s.dci n).disAt with
    | some n0 => min (allOnes 18) (s.sio.tick - n0)
    | none => 0) n) 32
  let run := sumNat ((List.range 32).map fun n => if s.rd F.DCI_STAT_STATE n = 3 then 2 ^ n else 0)
  (s.setWord R.SIO_RUNST run).wr F.SIO_STAT_NRUN ((List.range 32).filter fun n => bit n run).length

/-! ### The function table (R504, R505) -/

/-- The power state is P2 (R722). -/
def State.inP2 (s : State) : Bool := s.rd F.CLK_STAT_PSTATE == 2

/-- The failing terms of a group as BLOCK shows them (R504, R520). -/
def State.groupBlock (s : State) (g : Nat) : Nat :=
  let pairs := s.word R.SIO_G_DCI g
  let inputs := (List.range 32).any fun n => bit n pairs && s.rd F.DCI_STAT_STATE n != 3
  let sent := (s.rd F.SIO_G_CTRL_SENT g &&& s.rd F.MNT_STAT_SENT) != 0
  let strs := s.rd64 R.SIO_G_STR_LO R.SIO_G_STR_HI g
  let hold := s.on F.SIO_G_CTRL_HOLDOK g && s.pair == 4
  let verd := (List.range 64).any fun i => bit i strs && !(s.okLine i || (hold && s.rd F.SSC_SSTAT_RSTATE i == 2))
  let safe := s.aggr || s.inP2
  let en := !(s.on F.SIO_G_CTRL_EN g && s.on F.SIO_CTRL_EN)
  b2n inputs + 2 * b2n sent + 4 * b2n verd + 8 * b2n safe + 16 * b2n en

/-- Every group at a tick: permission, and requests that fall with it (R504, R505). -/
def State.groupTick (s : State) : State :=
  s.upto (fun g s =>
    let b := s.groupBlock g
    let s := (s.wr F.SIO_G_STAT_BLOCK b g).wr F.SIO_G_STAT_PERMIT (b2n (b == 0)) g
    if b ≠ 0 && !s.on F.SIO_G_CTRL_AUTORST g then s.wr F.SIO_G_STAT_ONREQ 0 g else s) 8

/-- A brake test has the output, or would have it were the block enabled (R507, R517). -/
def State.inTest (s : State) (k : Nat) : Bool :=
  s.btOut == k &&
  match s.rd F.SIO_BTSTAT_STATE with
  | 2 => s.sio.bt.grantAt.any fun g => decide (g + 100 ≤ s.sio.tick)
  | 3 | 4 => true
  | _ => false

/-- R505 commands an output ON; `test` leaves the brake-test holds out. -/
def State.wantOn (s : State) (k : Nat) (test : Bool) : Bool :=
  let g := s.rd F.SBO_CFG_GROUP k
  let o := s.sbo k
  s.on F.SIO_G_STAT_PERMIT g && s.on F.SIO_G_STAT_ONREQ g && s.on F.SBO_CFG_EN k && s.rd F.SBO_STAT_STATE k != 2 &&
    !o.need && !o.bad && (test || !(s.on F.SBO_STAT_BTFAILED k || s.on F.SBO_STAT_OVERDUE k || s.inTest k))

/-! ### Outputs (R498 to R503) -/

/-- Both feedback inputs read released (R498, R500). -/
def State.released (s : State) (k : Nat) : Bool := s.on F.SBO_STAT_FBKA k && s.on F.SBO_STAT_FBKB k

/-- A fault of an output, 1 readback, 2 test pulse, 3 feedback (R499 to R501), is raised. -/
def State.sboNote (s : State) (k cause : Nat) : State :=
  (s.wr F.SBO_STAT_LASTFLT cause k).raise (match cause with | 1 => S.SIO_READBACK | 2 => S.SIO_TESTPULSE | _ => S.SIO_FEEDBACK) (32 + k)

/-- What a fault does to its output at a tick: FAULT, with both balls at 0, or OFF as it is; one in FAULT keeps its cause (R500, R503).
A test of the output ends FAIL_FBK (R516). -/
def State.sboTrip (s : State) (k cause : Nat) : State :=
  let s := s.updSbo k fun o => { o with pend := none }
  let st := s.rd F.SBO_STAT_STATE k
  if st = 2 || st = 0 && cause = 3 then s
  else
    let s := (s.sboState k 2).sboDrive k false false
    let s := s.updSbo k fun o => { o with cause := cause, pulse := none }
    if st = 3 || (s.rd F.SIO_BTSTAT_STATE == 2 && s.btOut == k) then s.btEnd 3 0 true else s

/-- A fault of an output that a tick finds. -/
def State.sboFault (s : State) (k cause : Nat) : State := (s.sboNote k cause).sboTrip k cause

/-- A fault of an output that is found between ticks is raised at once, and the next tick acts on it (R502). A readback mismatch in FAULT
is only recorded (R499). -/
def State.sboLater (s : State) (k cause : Nat) : State :=
  let waits := (s.sbo k).pend.isSome
  if cause = 1 && (s.rd F.SBO_STAT_STATE k = 2 || waits) then s.wr F.SBO_STAT_LASTFLT 4 k
  else (s.sboNote k cause).updSbo k fun o => { o with pend := if waits then o.pend else some cause }

/-- The configuration of an output is sampled (R491, R522). -/
def State.sboConfig (s : State) (k : Nat) : State :=
  let c := s.word R.SBO_CFG k
  let bt := s.word R.SBO_BT k
  let o := s.sbo k
  let bad := bit 1 c && bit 6 bt && !s.on F.AEU_JCFG_EN (bits 5 0 bt)
  let s := s.updSbo k fun o => { o with bad := bad, cfg := c, cfgBt := bt }
  s.when (bad && (!o.bad || o.cfg != c || o.cfgBt != bt)) fun s => s.report { src := S.SIO_CFG_BAD, unit := 32 + k }

/-- The feedback inputs of an output are filtered over 100 µs (R492, R514). -/
def State.fbkFilter (s : State) (k : Nat) (v : Samples) : State :=
  let t := s.sio.tick
  let o := s.sbo k
  let (la, da) := filter1 (bit k v.fbkA) o.fLevA o.fDifA 10 t
  let (lb, db) := filter1 (bit k v.fbkB) o.fLevB o.fDifB 10 t
  let s := s.updSbo k fun o => { o with fLevA := la, fLevB := lb, fDifA := da, fDifB := db }
  let s := s.when (la != o.fLevA) fun s => s.sioEvent 0x43 (32 + k) (b2n o.fLevA) (b2n la) s.ns
  let s := s.when (lb != o.fLevB) fun s => s.sioEvent 0x43 (32 + k) (b2n o.fLevB) (b2n lb) s.ns
  let pol := s.on F.SBO_CFG_FBKPOL k
  (s.wr F.SBO_STAT_FBKA (b2n (la != pol)) k).wr F.SBO_STAT_FBKB (b2n (lb != pol)) k

/-- The ball that a test pulse holds at 0 (0: A, 1: B) in tick n of an output that is ON since tick `on`, with the tick of
its start: ball A at each period, ball B at half a period (R501). -/
def pulseAt (on per wid n : Nat) : Option (Nat × Nat) :=
  let d := n - on
  if per ≤ d && d % per < wid then some (0, n - d % per)
  else if per / 2 ≤ d && (d - per / 2) % per < wid then some (1, n - (d - per / 2) % per)
  else none

/-- The command of an output at a tick (R498, R501, R505, R517). -/
def State.sboCommand (s : State) (k : Nat) : State :=
  let t := s.sio.tick
  let want := s.wantOn k false
  let s := match s.rd F.SBO_STAT_STATE k with
    | 0 =>
      if !want then s.updSbo k fun o => { o with refused := false }
      else if s.released k then (s.updSbo k fun o => { o with refused := false, onAt := t }).sboState k 1
      else if (s.sbo k).refused then s
      else (s.updSbo k fun o => { o with refused := true }).sboFault k 3
    | 1 => if want then s else s.sboState k 0
    | 3 => if s.on F.SIO_CTRL_EN then s else s.sboState k 0
    | _ => s
  match s.rd F.SBO_STAT_STATE k with
  | 3 => s.updSbo k fun o => { o with pulse := none }
  | st =>
    let p := if st = 1 && s.on F.SBO_CFG_TPEN k then
        pulseAt (s.sbo k).onAt (100 * s.rd F.SBO_TP_TPPER k) (s.rd F.SBO_TP_TPW k) t
      else none
    let s := s.updSbo k fun o => { o with pulse := p }
    let ball (b : Nat) : Bool := st == 1 && (match p with | some (x, _) => x != b | none => true)
    s.sboDrive k (ball 0) (ball 1)

/-- The feedback timer of an output (R500): each input counts from the later of the last output change and its first
differing tick. -/
def State.feedbackTimer (s : State) (k : Nat) : State :=
  let t := s.sio.tick
  let exp := !(s.rd F.SBO_STAT_STATE k == 1 || (s.rd F.SBO_STAT_STATE k == 3 && s.on F.SBO_STAT_DRVA k))
  let o := s.sbo k
  let da := if s.on F.SBO_STAT_FBKA k = exp then none else some (o.diffA.getD t)
  let db := if s.on F.SBO_STAT_FBKB k = exp then none else some (o.diffB.getD t)
  let s := s.updSbo k fun o => { o with diffA := da, diffB := db, raised := o.raised && (da.isSome || db.isSome) }
  let lim := 100 * s.rd F.SBO_CFG_TFB k
  let late (d : Option Nat) : Bool := match d with | some n => decide (lim < t - max n o.changed) | none => false
  if (late da || late db) && !(s.sbo k).raised then (s.updSbo k fun o => { o with raised := true }).sboFault k 3 else s

/-- Whether the interval of an output is monitored (R510). -/
def State.btMonitored (s : State) (k : Nat) : Bool := s.on F.SBO_CFG_KIND k && s.on F.SBO_BT_BTEN k

/-- The interval monitor of a brake output (R510). An output that has never passed counts as overdue from its first enable with BTEN
set. -/
def State.btInterval (s : State) (k : Nat) : State :=
  let on := s.btMonitored k
  let last := s.boot.btLast.getD k 0
  let s := s.when (on && last == 0 && s.on F.SBO_CFG_EN k) fun s => s.updSbo k fun o => { o with overdue := true }
  let el := s.ns - last
  let int := s.rd F.SBO_BT_BTINT k * 3600000000000
  let late (n : Nat) : Bool := decide (last ≠ 0) && decide (n * int ≤ el)
  let due := on && (late 1 || (s.sbo k).overdue)
  let excess := on && (late 2 || (s.sbo k).overdue)
  let wasD := s.on F.SBO_STAT_DUE k
  let wasO := s.on F.SBO_STAT_OVERDUE k
  let s := (s.wr F.SBO_STAT_DUE (b2n due) k).wr F.SBO_STAT_OVERDUE (b2n excess) k
  let s := s.when (due && !wasD) fun s => s.raise S.SIO_BT_DUE (32 + k)
  s.when (excess && !wasO) fun s => s.raise S.SIO_BT_OVERDUE (32 + k)

/-! ### The brake test (R507) -/

/-- The brake test moves to a state. -/
def State.btState (s : State) (st : Nat) : State := (s.wr F.SIO_BTSTAT_STATE st).wr F.SIO_STAT_BTSTATE st

/-- The MNA grants the waiting brake test at tick t_g (R507 steps 2 and 3): the present instant, which is a slot's, is a tick. The flag
says that a test was granted. -/
def State.btGrant (s : State) : State × Bool :=
  if s.rd F.SIO_BTSTAT_STATE ≠ 1 then (s, false)
  else
    let k := s.btOut
    let j := s.rd F.SBO_BT_JOINT k
    if !(s.on F.AEU_JSTAT_AT_REST j && s.on F.AEU_JSTAT_ENC_OK j) || s.encStale j then (s.btEnd 4 2 false, true)
    else
      let tfb := s.rd F.SBO_CFG_TFB k
      let settle := s.rd F.SIO_BTTIME_SETTLE
      let hold := s.rd F.SIO_BTTIME_HOLD
      let g := max s.sio.tick (s.cyc / 8000)
      let ton := s.ns + (1 + tfb + settle) * 1000000
      let toff := ton + hold * 1000000
      let (s, ok) := s.torqueFrame k false ton toff
      if !ok then (s.btEnd 4 3 false, true)
      else
        let tonAt := g + 100 * (1 + tfb + settle)
        let s := s.updBt fun b => { b with
          grantAt := some g, tonAt := tonAt, toffAt := tonAt + 100 * hold, endAt := tonAt + 100 * (hold + settle),
          tonNs := ton, toffNs := toff, maxDev := 0 }
        (s.btState 2, true)

/-- The running test at a tick (R507, R511, R513, R516); the measured state is stale by its age at the tick (R470). -/
def State.btTick (s : State) : State :=
  let t := s.sio.tick
  let k := s.btOut
  let bt := s.sio.bt
  let j := s.rd F.SBO_BT_JOINT k
  let stop := if s.aggr then some (7, false) else if bt.stop.isSome then bt.stop else if s.inP2 then some (8, true) else none
  match s.rd F.SIO_BTSTAT_STATE, stop with
  | 0, _ => s
  | _, some (why, frame) => s.btEnd 4 why frame
  | st, none =>
    match st with
    | 1 => if bt.startAt + 100000 ≤ t then s.btEnd 4 1 false else s
    | 2 =>
      let g := bt.grantAt.getD t
      let s := s.when (t == g + 100) fun s =>
        (s.when (s.rd F.SBO_STAT_STATE k != 2 && s.on F.SIO_CTRL_EN) fun s => s.sboState k 3).sboDrive k false false
      if t = g + 100 + 100 * s.rd F.SBO_CFG_TFB k && !s.released k then s.btEnd 3 0 true
      else if t = bt.tonAt then
        match s.encStale j, (s.jt j).meas with
        | false, some (_, _, q, _) => (s.updBt fun b => { b with qref := q }).btState 3
        | _, _ => s.btEnd 4 4 true
      else s
    | 3 =>
      if bt.slip then s.btEnd 2 0 true
      else if s.encStale j then s.btEnd 4 4 true
      else if t = bt.toffAt then s.btState 4
      else s
    | 4 =>
      if bt.slip then s.btEnd 2 0 true
      else if t = bt.endAt then
        let s := s.when (s.wantOn k true) fun s =>
          ((s.sboState k 1).updSbo k fun o => { o with onAt := t }).sboDrive k true true
        s.btEnd 1 0 false
      else s
    | _ => s

/-! ### The tick (R491) -/

/-- One tick with its samples: faults found since the last one take their outputs first, and the interval monitor is judged before the
commands that it holds back. An output that leaves TEST for OFF at a tick is OFF in it (R507). -/
def State.sioTick (s : State) (v : Samples) : State :=
  let s := s.reachCyc (8000 * (s.sio.tick + 1))
  let s := { s with sio := { s.sio with tick := s.sio.tick + 1 } }
  let s := s.when (s.aggr && !s.sio.seen) fun s => s.upto (fun g s => s.wr F.SIO_G_STAT_ONREQ 0 g) 8
  let seen := s.aggr
  let s := { s with sio := { s.sio with seen := seen } }
  let s := s.upto (fun k s => match (s.sbo k).pend with | some c => s.sboTrip k c | none => s) 24
  let s := s.dciTick v
  let s := s.upto (fun k s => (s.sboConfig k).fbkFilter k v) 24
  let s := s.upto (fun k s => s.btInterval k) 24
  let s := s.groupTick
  let test := (List.range 24).filter fun k => s.rd F.SBO_STAT_STATE k == 3
  let s := s.btTick
  let left := test.filter fun k => s.rd F.SBO_STAT_STATE k == 0
  let s := s.upto (fun k s => if left.contains k then s else s.sboCommand k) 24
  let s := s.upto (fun k s => s.feedbackTimer k) 24
  (s.wr F.SIO_STAT_FORCED (b2n s.aggr)).wr F.SIO_STAT_STATE (if s.on F.SIO_CTRL_EN then 2 else 0)

/-- The samples of the last tick, held. -/
def State.heldSamples (s : State) : Samples :=
  let word (n : Nat) (f : Nat → Bool) : Nat := sumNat ((List.range n).map fun i => if f i then 2 ^ i else 0)
  { dciA := word 32 fun n => s.on F.DCI_STAT_RAWA n
    dciB := word 32 fun n => s.on F.DCI_STAT_RAWB n
    fbkA := word 24 fun k => (s.sbo k).fLevA != (s.sbo k).fDifA.isSome
    fbkB := word 24 fun k => (s.sbo k).fLevB != (s.sbo k).fDifB.isSome
    edges := [] }

/-- A number of ticks pass with the samples held. -/
def State.heldTicks (s : State) : Nat → State
  | 0 => s
  | n + 1 => (s.sioTick s.heldSamples).heldTicks n

/-- Ticks pass with the samples held until tick `n` has been evaluated. -/
def State.ticksTo (s : State) (n : Nat) : State := s.heldTicks (n - s.sio.tick)

/-- SIO_TICK (R491). -/
def opSioTick (dciA dciB : BitVec 32) (fbkA fbkB : BitVec 24) (edges : List (Nat × Nat)) (s : State) : State :=
  s.sioTick ⟨dciA.toNat, dciB.toNat, fbkA.toNat, fbkB.toNat, edges⟩

/-- FILTER_CHANGE (R492): a ball's differing sample persists until its filter time has passed. -/
def opFilterChange (fbk : Bool) (n : Nat) (chB : Bool) (s : State) : State :=
  let dif := if fbk then (if chB then (s.sbo n).fDifB else (s.sbo n).fDifA)
    else if chB then (s.dci n).difB else (s.dci n).difA
  match dif with
  | some n1 => s.ticksTo (n1 + (if fbk then 10 else s.rd F.DCI_CFG_FILT n))
  | none => s

/-- DISCREP (R495): a disagreement persists to tick n₀ + D + 1. -/
def opDiscrep (n : Nat) (s : State) : State :=
  match (s.dci n).disAt with
  | some n0 => s.ticksTo (n0 + s.rd F.DCI_TD_D n + 1)
  | none => s

/-- FEEDBACK (R500): a differing feedback input persists beyond T_fb. -/
def opFeedback (k : Nat) (s : State) : State :=
  let o := s.sbo k
  let due (d : Option Nat) : List Nat := d.toList.map fun n => max n o.changed + 100 * s.rd F.SBO_CFG_TFB k + 1
  match due o.diffA ++ due o.diffB with
  | [] => s
  | n :: ns => s.ticksTo (ns.foldl min n)

/-- READBACK (R499, R501): the levels at an output's balls, judged more than 2 µs after the tick. -/
def opReadback (k : Nat) (a b : Bool) (s : State) : State :=
  let s := (s.wr F.SBO_STAT_RBA (b2n a) k).wr F.SBO_STAT_RBB (b2n b) k
  if a = s.on F.SBO_STAT_DRVA k && b = s.on F.SBO_STAT_DRVB k then s
  else s.sboLater k (if s.rd F.SBO_STAT_STATE k != 2 && (s.sbo k).pulse.isSome then 2 else 1)

/-- TEST_PULSE_START (R501): ticks pass to the next pulse of an output that is ON. -/
def opTestPulseStart (k : Nat) (s : State) : State :=
  let per := 100 * s.rd F.SBO_TP_TPPER k
  let d := s.sio.tick - (s.sbo k).onAt
  if s.rd F.SBO_STAT_STATE k = 1 && s.on F.SBO_CFG_TPEN k then
    s.ticksTo ((s.sbo k).onAt + (d / (per / 2) + 1) * (per / 2))
  else s

/-- TEST_PULSE_END (R501): ticks pass to the end of the running pulse; then the balls read the given levels. -/
def opTestPulseEnd (k : Nat) (a b : Bool) (s : State) : State :=
  match (s.sbo k).pulse with
  | none => s
  | some (_, n) =>
    let s := s.ticksTo (n + s.rd F.SBO_TP_TPW k)
    let s := (s.wr F.SBO_STAT_RBA (b2n a) k).wr F.SBO_STAT_RBB (b2n b) k
    if s.rd F.SBO_STAT_STATE k = 1 && !(a && b) then s.sboLater k 2 else s

/-- GROUP_ON (R505): the request is set, and outputs whose latch was released take it as their new request (R503). -/
def opGroupOn (g : Nat) (s : State) : State :=
  let s := s.wr F.SIO_G_STAT_ONREQ 1 g
  s.upto (fun k s => s.when (s.rd F.SBO_CFG_GROUP k == g) fun s => s.updSbo k fun o => { o with need := false }) 24

/-- GROUP_OFF (R505). -/
def opGroupOff (g : Nat) (s : State) : State := s.wr F.SIO_G_STAT_ONREQ 0 g

/-- RELATCH (R503). -/
def opRelatch (k : Nat) (s : State) : State :=
  if s.rd F.SBO_STAT_STATE k ≠ 2 then s
  else
    let gone := if (s.sbo k).cause = 3 then s.released k else !s.on F.SBO_STAT_RBA k && !s.on F.SBO_STAT_RBB k
    if !gone then s.access
    else (s.updSbo k fun o => { o with need := true, cause := 0, diffA := none, diffB := none, raised := false }).sboState k 0

/-- A START is refused while a test runs, and for an output that is no brake output (R507, R516). -/
def State.btRefused (s : State) (k : Nat) : Bool :=
  s.rd F.SIO_BTSTAT_STATE != 0 || !(decide (k < 24) && s.on F.SBO_CFG_KIND k)

/-- BT_START (R507, R516): a refused write is discarded with ACCESS. -/
def opBtStart (k : Nat) (s : State) : State :=
  if s.btRefused k then s.access
  else
    let t := s.sio.tick
    let s := (s.wr F.SIO_BTCMD_OUT k).updBt fun _ => { Bt.reset with startAt := t }
    (((s.wr F.SIO_BTSTAT_OUT k).wr F.SIO_BTSTAT_RESULT 0).wr F.SIO_BTSTAT_WHY 0).btState 1

/-- BT_ABORT (R516): the next tick ends the test. -/
def opBtAbort (s : State) : State := s.btStop 6

/-- BT_NOGRANT (R507): a second passes without a grant. -/
def opBtNogrant (s : State) : State :=
  if s.rd F.SIO_BTSTAT_STATE = 1 then s.ticksTo (s.sio.bt.startAt + 100000) else s

/-- BT_ENGAGE (R507 step 4). -/
def opBtEngage (s : State) : State :=
  match s.rd F.SIO_BTSTAT_STATE, s.sio.bt.grantAt with
  | 2, some g => s.ticksTo (g + 100)
  | _, _ => s

/-- BT_FBK_DEADLINE (R507 step 4). -/
def opBtFbkDeadline (s : State) : State :=
  match s.rd F.SIO_BTSTAT_STATE, s.sio.bt.grantAt with
  | 2, some g => s.ticksTo (g + 100 + 100 * s.rd F.SBO_CFG_TFB s.btOut)
  | _, _ => s

/-- BT_TORQUE (R507 step 5). -/
def opBtTorque (s : State) : State := if s.rd F.SIO_BTSTAT_STATE = 2 then s.ticksTo s.sio.bt.tonAt else s

/-- BT_RELEASE (R507 step 6). -/
def opBtRelease (s : State) : State :=
  if s.rd F.SIO_BTSTAT_STATE = 3 || s.rd F.SIO_BTSTAT_STATE = 4 then s.ticksTo s.sio.bt.endAt else s

/-- BT_DUE and BT_OVERDUE (R510): ticks pass with the samples held to the one at which the elapsed time of a monitored brake output is
one or two intervals, which for an output that never passed is the next tick. -/
def State.btElapse (s : State) (k m : Nat) : State :=
  if s.btMonitored k then
    let last := s.boot.btLast.getD k 0
    let due := (s.reachNs (last + m * s.rd F.SBO_BT_BTINT k * 3600000000000)).cyc
    s.ticksTo (if last = 0 then s.sio.tick + 1 else max (s.sio.tick + 1) (ceilDiv due 8000))
  else s
def opBtDue (k : Nat) (s : State) : State := s.btElapse k 1
def opBtOverdue (k : Nat) (s : State) : State := s.btElapse k 2

/-- DCI_SCLR (R518). -/
def opDciSclr (n : Nat) (s : State) : State := (s.setWord R.DCI_NDEM 0 n).setWord R.DCI_NDISC 0 n

end Sys2Proof.Machine
end

