-- ==== Sys2Proof/Machine/Mantis.lean ====
section
/-!
DEFINITION. The rows of the Mantis pair (R426 to R467): policy and monitor steps, hold commands, SAR job starts,
self-test slots and the return of an engine.
-/
namespace Sys2Proof.Machine

/-! ### Engines (R435, R458, R459) -/

/-- Jobs of an engine pass to the other one's queue; those that find no room leave the pair, and count as aborted (R458, R463). -/
def State.redirect (s : State) (e : Nat) : State :=
  let o := 1 - e
  let x := s.sh e
  let js := (x.run.toList ++ x.queue).map fun j => { j with on := none }
  let room := 32 - (s.sh o).queue.length
  let s := (s.updSh e fun x => { x with run := none, queue := [] }).wr F.SH_SARQ_N 0 e
  let s := s.updSh o fun y => { y with queue := y.queue ++ js.take room }
  let s := s.wr F.SH_SARQ_N (s.sh o).queue.length o
  (s.add F.SH_SARABORT_N (js.drop room).length e).each (js.drop room) fun j s => s.sarMove j

/-- An engine goes OUT (R41, R426, R428, R435, R442): in SPLIT the running job and the queued ones pass to the other engine, in SINGLE
every SAR check of the pair ends NOT DONE. In HANDOVER, LOCK_IDLE and HOLD no comparison is left and the pair enters SINGLE as R41 says,
which R426's table does not list (DEDUCED, log 114); in PROBE the other engine's slot decides. -/
def State.shOut (s : State) (e : Nat) : State :=
  let x := s.sh e
  if x.out then s
  else
    let wasWarm := s.pair == 1 && s.warmEng == e
    let s := s.updSh e fun x => { x with out := true, testing := false, wasReset := false, probed := false }
    match s.pair with
    | 1 =>
      let s := s.redirect e
      let s := s.cold.updMnt fun m => { m with step := none, reload := false, mstep := if wasWarm then m.mstep else none }
      s.pairTo 6
    | 6 => ((s.cold.sarStop fun j s => s.sarLost false j).updMnt fun m => { m with mstep := none }).pairTo 7
    | 2 | 3 | 4 =>
      let s := { s with tsn := s.tsn.dropHold s.ns }
      (s.cold.updMnt fun m => { m with
        step := none, reload := false, mstep := none, release := none, again := false, split := false, demandAt := none, fails := 0,
        mrun := SnRun.reset, shs := m.shs.map Sh.freshMon, monK := none }).pairTo 6
    | 5 =>
      let y := s.sh (1 - e)
      if y.testing && !y.out then s.pairView else s.pairTo (if y.out then 7 else 6)
    | _ => s.pairView

/-- An engine goes OUT by a source: of its own page, or 16 for ENG_FREQ; the source's cause persists until its reset (R526). -/
def State.shOutBy (s : State) (e cause : Nat) : State := (s.updSh e fun x => { x with causes := cause :: x.causes }).shOut e

/-- A CKSUM_ERR of an engine is counted; a second one within 1 s puts the engine OUT (R435, R463). -/
def State.cksumSeen (s : State) (e : Nat) : State :=
  let old := (s.sh e).ckAt
  let t := s.cyc
  let s := (s.inc F.SH_CKSUM_N e).updSh e fun x => { x with ckAt := some t }
  match old with
  | some c => if t - c ≤ secC 1 then s.shOutBy e 2 else s
  | none => s

/-- CKSUM_ERR of an engine, as a command that judges an execution raises it (R435). -/
def State.cksumErr (s : State) (e : Nat) : State := (s.raise (S.SH_CKSUM_ERR.at e)).cksumSeen e

/-- CKSUM_ERR of the repeat of a step that a hold demand overtook: the state is COLD and the handover goes on, so the engine stays
(R461, R463; DEDUCED, log 168: R435 alone would put it OUT). -/
def State.cksumCount (s : State) (e : Nat) : State :=
  let t := s.cyc
  ((s.raise (S.SH_CKSUM_ERR.at e)).inc F.SH_CKSUM_N e).updSh e fun x => { x with ckAt := some t }

/-- MACs are counted (R463). -/
def State.macs (s : State) (e n : Nat) : State := s.add64 R.SH_MACS_LO R.SH_MACS_HI n e

/-- Whether an engine takes part in the step of the present state: the warm engine in SPLIT, both in LOCK. -/
def State.stepMacs (s : State) (n : Nat) : State := if s.pair = 1 then s.macs s.warmEng n else (s.macs 0 n).macs 1 n

/-! ### Policy steps (R449 to R454) -/

/-- The first step from `k` on that lies in none of the intervals of steps that have run; each interval is left at most once. -/
def freeStep (ran : List (Int × Int)) : Nat → Int → Int
  | 0, k => k
  | n + 1, k =>
    match ran.find? fun x => decide (x.1 ≤ k) && decide (k ≤ x.2) with
    | some x => freeStep ran n (x.2 + 1)
    | none => k

/-- Step `k` has run; it lengthens the newest interval where it follows it. -/
def noteStep (k : Int) : List (Int × Int) → List (Int × Int)
  | (a, b) :: xs => if b + 1 = k then (a, k) :: xs else (k, k) :: (a, b) :: xs
  | [] => [(k, k)]

/-- The first step whose instant is not past and that has not run (R449, R596). -/
def State.nextK (s : State) (im : SnImage) : Int :=
  let p : Int := max 1 (im.periodUs * 1000 : Nat)
  freeStep s.mnt.ran s.mnt.ran.length (-Int.fdiv (-((s.ns : Int) - s.stepNs im 0)) p)

/-- The NOUT setpoints of a hold step (R452): a joint that no OUTPUT layer gives has no stated setpoint, a free value. -/
def State.padOuts (s : State) (nout : Nat) (outs : List Int) : List Int × State :=
  let n := nout - outs.length
  if n = 0 then (outs, s)
  else
    let v := (s.fresh (32 * n)).toNat
    (outs ++ (List.range n).map fun j => toSigned 32 (v / 2 ^ (32 * j) % 2 ^ 32), s.drew)

/-- A warm step completes (R441, R444, R451): on a requested split the pair returns to SPLIT, the monitor from its initial
state. -/
def State.warmDone (s : State) (r : StepRun) (bad : Bool) : State :=
  let s :=
    if r.failed || bad then (s.raise S.MNT_WARM_MISS).cold
    else
      let s := s.updMnt fun m => { m with warm := m.warm + 1, last := if r.offGrid then none else some r }
      s.wr F.MNT_STAT_WARM (b2n s.isWarm)
  if s.pair = 3 && s.mnt.split then s.toSplit else s

/-- Whether an engine runs the policy steps of the present pair state: the warm engine in SPLIT, both in LOCK (R426, R449). -/
def State.stepsOn (s : State) (e : Nat) : Bool := s.pair != 1 || s.warmEng == e

/-- The step of instant t_k takes its inputs and runs on its engines, in their local buffers (R424, R449, R450). -/
def State.startStep (s : State) (im : SnImage) (k : Int) (poison : Bool) : State :=
  let t := (s.stepNs im k).toNat
  let e := s.warmEng
  let x := s.sh e
  let (run, stale, fail) := snInputs im s.mnt.frames t x.hrun
  let (run, st, outs) := snRunAll false im run x.policy
  let (outs, s) := s.padOuts im.nout outs
  let hold := s.pair == 4
  let s := s.updMnt fun m => { m with
    ran := noteStep k m.ran, reload := poison,
    step := some { k := k, outs := outs, stale := stale, failed := fail, hold := hold, offGrid := false, queued := false, tapply := 0, eng := e } }
  let s := s.upto (fun e s => s.when (s.stepsOn e) fun s => s.updSh e fun x => { x with hrun := run, policy := st }) 2
  let s := s.stepMacs im.macs
  s.when poison fun s => s.raise S.MNT_SST_UE

/-- POLICY_STEP_START (R449, R450): at t_k the step takes its inputs and runs, warm in SPLIT and LOCK_IDLE, as a hold step in
HOLD. `poison` says that a sentinel row it read is poisoned: it is repeated after the reload (R46). A warm step that still waits for
its reload at the next step's instant cannot complete: WARM_MISS (R46, R451). -/
def opPolicyStepStart (poison : Bool) (s : State) : State :=
  match s.mnt.hold with
  | none => s
  | some im =>
    if !s.engClk || s.pair ≠ 1 && s.pair ≠ 3 && s.pair ≠ 4 then s
    else
      let k := s.nextK im
      match s.mnt.step with
      | none => (s.reachNs (s.stepNs im k).toNat).startStep im k poison
      | some r =>
        if !s.mnt.reload || r.hold then s
        else
          let s := s.reachNs (s.stepNs im k).toNat
          ((s.updMnt fun m => { m with step := none, reload := false }).warmDone r true).startStep im k poison

/-- ROW_RELOAD_DONE (R46): the step that read the row is repeated with the reloaded contents. -/
def opRowReloadDone (s : State) : State :=
  match s.mnt.hold with
  | some im => (s.when (s.mnt.reload && s.mnt.step.isSome) fun s => s.stepMacs im.macs).updMnt fun m => { m with reload := false }
  | none => s.updMnt fun m => { m with reload := false }

/-- POLICY_STEP_DONE (R451, R435): `ck` counts the step's checksum disagreements in SPLIT: after one the step is run
again, after two it fails and the engine goes OUT, as it does at the first where it is the second within 1 s. Of a step that a hold demand overtook, the second makes the policy state COLD
and the handover goes on (R461). -/
def opPolicyStepDone (ck : Nat) (s : State) : State :=
  match s.mnt.hold, s.mnt.step with
  | some im, some r =>
    if s.mnt.reload || !s.engClk then s
    else
      let s := s.updMnt fun m => { m with step := none }
      if r.hold && s.pair = 4 then s.holdJudge im r
      else
        let e := r.eng
        let overtaken := s.pair == 2
        let ck := if s.pair = 1 || s.pair = 2 then ck else 0
        let s := s.when (decide (1 ≤ ck)) fun s => s.cksumErr e
        if (s.sh e).out then s
        else
          let s := (s.when (decide (1 ≤ ck)) fun s => s.macs e im.macs).warmDone r (decide (2 ≤ ck))
          s.when (decide (2 ≤ ck)) fun s => if overtaken then s.cksumCount e else (s.cksumErr e).shOutBy e 2
  | _, _ => s

/-- Time passes to 5 µs before the launch instant of a step. -/
def State.lateStep (s : State) (im : SnImage) (r : StepRun) : State := s.reachNs (s.launchNs im r.k - 5000).toNat

/-- HOLD_STEP_DEADLINE (R451): L_k − 5 µs of the step in hand passes and its frame has not entered its queue. In the safe
state the pair launches no frame (R455), and no step fails for that. -/
def opHoldStepDeadline (s : State) : State :=
  match s.mnt.hold with
  | none => s
  | some im =>
    if s.pair ≠ 4 || s.fatal then s
    else
      match s.mnt.step, s.mnt.last with
      | some r, _ =>
        if r.hold then ((s.lateStep im r).updMnt fun m => { m with step := none, reload := false }).holdFail 0 else s
      | none, some r => if r.hold && !r.queued then (s.lateStep im r).holdFail 0 else s
      | none, none => s

/-- A hold ends at a launch (R443): LOCK_IDLE, and HOLD again at once where a demand has arrived since (R461). -/
def State.holdEnd (s : State) : State :=
  let again := s.mnt.again
  let s := s.updMnt fun m => { m with
    release := none, again := false, demandAt := none, last := none, step := m.step.map fun r => { r with hold := false } }
  let s := s.pairTo 3
  s.when again fun s => s.holdEnter

/-- The launch instant to come of the hold in ns (R443, R452). -/
def State.nextLaunchNs (s : State) (im : SnImage) : Nat :=
  let p : Int := max 1 (im.periodUs * 1000 : Nat)
  (s.launchNs im (-Int.fdiv (-((s.ns : Int) - s.launchNs im 0)) p)).toNat

/-- HOLD_FRAME_LAUNCH (R443, R452, R455): at L_k the frame of a judged step launches and its setpoints become the last accepted
commands of their joints. -/
def opHoldFrameLaunch (s : State) : State :=
  match s.mnt.hold with
  | none => s
  | some im =>
    if s.pair ≠ 4 then s
    else
      let s := match s.mnt.last with
        | some r =>
          if r.hold && r.queued then
            let s := s.reachNs (s.launchNs im r.k).toNat
            if s.fatal then s.updMnt fun m => { m with last := none }
            else
              let s := s.each ((List.range r.outs.length).zip r.outs) fun (j, p) s => (s.accept j p r.tapply true).heldJoint j
              (s.inc F.MNT_HOLDSTEPS_N).updMnt fun m => { m with last := none }
          else s
        | none => match s.mnt.release with | some t => s.reachNs t | none => s
      match s.mnt.release with
      | some t => if t ≤ s.ns then s.holdEnd else s
      | none => s

/-! ### Host commands (R27, R443, R444) -/

/-- HOLD_REQ (R27). -/
def opHoldReq (s : State) : State := s.holdDemand 2

/-- HOLD_RELEASE (R443): a demand of the same cycle brings the pair into HOLD again (R461). -/
def opHoldRelease (s : State) : State :=
  match s.mnt.hold with
  | some im =>
    if s.pair = 4 && !s.on F.SSC_STAT_RESTART then
      let t := s.nextLaunchNs im
      let now := s.cyc
      s.updMnt fun m => { m with release := some t, again := m.demandAt == some now }
    else s.access
  | none => s.access

/-- SPLIT_REQ (R444). Without a hold image there is no warm step to wait for. -/
def opSplitReq (s : State) : State :=
  if s.pair ≠ 3 then s.access
  else if s.mnt.hold.isSome then s.updMnt fun m => { m with split := true }
  else s.toSplit

/-- HANDOVER_DONE (R439 to R441). -/
def opHandoverDone (bad : Nat) (s : State) : State := if s.engClk then s.handoverDone bad else s

/-! ### The monitor (R456, R457) -/

/-- The engine that runs the monitor: the one that is not warm in SPLIT, none while that engine is in a slot; the
remaining one in SINGLE. -/
def State.monEng (s : State) : Option Nat :=
  match (if s.engClk then s.pair else 0) with
  | 1 => let e := 1 - s.warmEng; if (s.sh e).testing then none else some e
  | 6 => if (s.sh 0).out then some 1 else some 0
  | _ => none

/-- MONITOR_STEP_START (R456). -/
def opMonitorStepStart (s : State) : State :=
  match s.mnt.mon, s.mnt.mstep, s.monEng with
  | some im, none, some e =>
    let p := max 1 (im.periodUs * 1000)
    let k := max (ceilDiv s.ns p) (match s.mnt.monK with | some l => l + 1 | none => 0)
    let s := s.reachNs (k * p)
    let (run, stale, fail) := snInputs im s.mnt.frames (k * p) { s.mnt.mrun with acts := (s.sh e).mact, wide := (s.sh e).mwide }
    let (run, _, outs) := snRunAll true im run []
    let s := s.updMnt fun m => { m with
      mrun := { run with acts := [], wide := [] }, monK := some k,
      mstep := some { k := k, outs := outs, stale := stale, failed := fail, hold := false, offGrid := false, queued := false, tapply := 0, eng := e } }
    (s.updSh e fun x => { x with mact := run.acts, mwide := run.wide }).macs e im.macs
  | _, _, _ => s

/-- MONITOR_STEP_DONE (R435, R456): the alarm lines follow the scores of a completed step. -/
def opMonitorStepDone (ck : Nat) (s : State) : State :=
  match s.mnt.mon, s.mnt.mstep, s.monEng with
  | some im, some r, some e =>
    let s := s.updMnt fun m => { m with mstep := none }
    let s := s.when (decide (1 ≤ ck)) fun s => s.cksumErr e
    if (s.sh e).out then s
    else
    let s := s.when (decide (1 ≤ ck)) fun s => s.macs e im.macs
    if 2 ≤ ck then (s.cksumErr e).shOutBy e 2
    else if r.failed then s
    else
      let hit := ((r.outs.zip (snThresholds im)).zip (List.range 8)).filter fun x => decide (x.1.2 ≤ x.1.1)
      s.setSent (sumNat (hit.map fun x => 2 ^ x.2))
  | _, some _, none => s.updMnt fun m => { m with mstep := none }
  | _, _, _ => s

/-- A warm or monitor step is on an engine, and its SAR job waits (R438). -/
def State.preempted (s : State) (e : Nat) : Bool :=
  (s.pair == 1 && s.warmEng == e && s.mnt.step.isSome) || (s.mnt.mstep.isSome && s.monEng == some e)

/-! ### SAR jobs (R437) -/

/-- One job goes before another: class, then order of enqueue, then stream (R291, R437). -/
def SarJob.before (a b : SarJob) : Bool :=
  a.cls < b.cls || (a.cls == b.cls && (a.order < b.order || (a.order == b.order && a.stream < b.stream)))

/-- The job an engine takes from a queue. -/
def sarHead : List SarJob → Option SarJob
  | [] => none
  | j :: js => match sarHead js with | some k => if k.before j then some k else some j | none => some j

/-- KV tiles of 128 positions as they lie double-buffered in the staging area (R424): the first two that a job reads, or the last two, each
position with its K and V elements. -/
def State.sarTiles (s : State) (j : SarJob) (last : Bool) : List KvRow :=
  match s.slotOf j.stream j.resseq, s.planOf j.stream with
  | some r, some p =>
    match p.pairs[j.pair]? with
    | some (a, h) =>
      let pos := r.ctxpos + (if last then r.ntok - 1 else 0)
      let n := a.attended pos
      let k := if last then 128 * (ceilDiv n 128 - 2) else 0
      let part (o : Nat) (cs : List Nat) : List Nat := (cs.drop (o + h * a.dHead)).take a.dHead
      (((s.st j.stream).asOf j.resseq).kv.filter fun y =>
        y.site == a.kvSite && decide (a.from_ pos + k ≤ y.pos) && decide (y.pos < a.from_ pos + min n (k + 256))).map fun y =>
          { y with codes := part a.kOff y.codes ++ part a.vOff y.codes }
    | none => []
  | _, _ => []

/-- SAR_JOB_START (R273, R435, R437, R438): a free engine takes the head of its own queue, or of the other one's, of which jobs that
must run there stay; none while a warm or monitor step is on it. -/
def opSarJobStart (e : Nat) (s : State) : State :=
  let s := s.sarTrim.sarFeed
  if !s.engClk || !s.sarEng e || (s.sh e).testing || (s.sh e).run.isSome || s.preempted e then s
  else
    let q := if (s.sh e).queue.isEmpty then 1 - e else e
    match sarHead ((s.sh q).queue.filter fun j => j.on.all (· == e)) with
    | none => s
    | some j =>
      let s := s.updSh q fun x => { x with queue := x.queue.erase j }
      let s := s.wr F.SH_SARQ_N (s.sh q).queue.length q
      let tiles := s.sarTiles j false
      s.updSh e fun x => { x with run := some j, stage := tiles }

/-! ### Self-test slots (R458, R459) -/

/-- The first instant of a grid of slots after the present (R458). -/
def nextSlot (base per now : Nat) : Nat := if now < base then base else base + per * ((now - base) / max 1 per + 1)

/-- MANTIS_SELFTEST_START (R458): the slot that is due starts; when SAR work has kept it waiting for MNT_STPER, the queue
passes to the other engine. For SH0's slot the policy state goes to SH1. -/
def opMantisSelftestStart (e : Nat) (s : State) : State :=
  let x := s.sh e
  if !s.engClk || s.pair ≠ 1 || x.out || x.testing || (s.sh (1 - e)).testing then s
  else
    let per := msC (s.rd F.MNT_STPER_MS)
    let s := s.reachCyc x.slotAt
    let s := s.when (x.run.isSome || !x.queue.isEmpty) fun s => (s.reachCyc (x.slotAt + per)).redirect e
    let s := s.when (e == 0) fun s => s.copyPolicy 0 1
    let t := nextSlot x.slotAt per s.cyc
    (s.updSh e fun x => { x with testing := true, slotAt := t }).pairView

/-- An engine whose return the host has asked for returns once it has been reset and has passed its probe slot since, to SPLIT or from
DOWN to SINGLE (R426, R459, R462); its slots keep half a period from the other engine's (R458). -/
def State.shTry (e : Nat) (s : State) : State :=
  let x := s.sh e
  if !(s.on F.SH_CTRL_RETURN e && x.out && x.wasReset && x.probed && decide (6 ≤ s.pair)) then s
  else
    let per := msC (s.rd F.MNT_STPER_MS)
    let t := nextSlot ((s.sh (1 - e)).slotAt + per / 2) per s.cyc
    let s := s.updSh e fun x => { x with
      out := false, causes := [], ckAt := none, wasReset := false, probed := false, slotAt := t }
    let s := s.wr F.SH_CTRL_RETURN 0 e
    if s.pair = 7 then (s.cold.updMnt fun m => { m with mrun := SnRun.reset, shs := m.shs.map Sh.freshMon, monK := none }).pairTo 6
    else s.cold.pairTo 1

/-- PROBE is left when the slots of the engines that are not OUT have ended (R426, R433). -/
def State.probeEnd (s : State) : State :=
  let waits (e : Nat) : Bool := (s.sh e).testing && !(s.sh e).out
  if waits 0 || waits 1 then s.pairView
  else
    let s := match (s.sh 0).out, (s.sh 1).out with
      | true, true => s.pairTo 7
      | false, false => (s.updMnt fun m => { m with mrun := SnRun.reset, shs := m.shs.map Sh.freshMon, monK := none }).pairTo 1
      | _, _ => (s.updMnt fun m => { m with mrun := SnRun.reset, shs := m.shs.map Sh.freshMon, monK := none }).pairTo 6
    (s.shTry 0).shTry 1

/-- MANTIS_SELFTEST_DONE (R426, R433, R458, R459): the slot has cleared the engine's local buffer; after SH0's slot in SPLIT SH1 copies
the policy state back. The probe slot of an engine that is OUT leaves it so until its return, and one that fails asks for another
reset (R459). -/
def opMantisSelftestDone (e : Nat) (pass : Bool) (s : State) : State :=
  let x := s.sh e
  if !x.testing || !s.engClk then s
  else
    let s := (if pass then s.inc F.SH_STCNT_PASS e else s.inc F.SH_STCNT_FAIL e).wr F.SH_STAT_STPASS (b2n pass) e
    let s := s.updSh e fun x => { x.clearBuf with testing := false }
    let s := s.when (!pass) fun s => s.raise (S.SH_STEST_FAIL.at e)
    let s := s.when (!pass && (x.out || s.pair == 5)) fun s =>
      s.updSh e fun x => { x with out := true, wasReset := false, probed := false, causes := 3 :: x.causes }
    if x.out then ((s.updSh e fun x => { x with probed := pass }).pairView).shTry e
    else if s.pair = 5 then s.probeEnd
    else if pass then (s.when (s.pair == 1 && e == 0) fun s => s.copyPolicy 1 0).pairView
    else s.shOutBy e 3

/-- SH_RETURN (R459, R462): RETURN reads 1 until the engine is in service, and the engine returns once the steps before are done. -/
def opShReturn (e : Nat) (s : State) : State :=
  if (s.sh e).out then (s.wr F.SH_CTRL_RETURN 1 e).shTry e else s

/-- The block reset of a Mantis engine (R67): its SAR jobs leave it, a self-test slot and a step of its are lost, and its RO status
returns to reset. In HANDOVER, LOCK_IDLE and HOLD it breaks the lock, and the engine goes OUT (log 142). For an engine that is OUT it is
step 1 of R459, and the probe slot of step 2 follows. -/
def State.shReset (s : State) (e : Nat) : State :=
  let s := (s.wr F.SH_STAT_STPASS 0 e).when (decide (2 ≤ s.pair) && decide (s.pair ≤ 4)) fun s => s.shOut e
  if (s.sh e).out then
    (s.updSh e fun x => { x with wasReset := true, probed := false, testing := true, ckAt := none, causes := [] }).pairView
  else
    let js := (s.sh e).run.toList ++ (s.sh e).queue
    let warm := s.pair == 1 && s.warmEng == e
    let s := (s.add F.SH_SARABORT_N js.length e).wr F.SH_SARQ_N 0 e
    let s := s.updSh e fun x => { x with run := none, queue := [], testing := s.pair == 5 && x.testing, ckAt := none }
    let s := s.each js fun j s => s.sarMove j
    let s := if warm then s.cold.updMnt fun m => { m with step := none, reload := false }
      else if s.pair = 1 || s.pair = 6 then s.updMnt fun m => { m with mstep := none, mrun := SnRun.reset, shs := m.shs.map Sh.freshMon, monK := none }
      else s
    s.pairView

/-! ### Counters -/

/-- SH_CLR (R463). -/
def opShClr (e : Nat) (s : State) : State :=
  let s := (s.setWord R.SH_MACS_LO 0 e).setWord R.SH_MACS_HI 0 e
  let s := ((s.setWord R.SH_SARJOBS 0 e).setWord R.SH_SARABORT 0 e).setWord R.SH_CKSUM 0 e
  s.setWord R.SH_STCNT 0 e

/-- MNT_CLR (R466). -/
def opMntClr (s : State) : State :=
  let s := (s.setWord R.MNT_HANDOVERS 0).setWord R.MNT_HOLAST 0
  ((s.setWord R.MNT_HOLDSTEPS 0).setWord R.MNT_HOLDFAILS 0).setWord R.MNT_ALARMS 0

end Sys2Proof.Machine
end

