-- ==== Sys2Proof/Machine/Safe.lean ====
section
/-!
DEFINITION. The safe state controller's release, readbacks and restart timer (R532 to R546), expected injection (R547 to
R551), and the clears of the FCU and SSC pages.
-/
namespace Sys2Proof.Machine

/-! ### Leaving the safe state (R537 to R539) -/

/-- Every page index (R54). -/
def pageCount : Nat := 28

/-- Levels of a page's sources, as both level words hold them (R555). -/
def State.pageLevels (s : State) (p : Nat) : List Nat :=
  (List.range 32).map fun n => s.word (if n < 16 then R.FCU_PLVL0 else R.FCU_PLVL1) p / 4 ^ (n % 16) % 4

/-- The conditions of R537 that fail, as RELBLOCK shows them. A rail pair that has failed is known by its source's bit, a
ball of the SSC that reads high by the report of its comparator. -/
def State.relBlock (s : State) : Nat :=
  let f := (List.range pageCount).any fun p => (s.pageLevels p).contains 3
  let boot := !s.on F.BOOT_STAT_READY || s.balls.coreLoss
  let rail := s.flt S.FCU_RAIL
  let drives := (List.range 24).any fun k => s.on F.SBO_STAT_RBA k || s.on F.SBO_STAT_RBB k
  let rb := s.balls.high || drives
  b2n f + 2 * b2n (!s.inj.isEmpty) + 4 * b2n boot + 8 * b2n rail + 16 * b2n rb

/-- Every output OFF that is not in FAULT, one in TEST too, and every ONREQ 0 (R512, R539). -/
def State.outputsOff (s : State) : State :=
  let s := s.upto (fun g s => s.wr F.SIO_G_STAT_ONREQ 0 g) 8
  s.upto (fun k s =>
    s.when (s.rd F.SBO_STAT_STATE k == 1 || s.rd F.SBO_STAT_STATE k == 3) fun s =>
      ((s.sboState k 0).sboDrive k false false).updSbo k fun o => { o with pulse := none }) 24

/-- The levels of CICADA_A and CICADA_B at the present cycle: in complementary phase while they toggle, else both 0 (R535). -/
def State.cicadaA (s : State) : Bool :=
  let b := s.balls
  b.cicada && (if s.cyc < b.cicAt then !b.cicA else b.cicA != ((s.cyc - b.cicAt) / max 1 b.cicHalf % 2 == 1))
def State.cicadaB (s : State) : Bool := s.balls.cicada && !s.cicadaA

/-- A new HALF applies from the first boundary of a half-period after its apply instant (R536). -/
def State.cicadaHalf (s : State) : State :=
  let b := s.balls
  let h := max 1 b.cicHalf
  let at_ := if s.cyc < b.cicAt then b.cicAt else b.cicAt + h * ((s.cyc - b.cicAt) / h + 1)
  let a := if s.cyc < b.cicAt then b.cicA else !s.cicadaA
  { s with balls := { b with cicAt := at_, cicA := a, cicHalf := s.rd F.SSC_CICADA_HALF } }

/-- CICADA starts to toggle: CICADA_A starts at 1 and CICADA_B at 0 (R535, R538), in the cycle of the release (log 146). -/
def State.cicadaStart (s : State) : State :=
  let t := s.cyc
  { s with balls := { s.balls with cicada := true, cicAt := t, cicA := true, cicHalf := s.rd F.SSC_CICADA_HALF } }

/-- The release is accepted (R538, R539); ACC_UP is broadcast (R584). -/
def State.release538 (s : State) : State :=
  let s := (s.wr F.VDU_STAT_FORCE 0).wr F.FCU_STAT_LATCH 0
  let s := (s.wr F.SSC_STAT_SAFE 0).wr F.SIO_STAT_FORCED 0
  let s : State := { s with balls := { s.balls with safeN := true } }
  let s := s.cicadaStart
  let s := { s with ssc := { s.ssc with firstFAt := none }, sio := { s.sio with seen := false } }
  let s := (s.inc F.SSC_RELCNT_N).outputsOff
  let s := s.upto (fun j s => s.reseed j) 64
  let n := s.vdu.forms
  let s := s.upto (fun i s =>
    let s := s.updSsc i fun _ => ⟨n, false, none, none⟩
    (s.wr F.SSC_SSTAT_RSTATE (if s.rd F.SSC_SSTAT_RSTATE i = 2 then 1 else 0) i).wr F.SSC_SSTAT_VCNT 0 i) 64
  s.broadcast 0x23 2 0

/-- A pending release ends. -/
def State.relCancel (s : State) : State :=
  ({ s with ssc := { s.ssc with relKeyAt := none } } : State).wr F.SSC_STAT_RELPEND 0

/-- SSC_REL (R538): key 0xA5, then key 0x5A within 1 ms; any other write cancels. In RUN a write is discarded. -/
def opSscRel (key : Nat) (s : State) : State :=
  if !s.fatal then s.relCancel
  else
    let due := match s.ssc.relKeyAt with | some t => decide (s.cyc ≤ t + msC 1) | none => false
    if key = 0xA5 then
      let t := s.cyc
      ({ s with ssc := { s.ssc with relKeyAt := some t } } : State).wr F.SSC_STAT_RELPEND 1
    else
      let s := s.relCancel
      if key = 0x5A && due then
        let b := s.relBlock
        let s := s.wr F.SSC_STAT_RELBLOCK b
        if b = 0 then s.release538 else s.raise S.SSC_REL_REFUSED
      else s

/-- RELEASE_SEQUENCE_EXPIRY (R538). -/
def opReleaseSequenceExpiry (s : State) : State :=
  match s.ssc.relKeyAt with
  | some t => (s.reachCyc (t + msC 1)).relCancel
  | none => s

/-- SAFEN_RB (R534) and CICADA_RB (R536): a ball reads the level that it is not driven to; of a CICADA ball, which toggles, the
level is given. -/
def opSafenRb (s : State) : State :=
  ({ s with balls := { s.balls with high := s.balls.high || !s.balls.safeN } } : State).raise S.SSC_SAFEN_RB
def opCicadaRb (level : Bool) (s : State) : State :=
  ({ s with balls := { s.balls with high := s.balls.high || level } } : State).raise S.SSC_CICADA_RB

/-! ### Restart timing (R545, R546) -/

/-- RESTART_LINE_TIMEOUT (R545): the earliest stream-OK line that has yet to fall does. -/
def opRestartLineTimeout (s : State) : State :=
  match s.ssc.streams.filterMap (fun x => x.lineFall) with
  | [] => s
  | t :: ts =>
    let s := s.reachCyc (ts.foldl min t)
    let now := s.cyc
    let fall (x : SscStream) : SscStream :=
      { x with lineFall := match x.lineFall with | some c => if c ≤ now then none else some c | none => none }
    { s with ssc := { s.ssc with streams := s.ssc.streams.map fall } }

/-- RESTART_TO (R546). -/
def opRestartTo (s : State) : State :=
  match s.ssc.restartAt with
  | some c => if s.on F.SSC_STAT_RESTART then (s.reachCyc (c + msC (s.rd F.SSC_TRESTART_MS))).raise S.SSC_RESTART_TO else s
  | none => s

/-- The run rule at the gate (R542): a record of a stream passes, with the number of its formation. -/
def State.runRule (s : State) (i status n : Nat) : State :=
  let st := s.rd F.SSC_SSTAT_RSTATE i
  let x := s.sscOf i
  if st = 0 || (st = 2 && !x.complete) || n < x.runFrom then s
  else
    match status with
    | 4 | 5 => s
    | 1 =>
      let v := satAdd 8 (s.rd F.SSC_SSTAT_VCNT i) 1
      if max 1 (s.rd F.SSC_SCFG_MARKCLR i) ≤ v then
        let s := s.updSsc i fun x => { x with complete := false, lineFall := none }
        (s.wr F.SSC_SSTAT_RSTATE 0 i).wr F.SSC_SSTAT_VCNT 0 i
      else s.wr F.SSC_SSTAT_VCNT v i
    | _ => s.wr F.SSC_SSTAT_VCNT 0 i

/-! ### Expected injection (R547 to R551) -/

/-- The pages that support injection, and the sources one may name there: every fault source, and 24 to 27 on the TE
pages (R73, R548). -/
def injSrcOk (page src : Nat) : Bool :=
  page != 1 && (decide (src < (pageClasses page).length) || (decide (8 ≤ page) && decide (page ≤ 11) && decide (24 ≤ src) && decide (src ≤ 27)))

/-- An expected entry is created (R547). -/
def State.arm (s : State) (page src chan : Nat) : State :=
  let t := s.cyc
  let e : InjEntry := ⟨page, src, chan, t, none⟩
  let s : State := { s with inj := s.inj ++ [e] }
  (s.wr F.HEAD_INJ_ARMED 1 page).wr F.FCU_STAT_NARMED s.inj.length

/-- INJ_ARM (R73, R547): an ARM through a page's _INJ leaves 13 of the 32 entries to the MNA (R736). -/
def opInjArm (page : Nat) (src chan : Nat) (s : State) : State :=
  let s := (s.wr F.HEAD_INJ_SRC src page).wr F.HEAD_INJ_CHAN chan page
  if !injSrcOk page src || s.on F.HEAD_INJ_ARMED page || 19 ≤ s.inj.length then s.access
  else s.arm page src chan

/-- The injected check happens: from it the window of its entries runs (R550). -/
def State.injected (s : State) (page src chan : Nat) : State :=
  let t := s.cyc
  let mine (e : InjEntry) : Bool := e.page == page && e.src == src && e.chan == chan && e.injectedAt.isNone
  { s with inj := mapIf mine (fun e => { e with injectedAt := some t }) s.inj }

/-- An additional checker of a tally engine, 24 to 27, makes its next check: the windows of its entries open (R548, R550). The inverted
comparison reaches only the FCU (R549). -/
def State.teChecked (s : State) (q n : Nat) : State :=
  match (s.lq q).eng with
  | none => s
  | some e =>
    let t := s.cyc
    let mine (x : InjEntry) : Bool := x.page == 8 + e && x.src == n && x.injectedAt.isNone
    { s with inj := mapIf mine (fun x => { x with injectedAt := some t }) s.inj }

/-- INJ_WINDOW_EXPIRY (R550): the window of an entry, which opens now if its check has not been named before, ends without a
consumed report. -/
def opInjWindowExpiry (page src chan : Nat) (s : State) : State :=
  let s := s.injected page src chan
  match s.inj.find? fun e => e.page == page && e.src == src && e.chan == chan with
  | some e =>
    let s := s.reachCyc (e.injectedAt.getD s.cyc + s.rd F.FCU_INJWIN_CYC)
    ((s.dropInj e).inc F.FCU_PINJ_SILENT page).raise S.FCU_CHECKER_SILENT
  | none => s

/-- INJ_NOTXN (R548). -/
def opInjNotxn (page src chan : Nat) (s : State) : State :=
  match s.inj.find? fun e => e.page == page && e.src == src && e.chan == chan && e.injectedAt.isNone with
  | some e => ((s.reachCyc (e.armedAt + msC 100)).dropInj e).raise S.FCU_INJ_NOTXN
  | none => s

/-! ### Clears -/

/-- FCU_CLR (R556). -/
def opFcuClr (s : State) : State :=
  (s.upto (fun p s => ((s.setWord R.FCU_PCNT 0 p).setWord R.FCU_PESC 0 p).setWord R.FCU_PINJ 0 p) pageCount).setWord
    R.FCU_INJPASS 0

/-- CLRFIRST (R556). -/
def opClrfirst (s : State) : State := s.wr F.FCU_FIRSTF_VALID 0

/-- SSC_CLR (R560). -/
def opSscClr (s : State) : State :=
  ((s.setWord R.SSC_RSTCNT 0).setWord R.SSC_RELCNT 0).upto (fun i s => s.setWord R.SSC_SNTRIG 0 i) 64

end Sys2Proof.Machine
end

