-- ==== Sys2Proof/Machine/Lanes.lean ====
section
/-!
DEFINITION. What a tally engine's command works on: the running job, its operands, the stored vectors, and the LANE
commands on windows and residues (R191 to R222, R290 to R302, R310, R311).
-/
namespace Sys2Proof.Machine

/-! ### The running job -/

/-- An engine that issues commands: ACTIVE, HANDING or TAKING (R314). -/
def State.teRuns (s : State) (e : Nat) : Bool :=
  let r := s.rd F.TE_STAT_ROLE e
  s.engClk && (r == 1 || r == 2 || r == 5)

/-- Scratch pages of a logical queue (R286). -/
def State.pagesOf (s : State) (q : Nat) : Nat :=
  match (s.lq q).ctx with
  | some (c, k) =>
    match (s.ctx c).plan with
    | some p => (match p.queues[k]? with | some d => d.pages | none => 0)
    | none => 0
  | none => 0

/-- Engine state beside the registers. -/
def State.te (s : State) (e : Nat) : Te := s.tes.getD e Te.reset

/-- A command of a context's programs as an engine's program cache holds it (R282, R293). -/
def Te.fetch (t : Te) (c pc : Nat) : Option Cmd := (t.cache.find? fun x => x.1 == c).bind fun x => x.2[pc]?

/-- What the command queue of a queue's engine holds for it: the two commands that its head job runs next, of which the first is the
next to issue (R281, R290). The program cache gives them, so they are no state of their own (DESIGN CHOICE, log 136). -/
def State.prefetch (s : State) (q : Nat) : List Cmd :=
  match (s.lq q).eng, (s.lq q).jobs with
  | some e, j :: _ =>
    match (s.te e).fetch j.ctx j.cur with
    | some c => c :: ((s.te e).fetch j.ctx (j.cur + 1)).toList
    | none => []
  | _, _ => []

/-- The engine that takes the queues of another one (R314). -/
def State.partner (s : State) (e : Nat) : Option Nat :=
  (List.range 4).find? fun t => s.rd F.TE_STAT_ROLE t == 5 && (s.te t).taking == some e

/-- A queue is moving, by a hand-over or to an engine that has returned (R314, R315). -/
def State.moving (s : State) (q : Nat) : Bool :=
  (s.lq q).copying && match (s.lq q).eng with
    | some t => s.rd F.TE_STAT_ROLE t == 5 && (match (s.te t).taking with | some e => s.rd F.TE_STAT_ROLE e == 2 | none => true)
    | none => false

/-- The head job of a queue that is started, is not blocked in WAI or XFC and is not moving, with its plan and its next command (R290,
R291, R308, R315). -/
def State.nextUp (s : State) (q : Nat) : Option (Job × Plan × Cmd) :=
  let l := s.lq q
  match l.eng, l.jobs with
  | some e, j :: _ =>
    if s.teRuns e && j.started && !l.waiting && !s.moving q then
      match (s.ctx j.ctx).plan, s.prefetch q with
      | some p, c :: _ => some (j, p, c)
      | _, _ => none
    else none
  | _, _ => none

/-- Pipe of a command (R291, R296): 0 LANE, 1 VEC, 2 CTL. A reserved opcode takes the CTL pipe (DESIGN CHOICE, log 106). -/
def Cmd.pipe (c : Cmd) : Nat :=
  match c.opc with
  | 2 | 3 | 4 | 5 | 9 | 10 => 0
  | 6 | 7 | 8 => 1
  | _ => 2

/-- Outstanding LDPs of an engine. -/
def State.ldpCount (s : State) (e : Nat) : Nat := sumNat ((s.lqs.filter fun l => l.eng == some e).map (·.ldps.length))

/-- Plan-relative queues whose scratch a command reads beside its own queue's: the slice queues of TOKJOIN (R304). -/
def Cmd.reads (c : Cmd) : List Nat :=
  if c.opc = 7 ∧ c.sub = 3 then (List.range (bits 19 16 c)).map (bits 25 20 c + ·) else []

/-- A command that cannot start yet: a fifth LDP of its engine (R298), or a read of a scratch that is moving (R304, R315). -/
def State.blocked (s : State) (e : Nat) (j : Job) (c : Cmd) : Bool :=
  (c.opc == 1 && j.skipL == 0 && decide (4 ≤ s.ldpCount e)) ||
  (Cmd.reads c).any fun k => match (s.ctx j.ctx).lqs[k]? with | some q => (s.lq q).copying | none => false

/-- Class of a queue (R291): the highest class of its context's streams whose jobs it carries, those of a fallback program and
of the VDU among them; 2 where it carries none. -/
def State.queueClass (s : State) (q : Nat) : Nat :=
  match (s.lq q).ctx with
  | some (c, k) =>
    match (s.ctx c).plan with
    | some p =>
      let own := (p.groups.filter fun g => g.jobs.any fun j => j.queue == k).map fun g => (p.streams.getD g.sidx StreamC.none).cls
      let sar := if p.sem.sar.any fun f => f.queue == k then (p.streams.filter fun x => x.sarPairs != 0).map (·.cls) else []
      let vdu := ((p.sem.commitJobs ++ p.sem.rebuildJobs).filter fun x => x.2.queue == k).map fun x => (p.streams.getD x.1 StreamC.none).cls
      (own ++ sar ++ vdu).foldl min 2
    | none => 2
  | none => 2

/-- Whether the head `j` of queue `q` goes before the head `i` of queue `r` (R291): the higher class, then the older ENQ, then the
lower queue. -/
def State.goesFirst (s : State) (q : Nat) (j : Job) (r : Nat) (i : Job) : Bool :=
  let cq := s.queueClass q
  let cr := s.queueClass r
  let age (x : Job) : Nat := (s.cyc + 2 ^ 32 - x.enq) % 2 ^ 32
  decide (cq < cr) || (cq == cr && (decide (age i < age j) || (age i == age j && decide (q < r))))

/-- Another queue of the engine goes before this one on the same pipe (R291). -/
def State.outranked (s : State) (e q : Nat) (j : Job) (c : Cmd) : Bool :=
  (List.range 48).any fun r =>
    r != q && (s.lq r).eng == some e &&
    match s.nextUp r with
    | some (i, _, d) => Cmd.pipe d == Cmd.pipe c && !s.blocked e i d && s.goesFirst r i q j
    | none => false

/-- The head job of a queue whose next command its pipe takes now, with its plan and that command (R291). A step of the model runs
one command from its start to its end, so its pipe is free before it (DESIGN CHOICE, log 106). -/
def State.headCmd (s : State) (q : Nat) : Option (Job × Plan × Cmd) :=
  match (s.lq q).eng, s.nextUp q with
  | some e, some (j, p, c) => if s.blocked e j c || s.outranked e q j c then none else some (j, p, c)
  | _, _ => none

/-- Engines whose background slot may issue on the LANE pipe: no logical queue of them can (R225, R285, R291, R324). -/
def State.bgEngs (s : State) : List Nat :=
  (List.range 4).filter fun e => s.teRuns e && (List.range 48).all fun q =>
    (s.lq q).eng != some e ||
    match s.nextUp q with | some (j, _, c) => Cmd.pipe c != 0 || s.blocked e j c | none => true

/-- Whether the background slot of some engine may issue on the LANE pipe. -/
def State.bgLane (s : State) : Bool := !s.bgEngs.isEmpty

/-- Index in the program cache of the first command of a context's programs: programs lie in the order of their contexts
(DESIGN CHOICE, log 105). -/
def State.progBase (s : State) (c : Nat) : Nat :=
  sumNat ((List.range c).map fun k => match (s.ctx k).plan with | some p => (Plan.commands p).length | none => 0)

/-- The 16 bytes of a job's descriptor (R289). -/
def State.jobBytes (s : State) (j : Job) : List Byte :=
  natLe 2 ((s.progBase j.ctx + j.pc) % 4096 + 4096 * j.ctx) ++ natLe 2 (j.rslot + 1024 * j.stream) ++ natLe 2 j.site ++
  natLe 2 j.token ++ natLe 1 j.bank ++ natLe 1 (b2n j.replay + 2 * b2n j.fallback) ++ natLe 2 0 ++ natLe 4 j.enq

/-- The next command of a queue's head job takes its turn. -/
def State.nextCmd (s : State) (q : Nat) : State := s.updJob q fun j => { j with cur := j.cur + 1 }

/-- Status bits of the head job (R310). -/
def State.jobFailed (s : State) (q : Nat) : State := s.updJob q fun j => { j with failed := true }
def State.jobNd (s : State) (q : Nat) : State := s.updJob q fun j => { j with notDone := true }

/-- Engine of a queue. -/
def State.engOf (s : State) (q : Nat) : Nat := (s.lq q).eng.getD 0

/-- Lane-operations and vector slots are counted (R327). -/
def State.laneops (s : State) (q n : Nat) : State := s.add64 R.TE_LANEOPS_LO R.TE_LANEOPS_HI n (s.engOf q)
def State.vslots (s : State) (q n : Nat) : State := s.add64 R.TE_VSLOTS_LO R.TE_VSLOTS_HI n (s.engOf q)

/-- Lane-operations of key-up work are counted on the engines whose background slots run it (R225, R228, R327). How they share it is
not said: each share is a free value (log 137). -/
def State.bgOps (s : State) (n : Nat) : List Nat → State
  | [] => s
  | [e] => s.add64 R.TE_LANEOPS_LO R.TE_LANEOPS_HI n e
  | e :: es =>
    let k := (s.fresh 64).toNat % (n + 1)
    (s.drew.add64 R.TE_LANEOPS_LO R.TE_LANEOPS_HI k e).bgOps (n - k) es

/-- What an illegal command raises (R297): CMD_ILL and NOTDONE. -/
def State.illMark (s : State) (q : Nat) (j : Job) : State :=
  let e := s.engOf q
  let s := (s.wr F.TE_ILLPC_PC (s.progBase j.ctx + j.cur) e).wr F.TE_ILLPC_LQ q e
  (s.report { src := S.TE_CMD_ILL.at e, stream := some j.stream, unit := j.site, ref := j.resseq, mark := false }).jobNd q

/-- An illegal command (R297) is skipped. -/
def State.illegal (s : State) (q : Nat) (j : Job) : State := (s.illMark q j).nextCmd q

/-- SITE of a command: 0xFFFF means the job's (R295). -/
def Job.siteOf (j : Job) (v : Nat) : Nat := siteIn j.site v

/-! ### Operands (R114, R203, R295) -/

/-- Code and scale of an element of a tensor for a token; a tensor that is not complete supplies none (R171). -/
def Slot.el (r : Slot) (t : TensD) (token i : Nat) : Option (Nat × Nat) :=
  if r.complete t token then r.elem t.num token i else none

/-- Value of an element of a tensor for a token. -/
def Slot.val (r : Slot) (t : TensD) (token i : Nat) : Option Val :=
  (r.el t token i).map fun e => decodeScaled t.fmt t.mx e.2 e.1

/-- What a list of operands amounts to: none when one is missing, some none when one is not finite, else the values. -/
def finite : List (Option Val) → Option (Option (List Dy))
  | [] => some (some [])
  | none :: _ => none
  | some v :: xs =>
    match finite xs, v with
    | none, _ => none
    | some (some ys), .fin x => some (some (x :: ys))
    | some _, _ => some none

/-- Whether products of a format share one exponent over 32 elements (R203). -/
def grouped (c : Nat) : Bool := decide (c ≤ 7)

/-- A decoded element on its format's grid: the least significant bit that the lanes give it (R203). -/
def onGrid (c : Nat) (mx : Bool) (scale : Nat) (x : Dy) : Dy :=
  match fmtOf c with
  | none => x
  | some f =>
    if !grouped c then x
    else
      let s : Int := if mx then (scale : Int) - 127 else 0
      let e := s + (if f.eb = 0 then intGrid c mx else f.emin - f.mb)
      ⟨x.at_ e, e⟩

/-- Consecutive terms of one block summed (R203). -/
def mergeBlocks : List (Nat × Dy) → List (Nat × Dy)
  | [] => []
  | (a, x) :: xs =>
    match mergeBlocks xs with
    | (b, y) :: ys => if a = b then (a, x.add y) :: ys else (a, x) :: (b, y) :: ys
    | [] => [(a, x)]

/-- The aligned terms of product terms, each with its element number. -/
def aligned (g : Bool) (ts : List (Nat × Dy)) : List Dy :=
  if g then (mergeBlocks (ts.map fun (i, x) => (i / 32, x))).map (·.2) else ts.map (·.2)

/-- A window changed. -/
def State.updWin (s : State) (q w : Nat) (f : Win → Win) : State := s.updLq q fun l => { l with wins := updAt f w l.wins }

/-- Windows cleared by a command's CLR (R299, R300). -/
def State.clrWins (s : State) (q w0 k : Nat) (clr : Bool) : State :=
  if clr then s.upto (fun i s => s.updWin q (w0 + i) fun _ => Win.zero) k else s

/-- A window that has lost bits raises WIN_LOSS, once (R205, R369). -/
def State.winLoss (s : State) (q w : Nat) : State :=
  match (s.lq q).wins[w]?, (s.lq q).jobs with
  | some x, j :: _ =>
    if x.lost || !(winValue x.terms).2.2 then s
    else ((((s.updWin q w fun x => { x with lost := true }).inc F.PST_WINLOSS_N).raise S.PST_WIN_LOSS).sumBit j.stream j.resseq 3)
  | _, _ => s

/-- Product terms enter a window; more than 2^18 of them raise TERMS_OVF (R203, R205, R311). -/
def State.addTerms (s : State) (q w : Nat) (g : Bool) (ts : List (Nat × Dy)) (extra : List Dy) : State :=
  let s := s.updWin q w fun x => { x with terms := x.terms ++ aligned g ts ++ extra, n := x.n + ts.length + extra.length }
  let s := s.winLoss q w
  match (s.lq q).wins[w]?, (s.lq q).jobs with
  | some x, j :: _ =>
    if 2 ^ 18 < x.n then
      (s.jobNd q).report { src := S.TE_TERMS_OVF.at (s.engOf q), stream := some j.stream, ref := j.resseq, mark := false }
    else s
  | _, _ => s

/-! ### Stored vectors (R191 to R193, R217, R218, R229 to R232) -/

/-- Entry i of a sign vector: true for −1 (R193). -/
def signBit (key i : Nat) : Bool := (Config.aes256 key (i / 128)).toNat.testBit (i % 128)

/-- Coefficient c_i of a residue vector for m = 1 or 2 (R218). -/
def coeff (key m i : Nat) : Nat :=
  let t := 2 * i + (m - 1)
  let w := (Config.aes256 key (t / 2)).toNat / 2 ^ (64 * (t % 2)) % 2 ^ 64
  w % ((if m = 1 then mers1 else mers2) - 1) + 1

/-- A re-key of a matrix is queued, ahead of the age-driven ones when it has priority; one that is open or queued already
serves it (R232, R234, R235). The flag says that it was queued. -/
def State.rekeyQueue (s : State) (c site : Nat) (prio : Bool) : State × Bool :=
  let had := s.pst.queue.any fun x => x.1 == c && x.2.1 == site && (x.2.2 || !prio)
  if s.pst.cur == some (c, site) || had then (s, false)
  else
    let rest := s.pst.queue.filter fun x => !(x.1 == c && x.2.1 == site)
    let q := if prio then (rest.filter (·.2.2)) ++ [(c, site, true)] ++ rest.filter (!·.2.2) else rest ++ [(c, site, false)]
    (({ s with pst := { s.pst with queue := q } } : State).wr F.PST_RKQ_N q.length, true)

/-- A matrix of a context. -/
def State.mat (s : State) (c site : Nat) : Option MatK := (s.ctx c).mats.find? fun m => m.site == site

/-- The vector current at a generation (R229). -/
def MatK.vec (m : MatK) (kidx : Nat) (resid : Bool) (gen : Nat) : Option PVec :=
  m.vecs.find? fun v => v.kidx == kidx && v.resid == resid && decide (v.gen ≤ gen)

/-- The vector a check reads (R200, R229, R231, R232, R46): none ends the check NOT DONE. -/
def State.takeVec (s : State) (q : Nat) (j : Job) (r : Slot) (site kidx : Nat) (resid : Bool) : Option PVec × State :=
  match s.mat j.ctx site with
  | none => (none, s.jobNd q)
  | some m =>
    if m.expired || m.poison || (m.range && !resid) then
      (none, (s.jobNd q).when m.expired fun s => s.sumBit j.stream j.resseq 6)
    else
      match m.vec kidx resid r.gen with
      | some v => (some v, s)
      | none =>
        let s := s.report { src := S.PST_GEN_MISMATCH, chan := j.ctx, stream := some j.stream, unit := site, ref := j.resseq, mark := false }
        (none, ((s.rekeyQueue j.ctx site true).1.jobNd q).sumBit j.stream j.resseq 6)

/-! ### PRY (R206, R211, R212, R299) -/

/-- The clamp of an output element (R211). -/
def clampOf (c : SiteC) (s : Int) : Dy :=
  match fmtOf c.fmtOut, uOut c.fmtOut c.rnd with
  | some f, some u => Dy.pow2 (s + f.emin - (if c.subn = 1 then u else 0))
  | _, _ => Dy.zero

/-- Exponent of an element's block scale; 0 without MX. -/
def scaleOf (t : TensD) (byte : Nat) : Int := if t.mx then (byte : Int) - 127 else 0

/-- An element equals ± the largest finite value after its block scale (R212). -/
def saturated (t : TensD) (byte : Nat) (x : Dy) : Bool :=
  let m := fmtMax t.fmt t.mx
  x.abs.eq ⟨m.m, m.e + scaleOf t byte⟩

/-- PRY over its element range. -/
def State.runPry (s : State) (q : Nat) (j : Job) (r : Slot) (p : Plan) (c : Cmd) : State :=
  let k := bits 18 16 c + 1
  let w0 := bits 21 19 c
  let site := j.siteOf (bits 95 80 c)
  let off := bits 59 40 c
  let n := bits 79 60 c
  let s := (s.clrWins q w0 k (bit 23 c)).laneops q (k * n)
  match p.tref site (bits 39 24 c), p.siteC site with
  | some t, some sc =>
    let idx := (List.range n).map (off + ·)
    let es := idx.map fun i => r.el t j.token i
    match finite (es.map fun e => e.map fun e => decodeScaled t.fmt t.mx e.2 e.1) with
    | none => s.jobNd q
    | some none => s.jobFailed q
    | some (some ys) =>
      let scales := es.map fun e => (e.getD (0, 127)).2
      let sat := sc.sat = 0 && (ys.zip scales).any fun (y, b) => saturated t b y
      let s := s.when sat fun s => (s.jobNd q).updJob q fun j => { j with sat := true }
      let g := (ys.zip scales).map fun (y, b) => onGrid t.fmt t.mx b y
      let s := (List.range k).foldl (fun s m =>
        let (v, s) := s.takeVec q j r site m false
        match v with
        | none => s
        | some v =>
          s.addTerms q (w0 + m) (grouped t.fmt) ((idx.zip g).map fun (i, y) => (i, if signBit v.key i then y.neg else y)) []) s
      s.when (bit 22 c) fun s =>
        let sq := (ys.zip scales).map fun (y, b) => let z := y.abs.max (clampOf sc (scaleOf t b)); z.mul z
        s.updLq q fun l => { l with s1 := l.s1.add (Dy.sum sq) }
  | _, _ => s.illMark q j

/-! ### DTX (R203, R206, R208, R300) -/

/-- Spill remainder and rounding of element `i` of a vector, as the trailer in the queue's scratch that holds the element gives them; 0 where no trailer was
loaded, as for a vector with no spilled and no rounded element (R197, R199; DEDUCED, log 107). -/
def State.trailAt (s : State) (q site kidx gen i : Nat) : Dy × Dy :=
  match (s.lq q).scratch.findSome? fun x =>
      match x.2 with
      | .trail st k g off rem eps =>
        if st == site && k == kidx && g == gen && decide (off ≤ i) then
          (match rem[i - off]?, eps[i - off]? with | some y, some z => some (y, z) | _, _ => none)
        else none
      | _ => none with
  | some y => y
  | none => (Dy.zero, Dy.zero)

/-- Whether a takeover has lost the trailer of a vector in the queue's scratch (R320): the vector has spilled or rounded elements, no trailer
of it lies there, and no word lost has been loaded again. -/
def State.trailLost (s : State) (q c site kidx gen : Nat) : Bool :=
  (s.lq q).lostScr &&
  !((s.lq q).scratch.any fun x => match x.2 with | .trail st k g _ _ _ => st == site && k == kidx && g == gen | _ => false) &&
  match s.mat c site with
  | some m => m.vecs.any fun v => !v.resid && v.kidx == kidx && v.gen == gen && decide (0 < v.nspill + v.ninex)
  | none => false

/-- The element that a source of DTX holds: a tensor's, a loaded vector's, or the KV copy's in slot order (R300). -/
def State.srcVal (s : State) (q : Nat) (j : Job) (r : Slot) (p : Plan) (site v i : Nat) : Option Val × Nat × Nat × Bool :=
  match TRef.of v with
  | some (.tensor k) =>
    match p.opnd site k with
    | some t => (r.val t j.token i, t.fmt, match r.el t j.token i with | some e => e.2 | none => 127, t.mx)
    | none => (none, 10, 127, false)
  | some (.lbuf a) =>
    match (s.lq q).scratch.find? fun x => x.1 == a with
    | some (_, .vec st k g off ps) =>
      if off ≤ i && !s.trailLost q j.ctx st k g then
        match ps[i - off]? with
        | some x => (some (.fin (x.add (s.trailAt q st k g i).1)), 10, 127, false)
        | none => (none, 10, 127, false)
      else (none, 10, 127, false)
    | _ => (none, 10, 127, false)
  | some (.kvc values pair) =>
    match p.pairs[pair]? with
    | some (a, h) =>
      match ((s.st j.stream).asOf j.resseq).kv.find? fun x => x.site == a.kvSite && x.pos % (s.st j.stream).c.kvwin == i / a.dHead,
          p.portTensor a.kvSite 1 with
      | some x, some t =>
        let o := (if values then a.vOff else a.kOff) + h * a.dHead + i % a.dHead
        let b := x.scales.getD (o / 32) 127
        (some (decodeScaled t.fmt t.mx b (x.codes.getD o 0)), t.fmt, b, t.mx)
      | _, _ => (none, 10, 127, false)
    | none => (none, 10, 127, false)
  | _ => (none, 10, 127, false)

/-- A vector that DTX PROJ multiplies: resident, or loaded in scratch at an offset. -/
def State.projVec (s : State) (q : Nat) (j : Job) (r : Slot) (site v m : Nat) : Option (Nat × List Dy × List Dy × List Dy) × State :=
  match TRef.of v with
  | some (.proj k res) =>
    let (x, s) := s.takeVec q j r site (k + m) res
    (x.map fun x => (0, x.p, x.rem, x.eps), s)
  | some (.lbuf a) =>
    match (s.lq q).scratch.find? fun x => x.1 == a with
    | some (_, .vec st k g off ps) =>
      if s.trailLost q j.ctx st k g then (none, s.jobNd q) else
      let ts := (List.range ps.length).map fun i => s.trailAt q st k g (off + i)
      (some (off, ps, ts.map (·.1), ts.map (·.2)), s)
    | _ => (none, s.jobNd q)
  | _ => (none, s.jobNd q)

/-- DTX PROJ of one window: products p·x with their remainders leave the window; S2 and Σ|x|ε join it. -/
def State.projWin (s : State) (q w : Nat) (g sq : Bool) (v : Nat × List Dy × List Dy × List Dy) (xs : List (Nat × Dy)) : State :=
  let (off, ps, rem, eps) := v
  let at_ (ys : List Dy) (i : Nat) : Dy := ys.getD (i - off) Dy.zero
  if xs.any fun x => x.1 < off || off + ps.length ≤ x.1 then s.jobNd q
  else
    let ts := xs.map fun (i, x) => (i, ((at_ ps i).mul x).neg)
    let ex := (xs.filter fun x => !(at_ rem x.1).isZero).map fun (i, x) => ((at_ rem i).mul x).neg
    let s := s.addTerms q w g ts ex
    s.updWin q w fun y => { y with
      s2 := if sq then y.s2.add (Dy.sum (xs.map fun (i, x) => let z := ((at_ ps i).add (at_ rem i)).mul x; z.mul z)) else y.s2,
      xeps := y.xeps.add (Dy.sum (xs.map fun (i, x) => x.abs.mul (at_ eps i))) }

/-- The index that a gather site's one-hot input delivers: none when it is no integer below d_in (R208). -/
def gatherIdx (x : Dy) (din : Nat) : Option Nat :=
  let i := x.floorAt 0
  if (Dy.ofInt i).eq x && 0 ≤ i && i < din then some i.toNat else none

/-- A non-finite operand of DTX fails any check under SAT SATURATE; else the sum `v` of the command's terms enters the window as the
value that it is (R114, R311). -/
def State.nonFin (s : State) (q : Nat) (p : Plan) (site w0 : Nat) (v : Val) : State :=
  match p.siteC site with
  | some sc =>
    if sc.sat = 1 then s.updWin q w0 fun x => { x with nf := some (match x.nf with | some y => y.add v | none => v) } else s.jobFailed q
  | none => s.jobFailed q

/-- Spill entries of a vector in an element range. -/
def spillsIn (v : Nat × List Dy × List Dy × List Dy) (idx : List Nat) : Nat :=
  (idx.filter fun i => decide (v.1 ≤ i) && !(v.2.2.1.getD (i - v.1) Dy.zero).isZero).length

/-- DTX PROJ, on operands `xs` with their places on the lanes' grid `g` (R203, R206, R208). -/
def State.runProj (s : State) (q : Nat) (j : Job) (r : Slot) (p : Plan) (c : Cmd) (fmt : Nat) (idx : List Nat) (xs g : List Dy) : State :=
  let k := bits 18 16 c + 1
  let site := j.siteOf (bits 111 96 c)
  let din := match p.matD site with | some m => if m.gather then some m.dIn else none | none => none
  (List.range k).foldl (fun s m =>
    let (v, s) := s.projVec q j r site (bits 55 40 c) m
    match v with
    | none => s
    | some v =>
      match din, xs with
      | some d, x :: _ =>
        (match gatherIdx x d with
         | some i => s.projWin q (bits 21 19 c + m) false (bit 22 c) v [(i, Dy.ofInt 1)]
         | none => s.jobFailed q)
      | some _, [] => s.jobNd q
      | none, _ => s.projWin q (bits 21 19 c + m) (grouped fmt) (bit 22 c) v (idx.zip g)) s

/-- Lane-operations of a DTX PROJ with its spill terms (R292, R300). -/
def State.projOps (s : State) (q : Nat) (j : Job) (c : Cmd) : Nat :=
  let k := bits 18 16 c + 1
  let n := bits 95 76 c
  let idx := (List.range n).map (bits 75 56 c + ·)
  let spill (r : Slot) (m : Nat) : Nat :=
    match (s.projVec q j r (j.siteOf (bits 111 96 c)) (bits 55 40 c) m).1 with | some v => spillsIn v idx | none => 0
  match s.slotOf j.stream j.resseq with
  | some r => k * n + sumNat ((List.range k).map (spill r))
  | none => k * n

/-- DTX: a command takes its lane-operations whatever the operands are (R300). -/
def State.runDtx (s : State) (q : Nat) (j : Job) (r : Slot) (p : Plan) (c : Cmd) : State :=
  let k := bits 18 16 c + 1
  let w0 := bits 21 19 c
  let site := j.siteOf (bits 111 96 c)
  let b := bits 55 40 c
  let n := bits 95 76 c
  let idx := (List.range n).map (bits 75 56 c + ·)
  let ops := if c.sub = 0 then s.projOps q j c else n
  let s := (s.clrWins q w0 k (bit 23 c)).laneops q ops
  let es := idx.map fun i => s.srcVal q j r p site (bits 39 24 c) i
  let bs := if c.sub = 3 then idx.map fun i => s.srcVal q j r p site b i else []
  let grid (xs : List Dy) (es : List (Option Val × Nat × Nat × Bool)) : List Dy :=
    (xs.zip es).map fun (x, e) => onGrid e.2.1 e.2.2.2 e.2.2.1 x
  let fmt := match es with | (_, f, _, _) :: _ => f | [] => 10
  match finite ((es ++ bs).map (·.1)) with
  | none => s.jobNd q
  | some none =>
    let v (ys : List (Option Val × Nat × Nat × Bool)) : List Val := ys.map fun e => e.1.getD .nan
    match c.sub with
    | 0 => s.jobFailed q
    | 1 => s.nonFin q p site w0 (Val.dot (v es) (v es))
    | 2 => s.nonFin q p site w0 (Val.sum (v es))
    | _ => s.nonFin q p site w0 (Val.dot (v es) (v bs))
  | some (some zs) =>
    let xs := zs.take n
    let g := grid xs es
    match c.sub with
    | 0 => s.runProj q j r p c fmt idx xs g
    | 1 => s.addTerms q w0 (grouped fmt) ((idx.zip g).map fun (i, x) => (i, x.mul x)) []
    | 2 => s.addTerms q w0 (grouped fmt) (idx.zip g) []
    | _ =>
      let h := grid (zs.drop n) bs
      s.addTerms q w0 (grouped fmt) ((idx.zip (g.zip h)).map fun (i, x, y) => (i, x.mul y)) []

/-! ### CMPB (R205 to R209, R216, R301) -/

/-- A failed projection queues a re-key of its matrix (R216). -/
def State.rekeyOnFail (s : State) (c site : Nat) : State :=
  if !s.on F.PST_CTRL_REKEY_ON_FAIL then s
  else
    let (s, new) := s.rekeyQueue c site true
    s.when new fun s => s.inc F.PST_CRKFAIL_N c

/-- One window against its bound, with what FAULTSUM tells of it (R369): the flag says whether it passes. Between B and B(1 + 2^-34) the companion's rounding
decides, which is a free value. -/
def State.judgeWin (s : State) (q : Nat) (j : Job) (w : Nat) (c : SiteC) : Bool × State :=
  let x := ((s.lq q).wins.getD w Win.zero)
  if x.nf.isSome then (false, s) else
  let (delta, dwin, _) := winValue x.terms
  let s := s.when (!x.xeps.isZero) fun s => s.sumBit j.stream j.resseq 4
  let u2 := match uOut c.fmtOut c.rnd with | some u => (s.lq q).s1.mul (Dy.pow2 (2 * u)) | none => Dy.zero
  let ga := fp32 c.gammaAcc
  let rad := u2.add ((ga.mul ga).mul x.s2)
  match cmpBound delta dwin (tauOf c.tolc) rad (x.xeps.add (fp32 c.epsAbs)) with
  | some b => (b, s)
  | none => ((s.fresh 1) == 1#1, s.drew)

/-- CMPB. -/
def State.runCmpb (s : State) (q : Nat) (j : Job) (_ : Slot) (p : Plan) (c : Cmd) : State :=
  let site := j.siteOf (bits 95 80 c)
  match p.siteC site with
  | none => s.illMark q j
  | some sc =>
    let (s, bad) := (List.range (bits 18 16 c + 1)).foldl (fun (x : State × Bool) i =>
      let (ok, s) := x.1.judgeWin q j (bits 21 19 c + i) sc
      (s, x.2 || !ok)) (s.teChecked q 24, false)
    if bad then (s.jobFailed q).rekeyOnFail j.ctx site else s

/-! ### RESX (R217 to R221, R302) -/

/-- A value modulo a Mersenne prime 2^w − 1: powers of two wrap at w. -/
def Dy.modM (x : Dy) (w : Nat) : Nat :=
  let m : Int := (2 ^ w - 1 : Nat)
  ((x.m % m) * (2 ^ (x.e % (w : Int)).toNat) % m).toNat

/-- RESX. -/
def State.runResx (s : State) (q : Nat) (j : Job) (r : Slot) (p : Plan) (c : Cmd) : State :=
  let w0 := bits 21 19 c
  let site := j.siteOf (bits 95 80 c)
  if c.sub = 2 then
    let x := (s.lq q).wins.getD w0 Win.zero
    let s := s.teChecked q 25
    if x.m1 = 0 && x.m2 = 0 then s else s.jobFailed q
  else
    let off := bits 59 40 c
    let n := bits 79 60 c
    let s := s.clrWins q w0 1 (bit 23 c)
    let s := s.laneops q ((if c.sub = 0 then 10 else 5) * n)
    match p.tref site (bits 39 24 c) with
    | none => s.illMark q j
    | some t =>
      let idx := (List.range n).map (off + ·)
      match finite (idx.map fun i => r.val t j.token i) with
      | none => s.jobNd q
      | some none => s.jobFailed q
      | some (some xs) =>
        let (v, s) := s.takeVec q j r site 0 true
        match v with
        | none => s
        | some v =>
          let sum (w : Nat) (f : Nat → Nat) : Nat := sumNat ((idx.zip xs).map fun (i, x) => f i * x.modM w) % (2 ^ w - 1)
          if c.sub = 0 then
            let a1 := sum 31 (coeff v.key 1)
            let a2 := sum 61 (coeff v.key 2)
            s.updWin q w0 fun x => { x with m1 := (x.m1 + a1) % mers1, m2 := (x.m2 + a2) % mers2 }
          else
            let a1 := sum 31 fun i => v.q1.getD i 0
            let a2 := sum 61 fun i => v.q2.getD i 0
            s.updWin q w0 fun x => { x with m1 := (x.m1 + mers1 - a1) % mers1, m2 := (x.m2 + mers2 - a2) % mers2 }

/-! ### Decode of a compute command (R297, R310) -/

/-- A command whose own fields are legal and that is illegal for its job all the same (R292, R297): what its site lacks, too many
vector slots, or a DTX PROJ whose lane-operations with its spill terms pass the limit. -/
def State.misfit (s : State) (q : Nat) (j : Job) (p : Plan) (c : Cmd) : Bool :=
  !p.fits j.site c || (c.opc == 3 && c.sub == 0 && decide (65536 < s.projOps q j c))

/-- A compute command of the head job: an illegal command is refused at its decode, a job with FAILED or NOTDONE or in purge skips a
legal one (R310, R312), any other job runs it (R297, R324). Nothing happens where the next command is another one. -/
def State.computeJob (s : State) (q : Nat) (mine : Cmd → Bool) (f : Job → Plan → Cmd → State → State) : State :=
  match s.headCmd q with
  | none => s
  | some (j, p, c) =>
    if !cmdLegal (s.pagesOf q) c then s.illegal q j
    else if !mine c then s
    else if s.misfit q j p c then s.illegal q j
    else if j.failed || j.notDone || j.purge then s.nextCmd q
    else (f j p c s).nextCmd q

/-- A compute command that reads its result's tensors. -/
def State.compute (s : State) (q : Nat) (mine : Cmd → Bool) (f : Job → Slot → Plan → Cmd → State → State) : State :=
  s.computeJob q mine fun j p c s =>
    match s.slotOf j.stream j.resseq with
    | some r => f j r p c s
    | none => s.jobNd q

/-! ### The rows -/

/-- A command of an opcode and sub-operation. -/
def isCmd (opc sub : Nat) (c : Cmd) : Bool := c.opc == opc && c.sub == sub

/-- PRY, DTX, CMPB and RESX (R299 to R302): the queue's head job runs its next command where it is the one named. -/
def opPry (q : Nat) (s : State) : State := s.compute q (isCmd 2 0) fun j r p c s => s.runPry q j r p c
def opDtxProj (q : Nat) (s : State) : State := s.compute q (isCmd 3 0) fun j r p c s => s.runDtx q j r p c
def opDtxSqsum (q : Nat) (s : State) : State := s.compute q (isCmd 3 1) fun j r p c s => s.runDtx q j r p c
def opDtxSum (q : Nat) (s : State) : State := s.compute q (isCmd 3 2) fun j r p c s => s.runDtx q j r p c
def opDtxDot (q : Nat) (s : State) : State := s.compute q (isCmd 3 3) fun j r p c s => s.runDtx q j r p c
def opCmpb (q : Nat) (s : State) : State := s.compute q (isCmd 4 0) fun j r p c s => s.runCmpb q j r p c
def opResxAcc (q : Nat) (s : State) : State := s.compute q (isCmd 5 0) fun j r p c s => s.runResx q j r p c
def opResxInput (q : Nat) (s : State) : State := s.compute q (isCmd 5 1) fun j r p c s => s.runResx q j r p c
def opResxCmp (q : Nat) (s : State) : State := s.compute q (isCmd 5 2) fun j r p c s => s.runResx q j r p c

end Sys2Proof.Machine
end

