-- ==== Sys2Proof/Machine/Real.lean ====
section
/-!
DEFINITION. Quotients, square roots, exponentials, logarithms and the error function on dyadic numbers, to a relative error
below 2^-100: what R242, R243, R258 and R272 evaluate. The companion's own evaluation error, far above that, is a
free value within the limit each rule states.
-/
namespace Sys2Proof.Machine

/-- Binary digits kept. -/
def prec : Nat := 200

/-- A value cut to `prec` significant digits, toward zero. -/
def Dy.trim (a : Dy) : Dy :=
  let k := Nat.log2 a.m.natAbs - prec
  if k = 0 then a else ⟨Int.tdiv a.m (2 ^ k), a.e + k⟩

/-- Quotient to `prec` digits; 0 where the divisor is 0. -/
def Dy.quo (a b : Dy) : Dy :=
  if b.m = 0 then Dy.zero
  else
    let k := prec + Nat.log2 b.m.natAbs - Nat.log2 a.m.natAbs
    ⟨Int.tdiv (a.m * 2 ^ k) b.m, a.e - k - b.e⟩

/-- Bits of an integer square root from the bit below `n` down. -/
def sqrtBits : Nat → Nat → Nat → Nat
  | 0, _, r => r
  | n + 1, x, r => let t := r + 2 ^ n; sqrtBits n x (if t * t ≤ x then t else r)

/-- Square root of a value; 0 of a negative one. -/
def Dy.sqrt (a : Dy) : Dy :=
  if a.m ≤ 0 then Dy.zero
  else
    let k := 2 * prec - Nat.log2 a.m.natAbs
    let k := if (a.e - (k : Int)) % 2 = 0 then k else k + 1
    let m := a.m.natAbs * 2 ^ k
    ⟨sqrtBits (Nat.log2 m / 2 + 1) m 0, Int.fdiv (a.e - k) 2⟩

/-- The natural logarithm of 2, and π. -/
def ln2 : Dy := ⟨1113844574712631719546256151097547306333272293549090750737802, -200⟩
def piD : Dy := ⟨5048344754617993871973410141242436836214643421488662971535368, -200⟩

/-- Terms x^n / n! of the exponential series. -/
def expSeries (x : Dy) : Nat → Nat → Dy → Dy → Dy
  | 0, _, _, s => s
  | f + 1, n, t, s =>
    let t := ((t.mul x).quo (Dy.ofInt (n + 1))).trim
    expSeries x f (n + 1) t (s.add t)

/-- e^x; beyond ±4096 the argument is held, where the value is 0 or infinite to every format. -/
def Dy.exp (x : Dy) : Dy :=
  let x := (x.max (Dy.ofInt (-4096))).min (Dy.ofInt 4096)
  let k := (x.quo ln2).floorAt 0
  let r := (x.sub (ln2.mul (Dy.ofInt k))).trim
  let y := (expSeries r 50 0 (Dy.ofInt 1) (Dy.ofInt 1)).trim
  ⟨y.m, y.e + k⟩

/-- Terms z^(2n+1) / (2n+1) of the series of artanh, z² given. -/
def artanhSeries (z2 : Dy) : Nat → Nat → Dy → Dy → Dy
  | 0, _, _, s => s
  | f + 1, n, t, s =>
    let t := (t.mul z2).trim
    artanhSeries z2 f (n + 1) t (s.add (t.quo (Dy.ofInt (2 * n + 3))))

/-- ln x for x > 0. -/
def Dy.ln (x : Dy) : Dy :=
  let k := x.log2
  let y : Dy := ⟨x.m, x.e - k⟩
  let z := (y.sub (Dy.ofInt 1)).quo (y.add (Dy.ofInt 1))
  let a := artanhSeries ((z.mul z).trim) 70 0 z z
  ((ln2.mul (Dy.ofInt k)).add ((Dy.ofInt 2).mul a)).trim

/-- Terms of the Taylor series of erf, without its factor 2/√π; `t` is (−1)^n z^(2n+1) / n!. -/
def erfSeries (z2 : Dy) : Nat → Nat → Dy → Dy → Dy
  | 0, _, _, s => s
  | f + 1, n, t, s =>
    let t := ((t.mul z2).quo (Dy.ofInt (n + 1))).neg.trim
    erfSeries z2 f (n + 1) t (s.add (t.quo (Dy.ofInt (2 * n + 3))))

/-- The continued fraction z + (1/2)/(z + 1/(z + (3/2)/(z + …))) from level `n` down. -/
def erfcFrac (z : Dy) : Nat → Nat → Dy
  | 0, _ => z
  | f + 1, n => z.add ((⟨n + 1, -1⟩ : Dy).quo (erfcFrac z f (n + 1)))

/-- erfc z, with a small relative error for every z. -/
def Dy.erfc (z : Dy) : Dy :=
  let pos (z : Dy) : Dy :=
    if (Dy.ofInt 2).le z then
      ((((z.mul z).neg).exp).quo ((piD.sqrt).mul (erfcFrac z.trim 300 0))).trim
    else (Dy.ofInt 1).sub (((Dy.ofInt 2).quo piD.sqrt).mul (erfSeries ((z.mul z).trim) 120 0 z z))
  if z.m < 0 then (Dy.ofInt 2).sub (pos z.neg) else pos z

/-! ### The same on values that may be non-finite, as IEEE 754 defines it -/

/-- Quotient; a zero divisor is positive. -/
def Val.quo : Val → Val → Val
  | .nan, _ | _, .nan => .nan
  | .inf _, .inf _ => .nan
  | .inf a, .fin y => .inf (a != decide (y.m < 0))
  | .fin _, .inf _ => .fin Dy.zero
  | .fin x, .fin y => if !y.isZero then .fin (x.quo y) else if x.isZero then .nan else .inf (decide (x.m < 0))

/-- Square root, exponential and complementary error function. -/
def Val.sqrt : Val → Val
  | .fin x => if x.m < 0 then .nan else .fin x.sqrt
  | .inf false => .inf false
  | _ => .nan
def Val.exp : Val → Val
  | .fin x => .fin x.exp
  | .inf n => if n then .fin Dy.zero else .inf false
  | .nan => .nan
def Val.erfc : Val → Val
  | .fin x => .fin x.erfc
  | .inf n => .fin (if n then Dy.ofInt 2 else Dy.zero)
  | .nan => .nan

/-- A finite value cut to the precision of the evaluation. -/
def Val.trim : Val → Val
  | .fin x => .fin x.trim
  | v => v

/-- The error of the companion's evaluation of a value, at most `lim`: a free value. -/
def State.absErr (s : State) (lim : Dy) : Dy × State :=
  let d : Dy := ⟨toSigned 21 (s.fresh 21).toNat, -20⟩
  (lim.mul d, s.drew)

/-- The error of the companion's evaluation of a value, at most 2^-46 of it (R243): a free value. -/
def State.evalErr (s : State) (v : Dy) : Dy × State := s.absErr (v.abs.mul (Dy.pow2 (-46)))

end Sys2Proof.Machine
end

