-- ==== Sys2Proof/Machine/Checks.lean ====
section
/-!
DEFINITION. Elementwise, router, token and attention checks on the tally engines, and sampled attention recompute on the
Mantis pair (R241 to R260, R264 to R273, R303 to R305).
-/
namespace Sys2Proof.Config
open Sys2Proof.Machine

/-- A number of the CONST section as an FP32 code: of a site, by kind (0 the constant c, 1 gain, 2 bias, 3 ε, 4 score scale) and
element. The section's layout is not in the spec. -/
opaque planConst : (const : List Byte) → (site kind i : Nat) → Nat

/-- AES-128 of one 128-bit block (FIPS 197): key and block. -/
opaque aes128 : Nat → Nat → BitVec 128

end Sys2Proof.Config

namespace Sys2Proof.Machine

/-! ### Judging one element (R114, R244 to R247) -/

/-- Largest finite value after a block scale, and the smallest normal. -/
def bigOf (c : Nat) (mx : Bool) (sb : Int) : Dy := let m := fmtMax c mx; ⟨m.m, m.e + sb⟩
def tinyOf (c : Nat) (sb : Int) : Dy := match fmtOf c with | some f => Dy.pow2 (sb + f.emin) | none => Dy.zero

/-- A value rounded to a format under RNE (0) or RTZ: none where the result is non-finite. -/
def roundTo (c : Nat) (mx : Bool) (sb : Int) (rnd : Nat) (v : Dy) : Option Dy :=
  let e := ulpExp c mx sb v
  let q := if rnd = 0 then v.rneAt e else v.truncAt e
  let big := bigOf c mx sb
  let r : Dy := ⟨q, e⟩
  if fmtInt c then
    match fmtOf c with
    | some f => some ⟨clampInt (-(2 ^ (f.bits - 1))) (2 ^ (f.bits - 1) - 1) q, e⟩
    | none => none
  else if r.abs.le big then some r
  else if rnd ≠ 0 || c ≤ 5 then some (if v.m < 0 then big.neg else big)
  else none

/-- Half-width of R245 in ulp: FTOL + h. -/
def halfWidth (sc : SiteC) : Dy := ⟨2 * sc.ftol + (if sc.rnd = 0 then 1 else 2), -1⟩

/-- The interval of R245 around a finite reference `v`, which the companion evaluates as `v + e` (R243). The grid and the
width are those of `v`, so that the error never turns an honest element into a FAIL. -/
def inTol (sc : SiteC) (c : Nat) (mx : Bool) (sb : Int) (e y v : Dy) : Bool :=
  (y.sub (v.add e)).abs.le (((halfWidth sc).mul (Dy.pow2 (ulpExp c mx sb v))).add (v.abs.mul (Dy.pow2 (-46))))

/-- A finite element against a finite reference that the format can hold (R245 to R247). `exact` is none where R246 does not apply;
else whether the element is a negative zero, and the sign that a reference of exactly 0 has. -/
def finOk (sc : SiteC) (c : Nat) (mx : Bool) (sb : Int) (exact : Option (Bool × Bool)) (e y v : Dy) : Bool :=
  let tiny := sc.subn = 1 && !fmtInt c && v.abs.lt (tinyOf c sb)
  (tiny && y.isZero) ||
  (match exact, tiny with
   | some (yneg, zneg), false =>
     (match roundTo c mx sb sc.rnd v with
      | some r => r.eq y && (!r.isZero || fmtInt c || yneg == (if v.isZero then zneg else decide (v.m < 0)))
      | none => false)
   | _, _ => inTol sc c mx sb e y v)

/-- An element non-finite of the same kind as a reference (R114); E4M3 has only NaN. -/
def sameKind (c : Nat) (y v : Val) : Bool :=
  match y, v with
  | .nan, .nan => true
  | .nan, .inf _ => c == 6
  | .inf a, .inf b => a == b
  | _, _ => false

/-- One delivered element against its reference (R114, R247): the site's contract, the format with MX and block scale, the judgement
`f` of a finite element against a finite reference with the error of the companion's evaluation, and that error. An integer format
under SAT NONFINITE has no value for a reference past its largest: R246 then compares with the range's end, which rounding to the
format gives, and R245 with the reference as it is (DESIGN CHOICE, log 108). -/
def elemOk (sc : SiteC) (c : Nat) (mx : Bool) (sb : Int) (f : Dy → Dy → Dy → Bool) (e : Dy) (y v : Val) : Bool :=
  let big := bigOf c mx sb
  match y, v with
  | .fin y, .fin v =>
    if v.abs.le big then f e y v
    else
      let top := if v.m < 0 then big.neg else big
      if sc.sat = 0 then f Dy.zero y top
      else if fmtInt c then f e y v
      else if sc.rnd = 2 then f Dy.zero y top
      else match roundTo c mx sb sc.rnd v with
        | some r => f Dy.zero y r
        | none => false
  | y, .fin v =>
    sc.sat = 1 && !fmtInt c && decide (6 ≤ c) && !v.abs.le big &&
    (sc.rnd = 2 || (roundTo c mx sb sc.rnd v).isNone) && sameKind c y (.inf (decide (v.m < 0)))
  | y, v => sc.sat = 1 && sameKind c y v

/-- REQUANT saturates to the integer range before the comparison of R246. -/
def requantClamp (c : Nat) (mx : Bool) (sb : Int) : Val → Val
  | .fin v =>
    match fmtOf c with
    | some f =>
      let g : Int := sb + intGrid c mx
      .fin ((v.max ⟨-(2 ^ (f.bits - 1)), g⟩).min ⟨2 ^ (f.bits - 1) - 1, g⟩)
    | none => .fin v
  | v => v

/-- The exact group of R242. -/
def exactGroup (func : Nat) : Bool := decide (func ≤ 6) || func == 12

/-! ### Elementwise recompute (R242 to R249, R303) -/

/-- Operands of element `i` of an elementwise function: a, or a and b, or gates and expert outputs in turn. -/
def elmOps (r : Slot) (p : Plan) (site token func a b i : Nat) : Option (List Val) :=
  let at_ (k : Nat) (i : Nat) : Option Val := (p.opnd site k).bind fun t => r.val t token i
  let ka := bits 13 8 a
  let kb := bits 13 8 b
  match func with
  | 1 | 2 | 9 => do let x ← at_ ka i; let y ← at_ kb i; some [x, y]
  | 6 => do
    let g ← p.opnd site kb
    let terms ← (List.range g.count).mapM fun k => do let x ← at_ kb k; let y ← at_ (ka + k) i; some [x, y]
    some terms.flatten
  | _ => do let x ← at_ ka i; some [x]

/-- Σ g·E over pairs in turn. -/
def combine : List Val → Val
  | g :: x :: rest => (g.mul x).add (combine rest)
  | _ => .fin Dy.zero

/-- What the reductions of a row give (R243): the sum and the sum of squares in windows W and W + 1, the number of elements,
and for SOFTMAX the maximum and Σ exp(aⱼ − max). -/
structure RowRed where
  r1 : Val
  r2 : Val
  d : Nat
  top : Val
  den : Val
deriving DecidableEq, Repr

/-- The number of a plan constant. -/
def Plan.constV (p : Plan) (site kind i : Nat) : Val := decodeElem 10 false (Config.planConst p.const site kind i)

/-- A function outside the exact group, evaluated as IEEE 754 does where an operand or a quotient is not finite (R114, R242, R243;
DEDUCED, log 109). -/
def nonlin (p : Plan) (site func i : Nat) (red : RowRed) (xs : List Val) : Val :=
  let one : Val := .fin (Dy.ofInt 1)
  let a := xs.headD .nan
  let d : Val := .fin (Dy.ofInt red.d)
  match func with
  | 7 => ((p.constV site 1 i).mul a).quo ((red.r1.quo d).add (p.constV site 3 0)).sqrt
  | 8 =>
    let mu := red.r1.quo d
    let var := (red.r2.quo d).add (mu.mul mu).neg
    (((p.constV site 1 i).mul (a.add mu.neg)).quo (var.add (p.constV site 3 0)).sqrt).add (p.constV site 2 i)
  | 9 => let g := xs.getD 1 .nan; (a.mul g).quo (one.add g.neg.exp)
  | 10 =>
    let k : Val := .fin ((Dy.ofInt 2).quo piD).sqrt
    let t := k.mul (a.add ((Val.fin ((Dy.ofInt 44715).quo (Dy.ofInt 1000000))).mul ((a.mul a).mul a)))
    a.quo (one.add ((Val.fin (Dy.ofInt (-2))).mul t).exp)
  | 11 => ((Val.fin (Dy.pow2 (-1))).mul a).mul (a.neg.quo (.fin (Dy.ofInt 2).sqrt)).erfc
  | _ => (a.add red.top.neg).exp.quo red.den

/-- Reference value of one element, the error of its evaluation (R243), and the sign of a zero: a value of exactly 0 has none in the
spec, so it is free (log 109). -/
def State.elmRef (s : State) (p : Plan) (site func i : Nat) (red : RowRed) (xs : List Val) : (Val × Dy × Bool) × State :=
  let a := xs.headD .nan
  let b := xs.getD 1 .nan
  let exact (v : Val) : (Val × Dy × Bool) × State := ((v, Dy.zero, (s.fresh 1) == 1#1), s.drew)
  match func with
  | 1 => exact (a.add b)
  | 2 => exact (a.add b.neg)
  | 3 | 5 => exact (a.mul (p.constV site 0 0))
  | 4 => exact a
  | 6 => exact (combine xs)
  | 12 => exact (match a with | .nan => .nan | v => if v.le (.fin Dy.zero) then .fin Dy.zero else v)
  | _ =>
    match nonlin p site func i red xs with
    | .fin v => let (e, s) := s.evalErr v; ((.fin v, e, false), s)
    | v => ((v, Dy.zero, false), s)

/-- Elements whose references a range needs: with MX every element of the blocks it touches (R248). -/
def refRange (t : TensD) (off n : Nat) : List Nat :=
  if t.mx then
    let lo := off / 32 * 32
    (List.range (min (ceilDiv (off + n) 32 * 32) (max t.count (off + n)) - lo)).map (lo + ·)
  else (List.range n).map (off + ·)

/-- The reference scale exponent of a block, over its finite references that are not 0 (R248). -/
def sRef (c : Nat) (mx : Bool) (vs : List Val) : Option Int :=
  let fs := vs.filterMap fun v => match v with | .fin x => if x.isZero then none else some x.abs | _ => none
  match fs with
  | [] => none
  | x :: xs => some (clampInt (-127) 127 ((xs.foldl Dy.max x).log2 - (fmtMax c mx).log2))

/-- The delivered code is a negative zero. -/
def negZero (c code : Nat) : Bool := !fmtInt c && match fmtOf c with | some f => code == 2 ^ (f.bits - 1) | none => false

/-- ELM's judgement of an element range given the references of the blocks it touches. -/
def elmJudge (sc : SiteC) (t : TensD) (func : Nat) (refs : List (Nat × Val × Dy × Bool)) (ys : List (Nat × Nat × Nat)) : Bool :=
  let bitExact := exactGroup func && sc.ftol = 0 && sc.rnd ≠ 2
  ys.all fun (i, code, b) =>
    match refs.find? fun x => x.1 == i with
    | none => false
    | some (_, v, er, zneg) =>
      let y := decodeScaled t.fmt t.mx b code
      let one (sb : Int) : Bool :=
        let v := if bitExact && func == 5 && fmtInt t.fmt then requantClamp t.fmt t.mx sb v else v
        let f := finOk sc t.fmt t.mx sb (if bitExact then some (negZero t.fmt code, zneg) else none)
        match y, v with
        | .fin y', .fin v' => if bitExact && func == 5 && fmtInt t.fmt then f er y' v' else elemOk sc t.fmt t.mx sb f er y v
        | _, _ => elemOk sc t.fmt t.mx sb f er y v
      if !t.mx then one 0
      else
        match sRef t.fmt t.mx ((refs.filter fun x => x.1 / 32 == i / 32).map (·.2.1)) with
        | some e => b ≠ 255 && (((b : Int) - 127 == e) || ((b : Int) - 127 == e + 1)) && one ((b : Int) - 127)
        | none =>
          match v with
          | .fin _ => (match y with | .fin z => z.isZero | _ => false)
          | _ => one ((b : Int) - 127)

/-- Values of a whole tensor for a token; none when an element is missing. -/
def Slot.vals (r : Slot) (t : TensD) (token : Nat) : Option (List Val) :=
  (List.range t.count).mapM fun i => r.val t token i

/-- The reductions ELM reads: windows W and W + 1, and for SOFTMAX those of its whole operand. None when an operand is
missing, and the flag when one is not finite. -/
def State.rowRed (s : State) (q : Nat) (r : Slot) (p : Plan) (site token func a w : Nat) : Option (RowRed × Bool) :=
  match p.opnd site (bits 13 8 a) with
  | none => none
  | some t =>
    let wa := (s.lq q).wins.getD w Win.zero
    let wb := (s.lq q).wins.getD (w + 1) Win.zero
    let z : RowRed := ⟨wa.val, wb.val, t.count, .nan, .nan⟩
    match func with
    | 7 => some (z, wa.nf.isSome)
    | 8 => some (z, wa.nf.isSome || wb.nf.isSome)
    | 13 =>
      match r.vals t token with
      | none => none
      | some vs =>
        let top := vs.foldl Val.max (.inf true)
        some ({ z with top := top, den := Val.sum (vs.map fun y => (y.add top.neg).exp) }, vs.any fun v => v.dy?.isNone)
    | _ => some (z, false)

/-- References of a list of elements; none for an element whose operands have not been accepted. -/
def State.elmRefs (s : State) (r : Slot) (p : Plan) (site token func a b : Nat) (red : RowRed) :
    List Nat → List (Nat × Val × Dy × Bool) × State
  | [] => ([], s)
  | i :: is =>
    match elmOps r p site token func a b i with
    | none => s.elmRefs r p site token func a b red is
    | some xs =>
      let (v, s) := s.elmRef p site func i red xs
      let (vs, s) := s.elmRefs r p site token func a b red is
      ((i, v) :: vs, s)

/-- ELM (R303). -/
def State.runElm (s : State) (q : Nat) (j : Job) (r : Slot) (p : Plan) (c : Cmd) : State :=
  let func := bits 23 16 c
  let site := j.siteOf (bits 127 112 c)
  let a := bits 63 48 c
  let b := bits 79 64 c
  let off := bits 96 80 c
  let n := bits 111 97 c
  match p.tref site (bits 47 32 c), p.siteC site with
  | some t, some sc =>
    let s := (s.vslots q (p.slots j.site c)).teChecked q 26
    let idx := (List.range n).map (off + ·)
    let es := idx.map fun i => r.el t j.token i
    let ops := idx.map fun i => elmOps r p site j.token func a b i
    match s.rowRed q r p site j.token func a (bits 26 24 c) with
    | none => s.jobNd q
    | some (red, nf) =>
      if es.any (·.isNone) || ops.any (·.isNone) then s.jobNd q
      else
        let ys := (idx.zip es).map fun (i, e) => let e := e.getD (0, 127); (i, e.1, e.2)
        let bad (v : Val) : Bool := v.dy?.isNone
        let trap := sc.sat = 0 && (nf || ops.any (fun o => (o.getD []).any bad) ||
          ys.any fun (_, code, sb) => bad (decodeScaled t.fmt t.mx sb code))
        if trap then s.jobFailed q
        else
          let (refs, s) := s.elmRefs r p site j.token func a b red (refRange t off n)
          if elmJudge sc t func refs ys then s else s.jobFailed q
  | _, _ => s.illMark q j

/-! ### Router recompute (R250 to R254, R304) -/

/-- A value that is an integer below `n`. -/
def Val.index (n : Nat) : Val → Option Nat
  | .fin x => gatherIdx x n
  | _ => none

/-- The selection of R251: K distinct experts, none of which has a smaller logit than an expert outside. -/
def selectOk (ls : List Val) (sel : List Nat) : Bool :=
  decide sel.Nodup && sel.all fun i =>
    match ls[i]? with
    | some x => (List.range ls.length).all fun k => sel.contains k || (ls.getD k .nan).le x
    | none => false

/-- Whether a TENSOR record of an expert outside the selection has been accepted (R253). -/
def Slot.strayExpert (r : Slot) (d : RouterD) (token : Nat) (sel : List Nat) : Bool :=
  r.parts.any fun x =>
    x.token == token &&
    match x.site with
    | some st => (d.expertSites.zip (List.range d.expertSites.length)).any fun e => e.1.contains st && !sel.contains e.2
    | none => false

/-- Logits, selection and their router; a missing element ends NOT DONE. -/
def State.router (s : State) (q : Nat) (j : Job) (r : Slot) (p : Plan) (c : Cmd)
    (f : RouterD → List Val → List Val → State → State) : State :=
  let site := j.siteOf (bits 127 112 c)
  match p.tref site (bits 47 32 c), p.tref site (bits 63 48 c), p.graph.routers.find? (fun d => d.site == site), p.siteC site with
  | some l, some t, some d, some sc =>
    match r.vals l j.token, r.vals t j.token with
    | some ls, some ss =>
      if sc.sat = 0 && (ls ++ ss).any (fun v => v.dy?.isNone) then s.jobFailed q
      else f d ls ss (s.vslots q l.count)
    | _, _ => s.jobNd q
  | _, _, _, _ => s.illMark q j

/-- RTE SELECT. -/
def State.runSelect (s : State) (q : Nat) (j : Job) (r : Slot) (p : Plan) (c : Cmd) : State :=
  s.router q j r p c fun d ls ss s =>
    let idx := ss.map fun v => v.index d.experts
    let sel := idx.filterMap id
    let s := s.updSlot j.stream j.resseq fun x => { x with sel := (d.site, j.token, sel) :: x.sel }
    let stray := r.strayExpert d j.token sel
    let s := s.when stray fun s => s.updSlot j.stream j.resseq fun x => { x with rteBad := luKey d.site j.token :: x.rteBad }
    if stray || idx.any (·.isNone) || sel.length ≠ d.topK || !selectOk (ls.take d.experts) sel then s.jobFailed q else s

/-- The gates of R250. -/
def gateRefs (renorm : Bool) (ls : List Val) (sel : List Nat) : List Val :=
  let top := (if renorm then ls else sel.map fun i => ls.getD i .nan).foldl Val.max (.inf true)
  let es := ls.map fun x => (x.add top.neg).exp
  let pick := sel.map fun i => es.getD i .nan
  if renorm then
    let ps := pick.map fun x => x.quo (Val.sum es)
    ps.map fun x => x.quo (Val.sum ps)
  else pick.map fun x => x.quo (Val.sum pick)

/-- Gates judged one by one (R252). -/
def State.judgeGates (s : State) (sc : SiteC) (t : TensD) : List (Val × Val × Nat) → Bool × State
  | [] => (true, s)
  | (y, v, b) :: xs =>
    let (e, s) := match v with | .fin x => s.evalErr x | _ => (Dy.zero, s)
    let ok := elemOk sc t.fmt t.mx (scaleOf t b) (finOk sc t.fmt t.mx (scaleOf t b) none) e y v
    let (rest, s) := s.judgeGates sc t xs
    (ok && rest, s)

/-- RTE GATE, under the contract of the gate site (R252). -/
def State.runGate (s : State) (q : Nat) (j : Job) (r : Slot) (p : Plan) (c : Cmd) : State :=
  s.router q j r p c fun d ls ss s =>
    match p.tref d.site (bits 79 64 c), p.siteC d.gateSite with
    | some t, some sc =>
      match (List.range d.topK).mapM fun i => r.el t j.token i with
      | none => s.jobNd q
      | some es =>
        let s := s.vslots q (2 * ls.length)
        let ys := es.map fun e => decodeScaled t.fmt t.mx e.2 e.1
        match ss.mapM fun v => v.index d.experts with
        | none => s.jobFailed q
        | some sel =>
          if sc.sat = 0 && (ls ++ ys).any (fun v => v.dy?.isNone) || sel.length ≠ d.topK then s.jobFailed q
          else
            let (ok, s) := s.judgeGates sc t (ys.zip ((gateRefs d.renorm (ls.take d.experts) sel).zip (es.map (·.2))))
            if ok then s else s.jobFailed q
    | _, _ => s.illMark q j

/-! ### Token choice (R255 to R260, R304) -/

/-- The uniform u of a logit as an odd multiple of 2^-33 (R258). -/
def gumbelU (seed token i : Nat) : Dy :=
  let w : Nat := (Config.aes128 (seed + 2 ^ 64 * token) (i / 4)).toNat / 2 ^ (32 * (i % 4)) % 2 ^ 32
  ⟨2 * w + 1, -33⟩

/-- The score of a logit as the companion evaluates it (R258); the logit itself under GREEDY. -/
def State.score (s : State) (d : TokD) (seed token i : Nat) : Val → Val × State
  | .fin l =>
    if !d.gumbel then (.fin l, s)
    else
      let v := (l.quo (fp32 d.temp)).sub ((gumbelU seed token i).ln.neg.ln)
      let (e, s) := s.absErr ((Dy.pow2 (-40)).mul (v.abs.max (Dy.ofInt 1)))
      (.fin (v.add e), s)
  | l => (l, s)

/-- The smallest logit inside the filter F (R257); none admits every logit. A NaN is no logit of F (DEDUCED, log 109). -/
def filterMin (d : TokD) (ls : List Val) : Option Val :=
  if d.topK = 0 then none
  else
    let ls := ls.filter (· != .nan)
    ls.find? fun x => decide ((ls.filter fun y => x.lt y).length < d.topK) && decide (d.topK ≤ (ls.filter fun y => x.le y).length)

/-- Whether a logit is inside F. -/
def inFilter (d : TokD) (ls : List Val) (x : Val) : Bool :=
  x != .nan && match filterMin d ls with | some m => m.le x | none => true

/-- The best of a slice merged into a partial: score, index and largest logit; a NaN never wins (DEDUCED, log 109). -/
def State.bestSlice (s : State) (d : TokD) (seed token : Nat) (all : List Val) :
    List (Nat × Val) → Val × Nat × Val → (Val × Nat × Val) × State
  | [], b => (b, s)
  | (i, l) :: xs, (bv, bi, bl) =>
    let (v, s) := s.score d seed token i l
    let bl := if bl.lt l then l else bl
    s.bestSlice d seed token all xs (if inFilter d all l && bv.lt v then (v, i, bl) else (bv, bi, bl))

/-- An initialised partial: no logit has won (DESIGN CHOICE, log 109: the spec gives no contents). -/
def noBest : Val × Nat × Val := (.inf true, 0, .inf true)

/-- Words of a queue's scratch that a takeover has lost and nothing has written since (R320). -/
def State.scrLost (s : State) (q a : Nat) : Bool := (s.lq q).lostScr && !(s.lq q).scratch.any fun x => x.1 == a

/-- A partial in scratch; what no TOKSLICE has written is a free value. -/
def State.partial_ (s : State) (q a : Nat) : (Val × Nat × Val) × State :=
  match (s.lq q).scratch.find? fun x => x.1 == a with
  | some (_, .best v i l) => ((v, i, l), s)
  | _ => ((.fin ⟨toSigned 32 (s.fresh 32).toNat, -16⟩, (s.drew.fresh 32).toNat,
      .fin ⟨toSigned 32 (s.drew.drew.fresh 32).toNat, -16⟩), s.drew.drew.drew)

/-- Something is written to a queue's scratch. -/
def State.setScr (s : State) (q a : Nat) (x : Scr) : State :=
  s.updLq q fun l => { l with scratch := (a, x) :: l.scratch.filter fun y => y.1 != a }

/-- TOKSLICE, at 4 slots for each logit that GUMBEL scores and 1 under GREEDY (R292, R304; log 71). -/
def State.runTokslice (s : State) (q : Nat) (j : Job) (r : Slot) (p : Plan) (c : Cmd) : State :=
  let site := j.siteOf (bits 127 112 c)
  let a := bits 77 64 c
  let n := bits 111 97 c
  match p.tref site (bits 47 32 c), p.tok.find? (fun d => d.site == site), p.siteC site with
  | some t, some d, some sc =>
    let s := s.vslots q (p.slots j.site c)
    let idx := (List.range n).map (bits 96 80 c + ·)
    match idx.mapM fun i => (r.val t j.token i).map fun v => (i, v), if d.topK = 0 then some [] else r.vals t j.token with
    | some ls, some all =>
      if !bit 20 c && s.scrLost q a then s.jobNd q
      else if sc.sat = 0 && (ls.map (·.2) ++ all).any (fun v => v.dy?.isNone) then s.jobFailed q
      else
        let (b, s) := if bit 20 c then (noBest, s) else s.partial_ q a
        let ((v, i, l), s) := s.bestSlice d ((s.st j.stream).seed j.resseq) j.token all ls b
        s.setScr q a (.best v i l)
    | _, _ => s.jobNd q
  | _, _, _ => s.illMark q j

/-- Partials of TOKJOIN's slices. -/
def State.partials (s : State) (c a : Nat) : List Nat → List (Val × Nat × Val) × State
  | [] => ([], s)
  | k :: ks =>
    match (s.ctx c).lqs[k]? with
    | none => s.partials c a ks
    | some q =>
      let (b, s) := s.partial_ q a
      let (bs, s) := s.partials c a ks
      (b :: bs, s)

/-- Whether a takeover has lost the partial of one of TOKJOIN's slices (R320). -/
def State.sliceLost (s : State) (c a : Nat) (ks : List Nat) : Bool :=
  ks.any fun k => match (s.ctx c).lqs[k]? with | some q => s.scrLost q a | none => false

/-- Whether a score is within θ of the best (R259). Of an infinite best there is no θ: the score then equals it (DEDUCED, log 109). -/
def nearBest (ftol : Nat) (best score : Val) : Bool :=
  match best with
  | .fin m => (Val.fin (m.sub ((⟨ftol + 1, -20⟩ : Dy).mul (m.abs.max (Dy.ofInt 1))))).le score
  | m => m.le score

/-- TOKJOIN (R259); a partial that a takeover has lost ends it NOT DONE (R320). -/
def State.runTokjoin (s : State) (q : Nat) (j : Job) (r : Slot) (p : Plan) (c : Cmd) : State :=
  let site := j.siteOf (bits 127 112 c)
  let nsl := bits 19 16 c
  match p.tref site (bits 47 32 c), p.tref site (bits 63 48 c), p.tok.find? (fun d => d.site == site), p.siteC site with
  | some t, some tt, some d, some sc =>
    let s := s.vslots q nsl
    match r.val tt j.token 0 with
    | none => s.jobNd q
    | some v =>
      match v.index t.count with
      | none => s.jobFailed q
      | some i =>
        match r.val t j.token i with
        | none => s.jobNd q
        | some l =>
          let ks := (List.range nsl).map (bits 25 20 c + ·)
          if s.sliceLost j.ctx (bits 77 64 c) ks then s.jobNd q
          else if sc.sat = 0 && l.dy?.isNone then s.jobFailed q
          else
            let (bs, s) := s.partials j.ctx (bits 77 64 c) ks
            let most (xs : List Val) : Val := xs.foldl (fun m x => if m.lt x then x else m) (.inf true)
            if !d.gumbel then (if (most (bs.map (·.2.2))).le l then s else s.jobFailed q)
            else
              let (v, s) := s.score d ((s.st j.stream).seed j.resseq) j.token i l
              if inFilter d ((r.vals t j.token).getD []) l && nearBest sc.ftol (most (bs.map (·.1))) v then s else s.jobFailed q
  | _, _, _, _ => s.illMark q j

/-! ### Attention envelope (R264 to R269, R305) -/

/-- Bounds of two hulls joined component by component. -/
def joinBounds : List (Val × Val) → List (Val × Val) → List (Val × Val)
  | a :: as, b :: bs => (a.1.min b.1, a.2.max b.2) :: joinBounds as bs
  | [], bs => bs
  | as, [] => as

/-- Positions of a layer held after the committed ones, up to `pos` (R266). -/
def Stream.pendingTo (x : Stream) (a : AttnD) (pos : Nat) : List Nat :=
  (x.kv.filter fun r => r.site == a.kvSite && !r.folded && decide (r.pos ≤ pos)).map (·.pos)

/-- Whether a block of a hull takes part in a check at a position (R267). -/
def AttnD.overlaps (a : AttnD) (pos block : Nat) : Bool :=
  a.window == 0 || (decide (a.from_ pos ≤ block * 64 + 63) && decide (block * 64 ≤ pos))

/-- The hull of a check (R266, R267): committed blocks joined with the pending rows. -/
def Stream.hullAt (x : Stream) (p : Plan) (pair : Nat) (ah : AttnD × Nat) (pos : Nat) : List (Val × Val) :=
  let hs := (x.hulls.filter fun h => h.pair == pair && ah.1.overlaps pos h.block).map (·.bounds)
  let rows := ((x.pendingTo ah.1 pos).filter fun k => ah.1.overlaps pos (ah.1.block k)).filterMap fun k => x.vRow p ah.1 ah.2 k
  rows.foldl joinRow (hs.foldl joinBounds [])

/-- Element offset of a query head's output (R145). -/
def AttnD.headOff (a : AttnD) (h head : Nat) : Nat := (h * (a.qHeads / max 1 a.kvHeads) + head) * a.dHead

/-- Components of a query head's output. -/
def Slot.headOut (r : Slot) (t : TensD) (a : AttnD) (h head token : Nat) : List (Option (Nat × Nat)) :=
  (List.range a.dHead).map fun i => r.el t token (a.headOff h head + i)

/-- One component against its bounds (R265): tol takes the ulp of the larger finite magnitude. An infinite bound stands for itself,
and beside one a finite bound has an infinite tol; a NaN lies within no bounds (DEDUCED, log 109). -/
def inHull (tol : Dy → Dy) (o : Val) : Val × Val → Bool
  | (.fin lo, .fin hi) =>
    let w := tol (lo.abs.max hi.abs)
    (Val.fin (lo.sub w)).le o && o.le (.fin (hi.add w))
  | (lo, hi) =>
    o != .nan && lo != .nan && hi != .nan && (lo.dy?.isSome || lo.le o) && (hi.dy?.isSome || o.le hi)

/-- ENV CHECK. While the queue's state is being copied from a faulted engine, the check ends NOT DONE (R269). -/
def State.runEnvCheck (s : State) (q : Nat) (j : Job) (r : Slot) (p : Plan) (c : Cmd) : State :=
  let pair := bits 23 16 c
  let site := j.siteOf (bits 127 112 c)
  let x := (s.st j.stream).asOf j.resseq
  match p.tref site (bits 47 32 c), p.pairs[pair]?, p.siteC site with
  | some t, some (a, h), some sc =>
    let s := s.vslots q a.dHead
    let pos := r.ctxpos + j.token
    let es := r.headOut t a h (bits 29 24 c) j.token
    if (s.lq q).copying || es.any (·.isNone) || 256 < (x.pendingTo a pos).length || (a.window == 0 && x.hullBad) ||
        !(x.kv.any fun k => k.site == a.kvSite && k.pos == pos) then s.jobNd q
    else
      let hull := x.hullAt p pair (a, h) pos
      let os := es.map fun e => let e := e.getD (0, 127); (decodeScaled t.fmt t.mx e.2 e.1, e.2)
      let ok := (os.zip hull).all fun ((o, b), w) =>
        inHull (fun m => ((Dy.ofInt (sc.ftol + 1)).mul (Dy.pow2 (ulpExp t.fmt t.mx (scaleOf t b) m))).add (fp32 sc.epsAbs)) o w
      let bad (v : Val) : Bool := v.dy?.isNone
      let trap := sc.sat = 0 && (os.any (fun o => bad o.1) || hull.any fun w => bad w.1 || bad w.2)
      if ok && !trap then s else s.jobFailed q
  | _, _, _ => s.illMark q j

/-- Positions of an ADDROW, COMMIT or RECOMP (R305). -/
def Cmd.positions (c : Cmd) (pos : Nat) : List Nat :=
  let p0 := if bits 99 80 c = 0xFFFFF then pos else bits 99 80 c
  (List.range (bits 111 100 c)).map (p0 + ·)

/-- ENV ADDROW and COMMIT: rows folded into the pending or the committed hull of a pair (R266, R305). The formation of the verdict has
folded the rows of a result, so a COMMIT job of the VDU finds them in the hull already (log 110). -/
def State.runFold (s : State) (commit : Bool) (q : Nat) (j : Job) (p : Plan) (c : Cmd) : State :=
  let pair := bits 23 16 c
  match p.pairs[pair]? with
  | some ah =>
    let ps := c.positions j.pos
    let s := s.vslots q (ps.length * ah.1.dHead)
    let held (k : Nat) : Bool := ((s.st j.stream).asOf j.resseq).kv.any fun y =>
      y.site == ah.1.kvSite && y.pos == k && (!j.vdu || y.folded)
    if !(ps.all held) then s.jobNd q
    else if commit then s.updKv j.stream j.resseq fun x => ps.foldl (fun x k => x.foldPos p pair ah k) x
    else s.updKv j.stream j.resseq fun x =>
      { x with pend := ps.foldl (fun l k => if l.contains (pair, k) then l else (pair, k) :: l) x.pend }
  | none => s.illMark q j

/-- ENV REBUILD; its slots under R292 are those of the positions it names. -/
def State.runRebuild (s : State) (q : Nat) (j : Job) (p : Plan) (c : Cmd) : State :=
  let pair := bits 23 16 c
  match p.pairs[pair]? with
  | some (a, _) =>
    let n := (((s.st j.stream).asOf j.resseq).kv.filter fun r => r.site == a.kvSite && !r.folded).length
    let s := s.vslots q (n * a.dHead)
    s.updKv j.stream j.resseq fun x => { x with
      pend := x.pend.filter (fun e => e.1 != pair) ++ (x.rebuild p).pend.filter fun e => e.1 == pair }
  | none => s.illMark q j

/-! ### Attention recompute (R272, R305) -/

/-- A head's K or V row of a position in the KV copy. -/
def Stream.kvVals (x : Stream) (p : Plan) (a : AttnD) (h pos : Nat) (values : Bool) : Option (List Val) :=
  match x.kv.find? fun r => r.site == a.kvSite && r.pos == pos, p.portTensor a.kvSite 1 with
  | some r, some t => some (rowVals t r.codes r.scales ((if values then a.vOff else a.kOff) + h * a.dHead) a.dHead)
  | _, _ => none

/-- Softmax attention of one query over rows of keys and values, component by component (R272). -/
def attention (scale : Val) (qv : List Val) (rows : List (List Val × List Val)) (d : Nat) : List Val :=
  let sc := rows.map fun r => (scale.mul (Val.dot qv r.1)).trim
  let top := sc.foldl Val.max (.inf true)
  let es := sc.map fun x => (x.add top.neg).exp
  let den := Val.sum es
  (List.range d).map fun i => (Val.sum ((es.zip rows).map fun (e, r) => e.mul (r.2.getD i (.fin Dy.zero)))).quo den

/-- A finite component against a finite recompute `v + e` (R272): `mc` is max |V| of the component, `n` the attended count. -/
def compOk (sc : SiteC) (t : TensD) (b n : Nat) (mc e o v : Dy) : Bool :=
  let w := v.add e
  let u := (halfWidth sc).mul (Dy.pow2 (ulpExp t.fmt t.mx (scaleOf t b) w))
  let g := (((fp32 sc.gammaAcc).mul (Dy.ofInt n).sqrt).add (Dy.pow2 (-16))).mul mc
  (o.sub w).abs.le ((u.add g).add (fp32 sc.epsAbs))

/-- Components judged against the recompute (R114, R272): finite ones by R272's bound as it stands, others as R114 says; an infinite m_c
bounds nothing. -/
def State.judgeComps (s : State) (sc : SiteC) (t : TensD) (n : Nat) : List ((Nat × Nat) × Val × Val) → Bool × State
  | [] => (true, s)
  | (e, v, mc) :: xs =>
    let m := mc.dy?.getD Dy.zero
    let (er, s) := s.absErr ((Dy.pow2 (-17)).mul m)
    let ok := match decodeScaled t.fmt t.mx e.2 e.1, v, sc.sat with
      | .fin o, .fin w, 0 => compOk sc t e.2 n m er o w
      | o, w, _ => elemOk sc t.fmt t.mx (scaleOf t e.2) (compOk sc t e.2 n m) er o w
    let (rest, s) := s.judgeComps sc t n xs
    (ok && rest, s)

/-- One query head over positions (R272), its outputs in tensor `t` and its queries in `tq`: 0 PASS, 1 FAIL, 2 NOT DONE. -/
def State.judgeHead (s : State) (r : Slot) (p : Plan) (i : Nat) (t tq : TensD) (a : AttnD) (h head token : Nat) (ps : List Nat) :
    Nat × State :=
  let x := (s.st i).asOf r.resseq
  match p.siteC a.site with
  | some sc =>
    let qo := a.qOff + a.headOff h head
    let qs := (List.range a.dHead).mapM fun k => r.val tq token (qo + k)
    let ks := ps.mapM fun k => x.kvVals p a h k false
    let vs := ps.mapM fun k => x.kvVals p a h k true
    match qs, ks, vs, (r.headOut t a h head token).mapM id with
    | some qs, some ks, some vs, some es =>
      if sc.sat = 0 && (qs ++ ks.flatten ++ vs.flatten ++ es.map fun e => decodeScaled t.fmt t.mx e.2 e.1).any fun v => v.dy?.isNone then (1, s)
      else
        let o := attention (p.constV a.site 4 0) qs (ks.zip vs) a.dHead
        let mc := (List.range a.dHead).map fun k => vs.foldl (fun m r => m.max (r.getD k (.fin Dy.zero)).abs) (.fin Dy.zero)
        let (ok, s) := s.judgeComps sc t ps.length (es.zip (o.zip mc))
        (if ok then 0 else 1, s)
    | _, _, _, _ => (2, s)
  | none => (2, s)

/-- ENV RECOMP: positions join the head's partial; the last command judges the head's output O on the queries Q over the positions that
the token attends (R272, R305). Where the commands have not named all of these, as where a takeover has lost a partial, the check ends NOT
DONE (R320; DEDUCED, log 162). -/
def State.runRecomp (s : State) (q : Nat) (j : Job) (r : Slot) (p : Plan) (c : Cmd) : State :=
  let addr := bits 77 64 c
  let site := j.siteOf (bits 127 112 c)
  match p.pairs[bits 23 16 c]?, p.tref site (bits 47 32 c), p.tref site (bits 63 48 c) with
  | some (a, h), some t, some tq =>
    let ps := c.positions j.pos
    let s := s.vslots q (ps.length * 2 * a.dHead)
    let old := match (s.lq q).scratch.find? fun x => x.1 == addr with | some (_, .soft l) => l | _ => []
    let all := old ++ ps
    if !bit 30 c then s.setScr q addr (.soft all)
    else
      let s := s.updLq q fun l => { l with scratch := l.scratch.filter fun y => y.1 != addr }
      let ps := (List.range (a.attended j.pos)).map (a.from_ j.pos + ·)
      let (o, s) := if ps.all all.contains then s.judgeHead r p j.stream t tq a h (bits 29 24 c) j.token ps else (2, s)
      match o with | 0 => s | 1 => s.jobFailed q | _ => s.jobNd q
  | _, _, _ => s.illMark q j

/-! ### Sampled recompute on the Mantis pair (R270 to R273, R434 to R437) -/

/-- Every query head of a pair's KV head for every token of the result, in turn (R272). -/
def State.judgePair (s : State) (r : Slot) (p : Plan) (i : Nat) (a : AttnD) (h : Nat) : List (Nat × Nat) → Nat × State
  | [] => (0, s)
  | (head, token) :: xs =>
    let pos := r.ctxpos + token
    let ps := (List.range (a.attended pos)).map (a.from_ pos + ·)
    let (o, s) := match p.tensor a.outTensor, p.portTensor a.kvSite 1 with
      | some t, some tq => s.judgeHead r p i t tq a h head token ps
      | _, _ => (2, s)
    let (rest, s) := s.judgePair r p i a h xs
    (if o = 1 || rest = 1 then 1 else max o rest, s)

/-- The outcome of a SAR job with its multiply-accumulates (R272, R273). -/
def State.judgeSar (s : State) (j : SarJob) : Nat × Nat × State :=
  match s.slotOf j.stream j.resseq, s.planOf j.stream with
  | some r, some p =>
    match p.pairs[j.pair]? with
    | some (a, h) =>
      let g := a.qHeads / max 1 a.kvHeads
      let hs := (List.range r.ntok).flatMap fun t => (List.range g).map fun k => (k, t)
      let (o, s) := s.judgePair r p j.stream a h hs
      (o, g * a.headLu r.ctxpos r.ntok, s)
    | none => (2, 0, s)
  | _, _ => (2, 0, s)

/-- A SAR job's end is signalled to the semaphore its program names (R401). -/
def State.sarSignal (s : State) (e : Nat) (j : SarJob) : State :=
  match s.slotOf j.stream j.resseq, s.planOf j.stream with
  | some r, some p =>
    match p.sem.sar.find? fun f => f.pair == j.pair with
    | some f => (match s.semAbs r.ctx r.bank f.join false with | some n => s.joinSignal (4 + e) j.stream j.resseq r.ctx n | none => s)
    | none => s
  | _, _ => s

/-- SAR_JOB_DONE (R272, R435, R437, R438): with a checksum error the outcome is discarded and the job runs again on the other
engine, where it is in service and the deadline has not passed; it waits where that engine's queue is full. A job that a warm or monitor
step has pre-empted does not end. -/
def opSarJobDone (e : Nat) (ck : Bool) (s : State) : State :=
  match (if s.engClk && !s.preempted e then (s.sh e).run else none) with
  | none => s
  | some j =>
    let tiles := s.sarTiles j true
    let s := s.updSh e fun x => { x with run := none, stage := tiles }
    let (o, n, s) := s.judgeSar j
    let s := s.macs e n
    let report (o : Nat) (s : State) : State :=
      ((s.inc F.SH_SARJOBS_N e).chkReport j.stream j.resseq j.chk 7 o 0
        ((s.planOf j.stream).elim 0 fun p => match p.pairs[j.pair]? with | some (a, _) => a.site | none => 0)
        false (natLe 1 j.pair)).sarSignal e j
    let s :=
      if !ck then report o s
      else
        let s := s.cksumErr e
        let again := match s.slotOf j.stream j.resseq with
          | some r => !r.formed && decide (s.ns < r.deadline)
          | none => false
        if again && s.sarEng (1 - e) then
          let j := { j with on := some (1 - e) }
          if (s.sh (1 - e)).queue.length < 32 then s.sarEnq (1 - e) j
          else s.updMnt fun m => { m with waitSar := m.waitSar ++ [j] }
        else report 2 s
    (s.freeBanks j.stream).settle

/-! ### The rows -/

/-- ELM, RTE and ENV (R303 to R305): the queue's head job runs its next command where it is the one named. -/
def opElm (q : Nat) (s : State) : State := s.compute q (isCmd 6 0) fun j r p c s => s.runElm q j r p c
def opRteSelect (q : Nat) (s : State) : State := s.compute q (isCmd 7 0) fun j r p c s => s.runSelect q j r p c
def opRteGate (q : Nat) (s : State) : State := s.compute q (isCmd 7 1) fun j r p c s => s.runGate q j r p c
def opTokslice (q : Nat) (s : State) : State := s.compute q (isCmd 7 2) fun j r p c s => s.runTokslice q j r p c
def opTokjoin (q : Nat) (s : State) : State := s.compute q (isCmd 7 3) fun j r p c s => s.runTokjoin q j r p c
def opEnvCheck (q : Nat) (s : State) : State := s.compute q (isCmd 8 0) fun j r p c s => s.runEnvCheck q j r p c
def opEnvAddrow (q : Nat) (s : State) : State := s.computeJob q (isCmd 8 1) fun j p c s => s.runFold false q j p c
def opEnvCommit (q : Nat) (s : State) : State := s.computeJob q (isCmd 8 2) fun j p c s => s.runFold true q j p c
def opEnvRebuild (q : Nat) (s : State) : State := s.computeJob q (isCmd 8 3) fun j p c s => s.runRebuild q j p c
def opEnvRecomp (q : Nat) (s : State) : State := s.compute q (isCmd 8 4) fun j r p c s => s.runRecomp q j r p c

end Sys2Proof.Machine
end

