-- ==== Sys2Proof/Machine/Reed.lean ====
section
/-!
DEFINITION. Reed links (R648 to R683): routes, flits in and out, transfer keys and window values, remote signals, time over
Reed, peers that are down, and audit.
-/
namespace Sys2Proof.Config

/-- Payloads whose byte layout the spec does not give: TIME (response flag, t1, t2, root, depth), KEY and KEYACK (purpose, site,
stream, generation, FROMRES, key, link key, wrap count), AUDDATA (stream, RESSEQ, CHK, site, outcome) and AUDRES (the same). -/
opaque timePayload : Bool → Int → Int → Nat → Nat → List Byte
opaque keyPayload : List Nat → List Byte
opaque audData : List Nat → List Byte
opaque audRes : List Nat → List Byte

/-- Keystream entry of window w > 0 for element i of a moved vector: R664 gives one key for all windows of a site. -/
opaque xferEntry : Nat → Nat → Nat

/-- The 128-bit block that encodes (stream, RESSEQ, CHK) for the selection of R674. -/
opaque auditBlock : Nat → Nat → Nat → Nat

/-- Whether a peer's plan holds a site too (R674): the peer's plans are its own. -/
opaque siteShared : Nat → Nat → Bool

/-- The auditor's outcome for a site on the operand bytes of an audited check (R675), modulo 3. -/
opaque auditOutcome : Nat → List Byte → Nat

end Sys2Proof.Config

namespace Sys2Proof.Machine

/-! ### Received flits (R653, R658) -/

/-- Flits of the retry buffer that an ACKSEQ does not cover. -/
def uncovered (ack : Nat) (r : List RetryE) : List RetryE := r.filter fun e => decide ((ack + 65536 - e.lseq) % 65536 ≥ 32768)

/-- ACKSEQ frees the retry buffer and the credits of what it held, and flits that waited are sent (R653, R655). -/
def State.acked (s : State) (p ack : Nat) : State :=
  match s.reed.ports[p]? with
  | none => s
  | some r =>
    (s.rport p fun r => { r with retry := uncovered ack r.retry }).rpump p r.wait.length

/-- An unsequenced flit: IDLE (0) or NAK (1) with the present ACKSEQ. -/
def State.rplain (s : State) (p typ : Nat) : State :=
  match s.reed.ports[p]? with
  | none => s
  | some r =>
    let f : RFlit := { typ := typ, vc := 0, src := s.dev, dst := 0, bcast := false, hops := 0, bseq := 0, payload := [] }
    (s.emit (.flit p (f.bytes 0 r.rxLast))).add64 R.REED_PTX_LO R.REED_PTX_HI 1 p

/-- The receiver discards a flit and asks for a replay once (R653). -/
def State.rbad (s : State) (h : FlitHdr) : State :=
  let p := h.port.val
  let s := s.when (!h.good) fun s => s.inc F.REED_PCRC_N p
  match s.reed.ports[p]? with
  | some r => if r.nak then s else (s.rport p fun r => { r with nak := true }).rplain p 1
  | none => s

/-- A sequenced flit: in order it is acknowledged and, where it is addressed to this companion, acted on; else forwarded. One whose HOPS is 0
is counted in REED_XDROP, for R658 names no counter (DESIGN CHOICE, log 121). -/
def State.rrecv (s : State) (h : FlitHdr) (fwd : RFlit) (act : State → State) : State :=
  let p := h.port.val
  match s.reed.ports[p]? with
  | none => s
  | some r =>
    if !s.rUp p then s
    else if !h.good || h.lseq.toNat ≠ (r.rxLast + 1) % 65536 then s.rbad h
    else
      let s := s.add64 R.REED_PRX_LO R.REED_PRX_HI 1 p
      let s := s.rport p fun r => { r with rxLast := h.lseq.toNat, nak := false }
      let s := (s.acked p h.ack.toNat).rplain p 0
      if h.bcast || h.dst.toNat = s.dev then act s
      else if h.hops = 0 then s.inc F.REED_XDROP_N
      else s.rsendTo { fwd with src := h.src.toNat, dst := h.dst.toNat, hops := h.hops.toNat - 1 }

/-- A forwarded flit of a type and payload. -/
def fwdOf (typ vc : Nat) (payload : List Byte) : RFlit :=
  { typ := typ, vc := vc, src := 0, dst := 0, bcast := false, hops := 0, bseq := 0, payload := payload }

/-! ### Replays (R653, R654) -/

/-- The retry buffer goes out again in LSEQ order; each flit counts as sent (R653, R681). -/
def State.resend (s : State) (p : Nat) : State :=
  match s.reed.ports[p]? with
  | none => s
  | some r =>
    let s := s.each r.retry fun e s => s.emit (.flit p (e.flit.bytes e.lseq r.rxLast))
    let s := s.add64 R.REED_PTX_LO R.REED_PTX_HI r.retry.length p
    let t := s.cyc
    s.rport p fun r => { r with retry := r.retry.map fun e => { e with sentAt := t, replays := e.replays + 1 } }

/-- The upstream is refused (R662). -/
def State.timeRefuse (s : State) : State :=
  let s := s.updReed fun r => { r with t0 := none, lastEx := none }
  ((s.wr F.REED_TROOT_VALID 0).holdover).raise S.REED_CFG_BAD

/-- A port that is no longer UP is refused as the upstream (R662, R679). -/
def State.upstreamLost (s : State) (p : Nat) : State :=
  s.when (s.rd F.TBU_CTRL_SRC == 2 && s.rd F.REED_GCFG_TUP == p) fun s => s.timeRefuse

/-- A replay; a flit replayed 8 times makes the port retrain. -/
def State.replayPort (s : State) (p : Nat) : State :=
  match s.reed.ports[p]? with
  | none => s
  | some r =>
    if r.retry.isEmpty then s
    else
      let s := (s.resend p).inc F.REED_PREPLAY_N p
      if r.retry.any fun e => 8 ≤ e.replays + 1 then
        let s := (s.wr F.REED_PSTAT_LSTATE 4 p).inc F.REED_PRETRAIN_N p
        let s := s.rport p fun r => { r with retry := r.retry.map fun e => { e with replays := 0 } }
        (s.raise S.REED_RETRY_EXH p).upstreamLost p
      else s

/-- REED_IDLE (R652, R653). -/
def opReedIdle (h : FlitHdr) (s : State) : State :=
  let p := h.port.val
  if !s.rUp p then s
  else if !h.good then s.rbad h
  else (s.add64 R.REED_PRX_LO R.REED_PRX_HI 1 p).acked p h.ack.toNat

/-- REED_NAK (R653). -/
def opReedNak (h : FlitHdr) (s : State) : State :=
  let p := h.port.val
  if !s.rUp p then s
  else if !h.good then s.rbad h
  else ((s.add64 R.REED_PRX_LO R.REED_PRX_HI 1 p).acked p h.ack.toNat).replayPort p

/-- REED_REPLAY_TIMEOUT (R653): the oldest unacknowledged flit becomes older than 1 µs. -/
def opReedReplayTimeout (p : Nat) (s : State) : State :=
  match s.reed.ports[p]? with
  | some { retry := e :: _, .. } => if s.rUp p then (s.reachCyc (e.sentAt + usC 1 + 1)).replayPort p else s
  | _ => s

/-! ### Peers that are down (R306, R408, R585, R659, R660) -/

/-- The peer that feeds a semaphore of a context (R408). -/
def State.semPeer (s : State) (c n : Nat) : Option Nat :=
  let x := s.ctx c
  match x.plan with
  | none => none
  | some p =>
    let o := x.pwbase + p.sem.planWide
    if p.sem.bank = 0 || n < o then none
    else (p.fed.find? fun e => e.1 == (n - o) % p.sem.bank).map (·.2)

/-- The check's job leaves XFC with an outcome: FAILED, NOTDONE, or neither. -/
def State.xfcEnd (s : State) (q : Nat) (failed nd : Bool) : State :=
  let s := (s.ungate q).updLq q fun l => { l with waiting := false }
  s.updJob q fun j => { j with
    xfc := none, failed := j.failed || failed, notDone := j.notDone || nd, cur := j.cur + 1 }

/-- The XFER entry of a command's site. -/
def Plan.xferD (p : Plan) (site : Nat) : Option XferD := p.xfer.find? fun x => x.site == site

/-- The queue's head that waits in XFC: its job, plan, command and site entry. -/
def State.xfcHead (s : State) (q : Nat) : Option (Job × Plan × Cmd × XferD) :=
  match (s.lq q).jobs with
  | j :: _ =>
    if (s.lq q).waiting && j.xfc.isSome then
      match (s.ctx j.ctx).plan, (s.te (s.engOf q)).fetch j.ctx j.cur with
      | some p, some c => (p.xferD (j.siteOf (bits 95 80 c))).map fun d => (j, p, c, d)
      | _, _ => none
    else none
  | [] => none

/-- What a peer's DOWN does: waiters fed by it are released PEERDOWN, XFC checks with it end NOT DONE (R408, R585). -/
def State.peerDown (s : State) (dev : Nat) : State :=
  let ws := s.sem.waits.filter fun w => match (s.lq w.lq).ctx with | some (c, _) => s.semPeer c w.sem == some dev | none => false
  let s := s.each ws fun w s => (s.unwait w).waitDone w.lq true
  s.upto (fun q s =>
    match s.xfcHead q with
    | some (_, _, _, d) => if d.peer = dev then s.xfcEnd q false true else s
    | none => s) 48

/-- Devices of the system whose route leaves by a port. -/
def State.devsBehind (s : State) (p : Nat) : List Nat := (List.range s.ndev).filter fun d => s.route d == some p

/-- Peers become unreachable (R660, R679). -/
def State.losePeers (s : State) (devs : List Nat) : State :=
  let ds := devs.filter fun d => !s.reed.unreach.contains d
  (s.updReed fun r => { r with unreach := ds ++ r.unreach }).each ds fun d s => s.peerDown d

/-- Every peer behind a port becomes unreachable (R660). -/
def State.loseBehind (s : State) (p : Nat) : State := s.losePeers (s.devsBehind p)

/-- A port leaves UP (R654, R660, R679). -/
def State.portLost (s : State) (p st : Nat) : State :=
  let up := s.rUp p
  let s := (s.wr F.REED_PSTAT_LSTATE st p).wr F.REED_PSTAT_NBRVALID 0 p
  let s := s.rport p fun r => { RPort.reset with keyFail := r.keyFail }
  let s := s.when up fun s => s.raise S.REED_LINK_DOWN p
  let s := s.loseBehind p
  s.when up fun s => s.upstreamLost p

/-- Peers resume once a configuration has been committed after their UP, or after their route's port is UP again (R585, R660). -/
def State.peersResume (s : State) : State :=
  let back := s.reed.unreach.filter fun d => match s.route d with | some p => s.rUp p | none => true
  s.updReed fun r => { r with
    down := r.down.filter fun d => !r.ups.contains d, ups := [], unreach := r.unreach.filter fun d => !back.contains d }

/-- A DOWN or UP broadcast: acted on once, forwarded on every other port in UP (R659). -/
def State.bcastIn (s : State) (h : FlitHdr) (typ : Nat) (payload : List Byte) (act : State → State) : State :=
  s.rrecv h (fwdOf typ 0 payload) fun s =>
    let key := (h.src.toNat, h.bseq.toNat)
    if s.reed.seen.contains key || h.src.toNat = s.dev then s
    else
      let s := s.updReed fun r => { r with seen := key :: r.seen }
      let f : RFlit :=
        { typ := typ, vc := 0, src := h.src.toNat, dst := 0, bcast := true, hops := h.hops.toNat - 1, bseq := h.bseq.toNat,
          payload := payload }
      let s := s.when (decide (0 < h.hops.toNat)) fun s =>
        s.upto (fun p s => if p = h.port.val then s else s.rsend p f) 4
      act s

/-- Payload of a DOWN or UP flit (R659). -/
def bcastPayload (reason attempt tevent : Nat) : List Byte := natLe 1 reason ++ natLe 3 0 ++ natLe 4 attempt ++ natLe 8 tevent

/-- ACC_DOWN and ACC_UP (R585, R659). -/
def opAccDown (h : FlitHdr) (reason attempt tevent : Nat) (s : State) : State :=
  (s.bcastIn h 0x22 (bcastPayload reason attempt tevent) fun s =>
    (s.updReed fun r => { r with down := h.src.toNat :: r.down, ups := r.ups.filter (· != h.src.toNat) }).peerDown h.src.toNat).settle

def opAccUp (h : FlitHdr) (reason attempt tevent : Nat) (s : State) : State :=
  s.bcastIn h 0x23 (bcastPayload reason attempt tevent) fun s => s.updReed fun r => { r with ups := h.src.toNat :: r.ups }

/-! ### Ports (R649, R650, R660, R705) -/

/-- The width that a training has come to; at half width the port is degraded (R650). -/
def State.trainedAt (s : State) (p res : Nat) : State :=
  (s.wr F.REED_PSTAT_X2 (b2n (res == 1)) p).when (res == 1) fun s => s.raise S.REED_LINK_DEGR p

/-- REED_TRAIN_DONE (R649, R650, R654): training ends, on 4 lanes (0), 2 lanes (1) or not at all (2), with a neighbour's
device number. A failed retrain is followed by another, which counts, up to three; a retrain that succeeds is followed by a replay (R679,
R681). A port that goes DOWN from its training loses the peers behind it (R660). -/
def opReedTrainDone (p res nbr : Nat) (s : State) : State :=
  let st := s.rd F.REED_PSTAT_LSTATE p
  let kf := match s.reed.ports[p]? with | some r => r.keyFail | none => true
  let fail := res == 2 || (res == 1 && !s.on F.REED_PCFG_ALLOWX2 p)
  if !s.on F.REED_PCFG_EN p || kf then s
  else if st = 4 then
    if !fail then
      let again := match s.reed.ports[p]? with | some r => !r.retry.isEmpty | none => false
      let s := ((s.trainedAt p res).wr F.REED_PSTAT_LSTATE 3 p |>.rport p fun r => { r with failed := 0 }).resend p
      let s := s.when again fun s => s.inc F.REED_PREPLAY_N p
      s.rpump p (match s.reed.ports[p]? with | some r => r.wait.length | none => 0)
    else
      let n := match s.reed.ports[p]? with | some r => r.failed + 1 | none => 0
      if 3 ≤ n then ((s.wr F.REED_PSTAT_LSTATE 3 p).portLost p 0).settle
      else (s.rport p fun r => { r with failed := n }).inc F.REED_PRETRAIN_N p
  else if st = 0 || st = 1 then
    if fail then ((s.wr F.REED_PSTAT_LSTATE 0 p).loseBehind p).settle
    else
      let s := ((s.trainedAt p res).wr F.REED_PSTAT_NBRDEV nbr p).wr F.REED_PSTAT_NBRVALID 1 p
      if !s.topoOk then s.wr F.REED_PSTAT_LSTATE 1 p
      else if s.neighbour p = some nbr then s.wr F.REED_PSTAT_LSTATE 2 p
      else (s.wr F.REED_PSTAT_LSTATE 1 p).raise S.REED_CFG_BAD
  else s

/-- REED_KEY_AGREED (R649, R705): the link key is agreed and the port enters UP, or is held DOWN until EN is written again. -/
def opReedKeyAgreed (p : Nat) (ok : Bool) (s : State) : State :=
  if s.rd F.REED_PSTAT_LSTATE p ≠ 2 then s
  else if ok then
    let k := (s.fresh 256).toNat
    (s.drewKey.rport p fun _ => { RPort.reset with linkKey := k }).wr F.REED_PSTAT_LSTATE 3 p
  else ((((s.rport p fun r => { r with keyFail := true }).wr F.REED_PSTAT_LSTATE 0 p).loseBehind p).raise S.REED_KEY_FAIL p).settle

/-- REED_PORT_DOWN (R660): a port leaves UP for any reason that is no command, and trains again while it is enabled. -/
def opReedPortDown (p : Nat) (s : State) : State :=
  if s.rUp p then (s.portLost p (b2n (s.on F.REED_PCFG_EN p))).settle else s

/-- Every port retrains, and counts it (R679, R680, R681): a change of the topology, or a block reset. A port that a failed key agreement
holds DOWN is not one of them: R649 holds it until EN is written again, while R67 and R680 retrain every port, and the spec does not say which
of them gives way (DESIGN CHOICE, log 85). -/
def State.retrainAll (s : State) : State :=
  s.upto (fun p s =>
    if s.on F.REED_PCFG_EN p && !(match s.reed.ports[p]? with | some r => r.keyFail | none => true) then
      (s.portLost p 1).inc F.REED_PRETRAIN_N p
    else s) 4

/-- The block reset of REED (R67, R680): every port retrains, the pending table and the TIME exchange are empty, and the RO status of the
page returns to its reset values. -/
def State.reedReset (s : State) : State :=
  let s := s.retrainAll.upto (fun p s =>
    ((((s.wr F.REED_PSTAT_X2 0 p).wr F.REED_PSTAT_NBRDEV 0 p).wr F.REED_PSTAT_NBRVALID 0 p).setWord R.REED_PDELAY 0 p)) 4
  let s := s.updReed fun r => { r with pend := [], t0 := none, missed := 0 }
  ((s.setWord R.REED_TOFF 0).setWord R.REED_TROOT 0).setWord R.REED_XPEND 0

/-- The fields of REED_GCFG that a change applies to every port: DEV, NDEV, TOPO and W (R656). -/
def State.reedShape (s : State) : List Nat := [s.dev, s.ndev, s.rd F.REED_GCFG_TOPO, s.torusW]

/-- What an applied change of the REED page does (R649, R656, R657, R673, R679), `old` being the state before. EN written again, also as 1
over 1, frees a port that a failed key agreement holds DOWN. -/
def State.reedApply (old : State) (s : State) : State :=
  let s := s.upto (fun p s =>
    let was := old.on F.REED_PCFG_EN p
    let now := s.on F.REED_PCFG_EN p
    let held := old.stages R.REED_PCFG p && (match s.reed.ports[p]? with | some r => r.keyFail | none => false)
    if now && (!was || held) then (s.rport p fun r => { r with keyFail := false }).wr F.REED_PSTAT_LSTATE 1 p
    else if was && !now then s.portLost p 0
    else s) 4
  let s :=
    if s.reedShape ≠ old.reedShape then
      let s := s.retrainAll.losePeers ((List.range (max s.ndev old.ndev)).filter (· != s.dev))
      if s.topoOk then s else s.raise S.REED_CFG_BAD
    else s
  let floor := if s.ndev < 16 then 0 else if s.ndev < 32 then 1 else if s.ndev < 64 then 2 else 3
  let s := if s.rd F.REED_AUDCFG_AUDFRAC < floor then s.wr F.REED_AUDCFG_AUDFRAC floor else s
  let near (d : Nat) : Bool := (List.range 4).any fun p => s.neighbour p == some d
  if s.on F.REED_AUDCFG_AUD_EN && !(near (s.rd F.REED_AUDCFG_AUD_TGT) && near (s.rd F.REED_AUDCFG_AUD_SRC)) then
    (s.wr F.REED_AUDCFG_AUD_EN 0).raise S.REED_CFG_BAD
  else s

/-- REED_PCLR and REED_CLR (R681, R682). -/
def opReedPclr (p : Nat) (s : State) : State :=
  let s := (((s.setWord R.REED_PTX_LO 0 p).setWord R.REED_PTX_HI 0 p).setWord R.REED_PRX_LO 0 p).setWord R.REED_PRX_HI 0 p
  ((s.setWord R.REED_PCRC 0 p).setWord R.REED_PREPLAY 0 p).setWord R.REED_PRETRAIN 0 p

def opReedClr (s : State) : State :=
  let s := (s.setWord R.REED_XORPH 0).setWord R.REED_XDROP 0
  ((s.setWord R.REED_AUDN 0).setWord R.REED_AUDND 0).setWord R.REED_AUDSKIP 0

/-! ### Time over Reed (R661, R662) -/

/-- Root and depth that this companion reports. -/
def State.timeRoot (s : State) : Nat × Nat :=
  if s.rd F.TBU_CTRL_SRC = 2 then (s.rd F.REED_TROOT_ROOT, s.rd F.REED_TROOT_DEPTH) else (s.dev, 0)

/-- REED_TIME_REQUEST (R661, R597): the time of the next request is reached and the request leaves; three requests
without an answer lose the source. An upstream port that is not UP is refused once, until it has answered again (R662). -/
def opReedTimeRequest (s : State) : State :=
  if s.rd F.TBU_CTRL_SRC ≠ 2 then s
  else
    let p := s.rd F.REED_GCFG_TUP
    let s := s.reachCyc (s.reed.reqAt.getD s.cyc + usC (s.rd F.REED_TPER_US))
    let now := s.cyc
    let s := s.updReed fun r => { r with reqAt := some now }
    if !s.rUp p then s.when (s.on F.REED_TROOT_VALID || s.rd F.TBU_STAT_SSTATE != 3) fun s => s.timeRefuse
    else
      let miss := s.reed.t0.isSome
      let n := if miss then s.reed.missed + 1 else 0
      let s := s.updReed fun r => { r with missed := n, t0 := some s.fns.toNat }
      let s := s.when (decide (3 ≤ n)) fun s => (s.updReed fun r => { r with lastEx := none }).holdover
      match s.neighbour p with
      | some d => s.rsend p (s.flitTo 0x10 0 d (Config.timePayload false 0 0 0 0))
      | none => s

/-- REED_TIME (R661, R662): a request is answered; a response on the upstream port completes an exchange. Times are in units of
2^-16 ns; the half of an odd difference and a part of a ps are rounded either way (DESIGN CHOICE, log 21). -/
def opReedTime (h : FlitHdr) (resp : Bool) (t1 t2 : Int) (root depth : Nat) (s : State) : State :=
  s.rrecv h (fwdOf 0x10 0 (Config.timePayload resp t1 t2 root depth)) fun s =>
    let p := h.port.val
    if !resp then
      let (r, d) := s.timeRoot
      s.rsend p (s.flitTo 0x10 0 h.src.toNat (Config.timePayload true s.fns s.fns r d))
    else
      match s.reed.t0 with
      | none => s
      | some t0 =>
        if s.rd F.TBU_CTRL_SRC ≠ 2 || s.rd F.REED_GCFG_TUP ≠ p then s
        else if root = s.dev || 15 ≤ depth then s.timeRefuse
        else
          let t3 := s.fns
          let (d, s) := s.freeQuot ((t3 - t0) - (t2 - t1)) 2
          let o := t3 - (t2 + d)
          let ps (x : Int) : Nat := ofSigned 32 (clampInt (-(2 ^ 31)) (2 ^ 31 - 1) x)
          let (dps, s) := s.freeQuot (d * 1000) 65536
          let (ops, s) := s.freeQuot (o * 1000) 65536
          let s := (s.setWord R.REED_PDELAY (ps dps) p).setWord R.REED_TOFF (ps ops)
          let s := ((s.wr F.REED_TROOT_ROOT root).wr F.REED_TROOT_DEPTH (depth + 1)).wr F.REED_TROOT_VALID 1
          let last := s.reed.lastEx
          let s := s.updReed fun r => { r with t0 := none, missed := 0, lastEx := some t3.toNat }
          s.servo o (match last with | some l => if (l : Int) < t3 then some (t3 - l) else none | none => none)

/-! ### Transfer keys (R664, R665) -/

/-- The newest key of a site that applies to a result (R665). -/
def keyFor (ks : List XKey) (site stream resseq : Nat) : Option XKey :=
  ks.find? fun k => k.purpose == 1 && k.site == site && k.stream == stream && decide (k.fromRes ≤ resseq)

/-- Link key and wrap count of the first hop to a device (R705). -/
def State.wrapTo (s : State) (dev : Nat) : List Nat :=
  match (s.route dev).bind fun p => s.reed.ports[p]? with | some r => [r.linkKey, r.wraps] | none => []

/-- A key goes out to a peer, under the first hop's link key. -/
def State.sendKey (s : State) (k : XKey) : State :=
  s.rsendTo (s.flitTo 0x11 0 k.peer (Config.keyPayload ([k.purpose, k.site, k.stream, k.kgen, k.fromRes, k.key] ++ s.wrapTo k.peer)))

/-- A fresh key of a purpose is drawn and sent; the two newest generations stay (R664, R665). While no draw is served it waits (R690). -/
def State.newKey (s : State) (purpose site stream peer fromRes : Nat) : State :=
  if s.noDraws then s.updReed fun r => { r with keyDue := r.keyDue ++ [[purpose, site, stream, peer, fromRes]] } else
  let old := s.reed.sent.filter fun k => k.purpose == purpose && k.site == site && k.stream == stream && k.peer == peer
  let gen := (old.foldl (fun m k => max m k.kgen) 0) + 1
  let k : XKey :=
    { purpose := purpose, site := site, stream := stream, peer := peer, kgen := gen, fromRes := fromRes,
      key := (s.fresh 256).toNat, drawnAt := s.cyc, acked := false }
  let rest := s.reed.sent.filter fun x => !(old.drop 1).contains x
  (s.drewKey.updReed fun r => { r with sent := k :: rest }).sendKey k

/-- The peer's streams that a sending site serves, with this companion's streams (R666). -/
def State.xferPairs (s : State) (c : Nat) (d : XferD) : List (Nat × Nat) :=
  d.pairs.map fun (i, g) => ((s.ctx c).sbase + i, g)

/-- The first keys of a context's sending sites, at the end of its key-up (R664). -/
def State.firstKeys (s : State) (c : Nat) : State :=
  match (s.ctx c).plan with
  | none => s
  | some p => s.each (p.xfer.filter (·.sends)) fun d s => s.each (s.xferPairs c d) fun x s => s.newKey 1 d.site x.2 d.peer 0

/-- XFER_KEY_ROLLOVER (R664): PST_EPOCH seconds after a site's last key. -/
def opXferKeyRollover (c site : Nat) (s : State) : State :=
  match (s.ctx c).plan with
  | none => s
  | some p =>
    match p.xferD site with
    | none => s
    | some d =>
      if !d.sends then s
      else
        match s.reed.sent.find? fun k => k.purpose == 1 && k.site == site && k.peer == d.peer with
        | none => s
        | some k =>
          let s := s.reachCyc (k.drawnAt + secC (s.word R.PST_EPOCH))
          s.each (s.xferPairs c d) fun x s =>
            s.newKey 1 site x.2 d.peer (match (s.st x.1).maxUsed with | some q => q + 64 | none => 64)

/-- AUDIT_KEY_ROLLOVER (R674). -/
def opAuditKeyRollover (s : State) : State :=
  if !s.on F.REED_AUDCFG_AUD_EN then s
  else
    let tgt := s.rd F.REED_AUDCFG_AUD_TGT
    let s := match s.reed.sent.find? fun k => k.purpose == 2 && k.peer == tgt with
      | some k => s.reachCyc (k.drawnAt + secC (s.word R.PST_EPOCH))
      | none => s
    s.newKey 2 0 0 tgt 0

/-- REED_KEY (R664, R665): a key for this companion is held and acknowledged. A failed authentication of a flit in order holds the port DOWN
(R683); one out of order is discarded as any other (R653). -/
def opReedKey (h : FlitHdr) (auth : Bool) (purpose site stream kgen fromRes key : Nat) (s : State) : State :=
  let pay := Config.keyPayload ([purpose, site, stream, kgen, fromRes, key] ++ s.wrapTo h.dst.toNat)
  let next := match s.reed.ports[h.port.val]? with | some r => h.good && s.rUp h.port.val && h.lseq.toNat == (r.rxLast + 1) % 65536 | none => false
  let s := s.when next fun s => s.rport h.port.val fun r => { r with unwraps := r.unwraps + 1 }
  if next && !auth then
    (((s.rport h.port.val fun r => { r with keyFail := true }).portLost h.port.val 0).raise S.REED_KEY_FAIL h.port.val).settle
  else
    s.rrecv h (fwdOf 0x11 0 pay) fun s =>
      let k : XKey :=
        { purpose := purpose, site := site, stream := stream, peer := h.src.toNat, kgen := kgen, fromRes := fromRes, key := key,
          drawnAt := s.cyc, acked := true }
      let same (x : XKey) : Bool := x.purpose == purpose && x.site == site && x.stream == stream && x.peer == k.peer
      let old := (s.reed.recv.filter same).take 1
      let s := s.updReed fun r => { r with recv := k :: old ++ r.recv.filter (fun x => !same x) }
      s.rsendTo (s.flitTo 0x12 0 h.src.toNat (Config.keyPayload [purpose, site, stream, kgen]))

/-- REED_KEYACK (R665). -/
def opReedKeyack (h : FlitHdr) (purpose site stream kgen : Nat) (s : State) : State :=
  s.rrecv h (fwdOf 0x12 0 (Config.keyPayload [purpose, site, stream, kgen])) fun s =>
    let mine (k : XKey) : Bool :=
      k.purpose == purpose && k.site == site && k.stream == stream && k.kgen == kgen && k.peer == h.src.toNat
    s.updReed fun r => { r with sent := mapIf mine (fun k => { k with acked := true }) r.sent }

/-! ### Window values (R666 to R669) -/

/-- The pending table takes a new value; REED_XPEND shows its size. -/
def State.setPend (s : State) (l : List XPend) : State :=
  (s.updReed fun r => { r with pend := l }).wr F.REED_XPEND_N l.length

/-- A window as it travels: a 160-bit value and the exponent of its least significant bit (R203, R666). -/
def winOut (w : Win) : Nat × Nat :=
  let v := (winValue w.terms).1
  (ofSigned 160 v.m, ofSigned 16 v.e)

/-- Outcome of an XFC against a pending entry (R668): FAILED, NOTDONE, and whether XKEY_MISS is raised. -/
def xfcJudge (wins : List Win) (kgen : Nat) (e : XPend) : Bool × Bool × Bool :=
  if e.kgen ≠ kgen then (false, true, true)
  else if e.prod = 2 then (true, false, false)
  else if e.prod = 1 then (false, true, false)
  else
    let same := e.wins.length == wins.length && (wins.zip e.wins).all fun (w, v) =>
      (winValue w.terms).1.eq ⟨toSigned 160 v.1, toSigned 16 v.2⟩
    (!same, false, false)

/-- The windows of a transfer command. -/
def State.xferWins (s : State) (q : Nat) (c : Cmd) : List Win :=
  (List.range (bits 18 16 c + 1)).map fun i => (s.lq q).wins.getD (bits 21 19 c + i) Win.zero

/-- An XFC takes the entry that matches it, if the table holds it. It is judged by the key generation that the XFC projected under (R668). -/
def State.xfcTake (s : State) (q : Nat) : State :=
  match s.xfcHead q with
  | none => s
  | some (j, _, c, d) =>
    match s.reed.pend.find? fun e => !e.isSig && e.src == d.peer && e.xid == bits 127 96 c && e.resseq == j.resseq && e.token == j.token with
    | none => s
    | some e =>
      let s := (s.setPend (s.reed.pend.erase e)).teChecked q 27
      let (f, nd, miss) := xfcJudge (s.xferWins q c) j.xgen e
      (s.when miss fun s => s.raiseSt S.REED_XKEY_MISS j.stream).xfcEnd q f nd

/-- Timeout in µs of the site whose XFC names an XID on a stream; the longest of the peer's sites where none does (R667). -/
def State.xidTimeout (s : State) (stream peer xid : Nat) : Nat :=
  match s.planOf stream with
  | none => 0
  | some p =>
    let named := (Plan.commands p).find? fun c => Cmd.opc c == 10 && bits 127 96 c == xid
    match named.bind fun c => p.xferD (bits 95 80 c) with
    | some d => d.timeoutUs
    | none => (p.xfer.filter fun d => d.peer == peer).foldl (fun m d => max m d.timeoutUs) 0

/-- REED_XVAL (R667). -/
def opReedXval (h : FlitHdr) (xid resseq token prod stream kgen : Nat) (wins : List (Nat × Nat)) (s : State) : State :=
  let x : XOut :=
    { peer := 0, stream := 0, resseq := resseq, xid := xid, token := token, dst := stream, kgen := kgen, wins := wins,
      notDone := false, producers := [] }
  (s.rrecv h (fwdOf 0x21 0 (xvalPayload x prod)) fun s =>
    let src := h.src.toNat
    if s.reed.pend.any fun e => !e.isSig && e.src == src && e.xid == xid && e.resseq == resseq && e.token == token then
      s.inc F.REED_XORPH_N
    else if 4096 ≤ s.reed.pend.length then s.raise S.REED_XVAL_OVF
    else
      let e : XPend :=
        { isSig := false, src := src, xid := xid, resseq := resseq, token := token, stream := stream, arrived := s.cyc,
          expires := s.cyc + usC (s.xidTimeout stream src xid), prod := prod, kgen := kgen, wins := wins, sem := 0, cnt := 0 }
      (s.setPend (s.reed.pend ++ [e])).upto (fun q s => s.xfcTake q) 48).settle

/-- XVAL_EXPIRY (R667): a pending value passes its site's timeout, the first that does. -/
def opXvalExpiry (s : State) : State :=
  let vals := s.reed.pend.filter fun e => !e.isSig
  match vals.find? fun e => vals.all fun x => decide (e.expires ≤ x.expires) with
  | some e => ((s.reachCyc e.expires).setPend (s.reed.pend.erase e)).inc F.REED_XORPH_N
  | none => s

/-! ### Remote signals (R404, R670, R671) -/

/-- A remote signal is refused. -/
def State.remoteBad (s : State) : State := (s.inc F.SEM_REMREJ_N).raise S.SEM_REMOTE_BAD

/-- A remote signal reaches the destination result's semaphore, or is discarded (R404, R671). -/
def State.remoteSig (s : State) (r : Slot) (src n cnt : Nat) : State :=
  match s.semAbs r.ctx r.bank n false with
  | none => s.remoteBad
  | some k =>
    let peers : List Nat := match (s.ctx r.ctx).plan with | some p => p.xfer.map (fun x => x.peer) | none => []
    if !s.on F.SEM_SSTAT_REMOTE k || !peers.contains src then s.remoteBad
    else s.semSignal 9 src (s.rd F.SEM_SSTAT_CTX k) k cnt

/-- REED_SIG (R671). -/
def opReedSig (h : FlitHdr) (stream cnt n resseq : Nat) (s : State) : State :=
  let pay := natLe 1 stream ++ natLe 1 cnt ++ natLe 2 n ++ natLe 8 resseq
  (s.rrecv h (fwdOf 0x20 0 pay) fun s =>
    let src := h.src.toNat
    let used := match (s.st stream).maxUsed with | some m => decide (resseq ≤ m) | none => false
    match s.slotOf stream resseq with
    | some r => if r.formed then s.inc F.SEM_ABNDDISC_N else s.remoteSig r src n cnt
    | none =>
      if used then s.inc F.SEM_ABNDDISC_N
      else if 4096 ≤ s.reed.pend.length then s.raise S.REED_XVAL_OVF
      else
        let e : XPend :=
          { isSig := true, src := src, xid := 0, resseq := resseq, token := 0, stream := stream, arrived := s.cyc,
            expires := s.cyc + msC 10, prod := 0, kgen := 0, wins := [], sem := n, cnt := cnt }
        s.setPend (s.reed.pend ++ [e])).settle

/-- Signals that waited for a result are applied once it is open (R671). -/
def State.sigPend (s : State) : State :=
  let ready := s.reed.pend.filter fun e => e.isSig &&
    match (s.st e.stream).maxUsed with | some m => decide (e.resseq ≤ m) | none => false
  (s.setPend (s.reed.pend.filter fun e => !ready.contains e)).each ready fun e s =>
    match s.slotOf e.stream e.resseq with
    | some r => if r.formed then s.inc F.SEM_ABNDDISC_N else s.remoteSig r e.src e.sem e.cnt
    | none => s.inc F.SEM_ABNDDISC_N

/-- REMOTE_SIG_EXPIRY (R671): the oldest waiting signal has waited 10 ms. -/
def opRemoteSigExpiry (s : State) : State :=
  match s.reed.pend.find? fun e => e.isSig with
  | some e => ((s.reachCyc e.expires).setPend (s.reed.pend.erase e)).inc F.REED_XORPH_N
  | none => s

/-- BEGIN_RESULT with what waits for the result (R168, R671). -/
def opBeginResultAll (i : Nat) (s : State) : State := (opBeginResult i s).sigPend

/-! ### Audit (R673 to R677) -/

/-- AUDFRAC as parts of 2^32. -/
def State.audShare (s : State) : Nat := match s.rd F.REED_AUDCFG_AUDFRAC with | 1 => 2 ^ 28 | 2 => 2 ^ 29 | 3 => 2 ^ 30 | _ => 0

/-- The operand bytes of a site's check from the held copy (R104, R675): codes and scales of each tensor that the plan graph places on the
site, in its order (DESIGN CHOICE, log 121). -/
def State.auditBytes (s : State) (i q site token : Nat) : List Byte :=
  match s.slotOf i q, s.planOf i with
  | some r, some p =>
    (p.graph.ports.filter fun x => x.1 == site).flatMap fun x =>
      match p.tensor x.2.2 with
      | some t => let (cs, ss) := r.whole t token; packCodes (fmtBits t.fmt) cs ++ ss.flatMap fun v => natLe 1 v
      | none => []
  | _, _ => []

/-- Flits of raw bytes to a device, 236 bytes of payload in each (R652, R675). -/
def State.sendBytes (s : State) (typ vc dst : Nat) (bs : List Byte) : State :=
  s.upto (fun k s => s.rsendTo (s.flitTo typ vc dst ((bs.drop (236 * k)).take 236))) (ceilDiv bs.length 236)

/-- A check that reports its outcome may be selected for audit (R674, R675): the first flit names it and its outcome, the others carry its
operands. A PRJ check is eligible where the auditor's plan holds its site too. -/
def State.auditSelect (s : State) (i q chk token kind site res : Nat) : State :=
  let src := s.rd F.REED_AUDCFG_AUD_SRC
  match s.reed.recv.find? fun k => k.purpose == 2 && k.peer == src with
  | none => s
  | some k =>
    let pick := (Config.aes256 k.key (Config.auditBlock i q chk)).toNat % 2 ^ 32
    let eligible := kind == 1 && Config.siteShared src site || kind == 3 || kind == 4
    if !s.on F.REED_AUDCFG_AUD_EN || !eligible || s.audShare ≤ pick then s
    else
      let s := s.updReed fun r => { r with audits := ⟨src, i, q, chk, site, res⟩ :: r.audits }
      let bs := s.auditBytes i q site token
      (s.rsendTo (s.flitTo 0x30 1 src (Config.audData [i, q, chk, site, res]))).sendBytes 0x30 1 src bs

/-- What an audit uses: the lane-operations of a PRJ check's projections, the vector slots of the commands of its site's program, and the
bytes of its operands (R675, R677; DESIGN CHOICE, log 121). -/
def State.audCost (s : State) (site len : Nat) : AudUse :=
  let lane := match s.ctxs.findSome? fun c => c.plan.bind fun p => p.matD site with
    | some m => m.k * (m.dIn + m.dOut)
    | none => 0
  let slots (p : Plan) : Option Nat :=
    ((p.groups.flatMap (·.jobs)).find? fun j => j.site == site).map fun j => sumNat ((p.program j.pc).map fun c => p.slots site c)
  { lane := lane, vec := (s.ctxs.findSome? fun c => c.plan.bind slots).getD 0, dram := len }

/-- What audits have used in the current second. -/
def State.audUsed (s : State) : AudUse := if s.reed.audSec = secOf s.ns then s.reed.audSpent else ⟨0, 0, 0⟩

/-- An audit fits what its reservation leaves of the current second (R677). -/
def State.audFits (s : State) (c : AudUse) : Bool :=
  let u := s.audUsed
  decide (u.lane + c.lane ≤ s.rd F.REED_AUDRSV_LANE_MOPS * 1000000) && decide (u.vec + c.vec ≤ s.rd F.REED_AUDRSV_VEC_MSLOTS * 1000000) &&
    decide (u.dram + c.dram ≤ s.rd F.REED_AUDRSV_DRAM_MBPS * 1000000)

/-- AUDDATA (R675 to R677): the last flit of an audited check's operands arrives and the AUD region holds them; the auditor runs the
site's program on them below its own work, unless its reservation of the second is spent, and answers. -/
def opAuddata (h : FlitHdr) (stream resseq chk site res : Nat) (data : List Byte) (s : State) : State :=
  s.rrecv h (fwdOf 0x30 1 (Config.audData [stream, resseq, chk, site, res])) fun s =>
    let s := s.updReed fun (r : Reed) => { r with aud := data }
    let cost := s.audCost site data.length
    if !s.audFits cost then s.inc F.REED_AUDSKIP_N
    else
      let u := s.audUsed
      let sec := secOf s.ns
      let s := s.updReed fun (r : Reed) => { r with
        audSec := sec, audSpent := ⟨u.lane + cost.lane, u.vec + cost.vec, u.dram + cost.dram⟩ }
      let own := Config.auditOutcome site s.reed.aud % 3
      let s := s.rsendTo (s.flitTo 0x31 0 h.src.toNat (Config.audRes [stream, resseq, chk, own]))
      if res = 2 || own = 2 then s.inc F.REED_AUDND_N
      else (s.inc F.REED_AUDN_N).when (res != own) fun s => s.raise S.REED_AUDIT_DIFF

/-- AUDRES (R676). -/
def opAudres (h : FlitHdr) (stream resseq chk own : Nat) (s : State) : State :=
  (s.rrecv h (fwdOf 0x31 0 (Config.audRes [stream, resseq, chk, own])) fun s =>
    match s.reed.audits.find? fun (a : AudE) => a.peer == h.src.toNat && a.stream == stream && a.resseq == resseq && a.chk == chk with
    | none => s
    | some a =>
      let s := s.updReed fun (r : Reed) => { r with audits := r.audits.erase a }
      if a.outcome = 2 || own = 2 then s.inc F.REED_AUDND_N
      else
        let s := s.inc F.REED_AUDN_N
        match a.outcome, own with
        | 1, 0 => s.report { src := S.REED_PEER_DIFF, stream := some stream, unit := a.site, ref := resseq }
        | 0, 1 => s.report { src := S.REED_PEER_MISS, stream := some stream, unit := a.site, ref := resseq }
        | _, _ => s).settle

end Sys2Proof.Machine
end

