-- ==== Sys2Proof/Machine/Jobs.lean ====
section
/-!
DEFINITION. Jobs of the tally engines: their start, loads, transfers, signals, waits and end (R290, R298, R306 to R313);
local flags (R413); and the semaphore block's own rows (R400 to R422).
-/
namespace Sys2Proof.Machine

/-! ### Commands of the CTL pipe -/

/-- A command that is never skipped: SIG, WAI and DONE of the head job (R310), and LDP, which R310 does not name: it counts a local flag as
SIG does, on which the job's WAIs wait (DESIGN CHOICE, log 164). -/
def State.control (s : State) (q : Nat) (mine : Cmd → Bool) (f : Job → Plan → Cmd → State → State) : State :=
  match s.headCmd q with
  | none => s
  | some (j, p, c) =>
    if !cmdLegal (s.pagesOf q) c then s.illegal q j
    else if !mine c then s
    else f j p c s

/-- An illegal command found by what only the job decides (R297, R307, R399). -/
def State.badRange (s : State) (q : Nat) (j : Job) : State := s.illegal q j

/-- Local flags that a queue owns (R286). -/
def State.flagsOf (s : State) (q : Nat) : Nat :=
  match (s.lq q).ctx with
  | some (c, k) =>
    match (s.ctx c).plan with
    | some p => (match p.queues[k]? with | some d => min 3 d.flags | none => 0)
    | none => 0
  | none => 0

/-- Value of a local flag. -/
def State.flag (s : State) (q i : Nat) : Nat := (s.lq q).flags.getD i 0

/-- A local flag takes a value. -/
def State.setFlag (s : State) (q i v : Nat) : State := s.updLq q fun l => { l with flags := updAt (fun _ => v) i l.flags }

/-- The flag and count that the head's WAI names, when it waits on one (R308). -/
def State.flagWait (s : State) (q : Nat) : Option (Nat × Nat) :=
  match s.prefetch q with
  | c :: _ => if Cmd.opc c = 12 && bit 0 (Cmd.sub c) && (s.lq q).waiting then some (bits 17 16 c, bits 47 32 c) else none
  | [] => none

/-- A WAI on a flag completes once the flag suffices (R308, R413). -/
def State.wakeFlag (s : State) (q : Nat) : State :=
  match s.flagWait q with
  | some (i, n) => if n ≤ s.flag q i then (s.setFlag q i (s.flag q i - n)).waitDone q false else s
  | none => s

/-- A local flag gains a count, staying at 0xFF (R307, R311, R413). -/
def State.addFlag (s : State) (q i n : Nat) : State :=
  let v := s.flag q i + n
  let s := s.setFlag q i (min 255 v)
  let s := if v ≤ 255 then s
    else
      let st := match (s.lq q).jobs with | j :: _ => some j.stream | [] => none
      (s.jobNd q).report { src := S.TE_FLAG_OVF.at (s.engOf q), stream := st, mark := false }
  s.wakeFlag q

/-! ### Start of a job (R290, R314, R319, R322) -/

/-- A queue whose head is blocked in a WAI. -/
def LQ.inWai (l : LQ) : Bool := l.waiting && match l.jobs with | j :: _ => j.xfc.isNone | [] => false

/-- A queue at a job boundary, or blocked in WAI: it moves as it is (R315). -/
def LQ.atRest (l : LQ) : Bool := l.ldps.isEmpty && match l.jobs with | j :: _ => !j.started || l.inWai | [] => true

/-- A queue of a HANDING engine that has come to rest moves to the engine that takes it (R314, R315). -/
def State.moveRest (s : State) (q : Nat) : State :=
  match (s.lq q).eng with
  | some e =>
    match s.partner e with
    | some t => s.when (s.rd F.TE_STAT_ROLE e == 2 && (s.lq q).atRest) fun s => s.updLq q fun l => { l with eng := some t, copying := true }
    | none => s
  | none => s

/-- Whether an engine may start a job: not while HANDING (R314). -/
def State.teStarts (s : State) (e : Nat) : Bool := let r := s.rd F.TE_STAT_ROLE e; s.engClk && (r == 1 || r == 5)

/-- JOB_START: the head of a queue starts once the LDPs of its predecessor have completed. A replayed job keeps the queue's
local flags, which its completed LDPs and satisfied WAIs have counted (R319); one whose region a takeover lost starts NOT DONE
(R311, R320). -/
def opJobStart (q : Nat) (s : State) : State :=
  let l := s.lq q
  match l.eng, l.jobs with
  | some e, j :: _ =>
    if !s.teStarts e || s.moving q || j.started || !l.ldps.isEmpty then s
    else
      let s := (s.ungate q).updLq q fun l => { l with
        wins := List.replicate 8 Win.zero, s1 := Dy.zero, flags := if j.replay || j.again then l.flags else [0, 0, 0], waiting := false }
      s.updJob q fun j => { j with started := true, cur := j.pc, failed := false, notDone := j.lost, sat := false }
  | _, _ => s

/-! ### LDP (R198, R199, R235, R298) -/

/-- Segments of the PRJ region that hold elements `off` to `off + n - 1` of a streamed vector (R199). -/
def segsOf (gather : Bool) (off n : Nat) : List Nat :=
  let w := if gather then 32 else 8192
  (List.range ((off + n - 1) / w + 1 - off / w)).map (off / w + ·)

/-- What an LDP of a vector lands in scratch, and the segments it reads: the blocks (SUB 0, 2), or the trailer (SUB 1, 3), which is
fetched only for a vector with a spilled or a rounded element (R197 to R199, R298). A streamed vector (SUB 0, 1) is authenticated. -/
def ldpOf (m : MatD) (v : PVec) (c : Cmd) (site : Nat) : Option Scr × List Nat :=
  let off := bits 51 32 c
  let n := bits 71 52 c
  let cut (xs : List Dy) : List Dy := (xs.drop off).take n
  if c.sub % 2 = 1 && v.nspill == 0 && v.ninex == 0 then (none, [])
  else
    (some (if c.sub % 2 = 1 then .trail site v.kidx v.gen off (cut v.rem) (cut v.eps) else .vec site v.kidx v.gen off (cut v.p)),
      if c.sub < 2 then segsOf m.gather off n else [])

/-- LDP: a copy of projection data starts; a fifth of an engine waits (R298). A replay skips those completed before (R319). Once a purged
job's result has left its slot no vector is current for it: nothing is copied, and the flag is counted all the same. -/
def opLdp (q : Nat) (s : State) : State :=
  s.control q (fun c => c.opc == 1) fun j p c s =>
    if 0 < j.skipL then s.updJob q fun j => { j with skipL := j.skipL - 1, cur := j.cur + 1 }
    else
      let site := j.siteOf (bits 103 88 c)
      match s.slotOf j.stream j.resseq, p.matD site with
      | some r, some m =>
        let (v, s) := s.takeVec q j r site (bits 18 16 c) false
        let (data, segs) := match v with | some v => ldpOf m v c site | none => (none, [])
        let d : Ldp := { flag := bits 23 22 c, dst := bits 85 72 c, data := data, segs := segs }
        (s.updLq q fun l => { l with ldps := l.ldps ++ [d] }).nextCmd q
      | none, some _ =>
        let d : Ldp := { flag := bits 23 22 c, dst := bits 85 72 c, data := none, segs := [] }
        (s.updLq q fun l => { l with ldps := l.ldps ++ [d] }).nextCmd q
      | _, none => s.badRange q j

/-- LDP_LAND: the oldest outstanding LDP of a queue completes; `fails` counts the reads of a segment of it that failed
authentication. R235 raises PRJ_AUTH at the first failed read, the table of R240 names it for the second: it is raised once, from the
first failure on (DESIGN CHOICE, log 68); after two the job ends NOT DONE, the matrix is queued with priority and the flag stays,
for nothing was authenticated (R234, R235, R298). The matrix is the one that the LDP reads. The running job's progress record counts the LDP (R318). -/
def opLdpLand (q fails site : Nat) (s : State) : State :=
  match (s.lq q).ldps, (s.lq q).jobs with
  | d :: ds, js =>
    let fails := if d.segs.isEmpty then 0 else fails
    let site := match d.data with
      | some (.vec st _ _ _ _) => st
      | some (.trail st _ _ _ _ _) => st
      | _ => site
    let c := match (s.lq q).ctx with | some (c, _) => c | none => 0
    let run := match js with | j :: _ => j.started | [] => false
    let st := match js with | j :: _ => (if j.started then some j.stream else none) | [] => none
    let s := s.updLq q fun l => { l with ldps := ds }
    let s := s.when (decide (1 ≤ fails)) fun s => s.report { src := S.PST_PRJ_AUTH, chan := c, stream := st, unit := site, mark := false }
    let s :=
      if 2 ≤ fails then (s.rekeyQueue c site true).1.when run fun s => s.jobNd q
      else match d.data with | some x => s.setScr q d.dst x | none => s
    let s := s.when run fun s => s.updJob q fun j => { j with ldps := j.ldps + 1 }
    ((s.when (decide (d.flag < 3) && decide (fails < 2)) fun s => s.addFlag q d.flag 1).ungate q).moveRest q
  | [], _ => s

/-! ### Transfer commands (R306, R664 to R669) -/

/-- The moved vector projected under a transfer key into the command's windows. -/
def State.xferProject (s : State) (q : Nat) (j : Job) (r : Slot) (p : Plan) (c : Cmd) (key : Nat) : State :=
  let k := bits 18 16 c + 1
  let w0 := bits 21 19 c
  let site := j.siteOf (bits 95 80 c)
  let n := bits 79 60 c
  let s := (s.clrWins q w0 k (bit 23 c)).laneops q (k * n)
  match p.tref site (bits 39 24 c) with
  | none => s.jobNd q
  | some t =>
    let idx := (List.range n).map (bits 59 40 c + ·)
    let es := idx.map fun i => r.el t j.token i
    match finite (es.map fun e => e.map fun e => decodeScaled t.fmt t.mx e.2 e.1) with
    | none => s.jobNd q
    | some none => s.jobFailed q
    | some (some ys) =>
      let g := (ys.zip es).map fun (y, e) => onGrid t.fmt t.mx (e.getD (0, 127)).2 y
      (List.range k).foldl (fun s w =>
        let entry (i : Nat) : Nat := if w = 0 then i else Config.xferEntry w i
        s.addTerms q (w0 + w) (grouped t.fmt) ((idx.zip g).map fun (i, y) => (i, if signBit key (entry i) then y.neg else y)) []) s

/-- The newest key that this companion sent for a site and a paired stream (R664, R665). -/
def State.sendKeyFor (s : State) (site dst resseq : Nat) : Option XKey := keyFor s.reed.sent site dst resseq

/-- XFS. The value leaves once every producer has an outcome (R666). -/
def State.runXfs (s : State) (q : Nat) (j : Job) (r : Slot) (p : Plan) (c : Cmd) : State :=
  let site := j.siteOf (bits 95 80 c)
  match p.xferD site with
  | none => s.illMark q j
  | some d =>
    let dst := match d.pairs.find? fun x => x.1 == (s.st j.stream).sidx with | some (_, g) => g | none => 0
    let (s, gen) := match s.sendKeyFor site dst j.resseq with
      | some k => (s.xferProject q j r p c k.key, k.kgen)
      | none => (s.jobNd q, 0)
    let bad := match (s.lq q).jobs with | j :: _ => j.failed || j.notDone | [] => true
    let x : XOut :=
      { peer := d.peer, stream := j.stream, resseq := j.resseq, xid := bits 127 96 c, token := j.token, dst := dst, kgen := gen,
        wins := (s.xferWins q c).map winOut, notDone := bad, producers := d.producers }
    (s.updReed fun r => { r with xwait := r.xwait ++ [x] }).xflush

/-- XFC: the received vector is projected; without the peer's value the queue waits up to the site's timeout. -/
def opXfc (q : Nat) (s : State) : State :=
  (match s.headCmd q with
   | none => s
   | some (j, p, c) =>
     if !cmdLegal (s.pagesOf q) c then s.illegal q j
     else if c.opc ≠ 10 then s
     else if s.misfit q j p c then s.illegal q j
     else if j.failed || j.notDone || j.purge then s.nextCmd q
     else
       match s.slotOf j.stream j.resseq, p.xferD (j.siteOf (bits 95 80 c)) with
       | some r, some d =>
         if s.peerGone d.peer then (s.jobNd q).nextCmd q
         else
           match keyFor s.reed.recv d.site j.stream j.resseq with
           | none => ((s.jobNd q).nextCmd q).raiseSt S.REED_XKEY_MISS j.stream
           | some k =>
             let s := s.xferProject q j r p c k.key
             let stop := match (s.lq q).jobs with | j :: _ => j.failed || j.notDone | [] => true
             if stop then s.nextCmd q
             else
               let t := s.cyc + usC d.timeoutUs
               let s := s.updLq q fun l => { l with waiting := true }
               (s.updJob q fun j => { j with xfc := some t, xgen := k.kgen }).xfcTake q
       | none, _ => (s.jobNd q).nextCmd q
       | _, none => s.illegal q j)

/-- XFS. -/
def opXfs (q : Nat) (s : State) : State := s.compute q (isCmd 9 0) fun j r p c s => s.runXfs q j r p c

/-- XFER_TO (R306): the wait of an XFC passes its timeout. -/
def opXferTo (q : Nat) (s : State) : State :=
  match s.xfcHead q with
  | none => s
  | some (j, _, _, _) =>
    match j.xfc with
    | none => s
    | some t =>
      let s := (s.reachCyc t).xfcEnd q false true
      if j.purge then s
      else s.report { src := S.TE_XFER_TO.at (s.engOf q), stream := some j.stream, unit := j.site, ref := j.resseq, mark := false }

/-! ### SIG, WAI and DONE (R307 to R313) -/

/-- The stream paired with a stream at a device (R670). -/
def State.pairedStream (s : State) (p : Plan) (i dev : Nat) : Nat :=
  match p.xfer.findSome? fun d =>
      if d.peer = dev then (d.pairs.find? fun x => x.1 == (s.st i).sidx).map (·.2) else none with
  | some g => g
  | none => 0

/-- A SIG of the job has acted. -/
def State.sigDone (s : State) (q : Nat) : State := s.updJob q fun j => { j with cur := j.cur + 1, sigs := j.sigs + 1 }

/-- SIG: a local flag, a semaphore of the result's bank, or a remote semaphore gains CNT; a job of the VDU may name a plan-wide one
(R307, R399). A replay skips those issued before. -/
def opSig (q : Nat) (s : State) : State :=
  (s.control q (fun c => c.opc == 11) fun j p c s =>
    let cnt := bits 39 32 c
    if 0 < j.skipS then s.updJob q fun j => { j with skipS := j.skipS - 1, cur := j.cur + 1 }
    else if bit 0 c.sub then
      if s.flagsOf q ≤ bits 17 16 c then s.badRange q j else (s.addFlag q (bits 17 16 c) cnt).sigDone q
    else
      let dev := bits 45 40 c
      let n := bits 29 16 c
      if bit 30 c && !j.vdu then s.badRange q j
      else if dev ≠ 0x3F && dev ≠ s.dev then
        let pay := natLe 1 (s.pairedStream p j.stream dev) ++ natLe 1 cnt ++ natLe 2 n ++ natLe 8 j.resseq
        let s := if s.peerGone dev then s.inc F.REED_XDROP_N else s.rsendTo (s.flitTo 0x20 0 dev pay)
        s.sigDone q
      else
        match s.semAbs j.ctx j.bank n (bit 30 c) with
        | none => s.badRange q j
        | some k => (s.sigDone q).semSignal (s.engOf q) 0 j.ctx k cnt).settle

/-- WAI: the queue registers as a waiter and is granted at once where the count suffices (R405); on an ABANDONED semaphore its
job ends without a report (R410). A replay skips those satisfied before. -/
def opWai (q : Nat) (s : State) : State :=
  (s.control q (fun c => c.opc == 12) fun j _ c s =>
    let n := bits 47 32 c
    if 0 < j.skipW then s.updJob q fun j => { j with skipW := j.skipW - 1, cur := j.cur + 1 }
    else if bit 0 c.sub then
      if s.flagsOf q ≤ bits 17 16 c then s.badRange q j
      else ((s.updLq q fun l => { l with waiting := true }).wakeFlag q).moveRest q
    else if bit 30 c && !j.vdu then s.badRange q j
    else
      match s.semAbs j.ctx j.bank (bits 29 16 c) (bit 30 c) with
      | none => s.badRange q j
      | some k =>
        if s.rd F.SEM_SSTAT_STATE k = 2 then (s.dropJob q).freeBanks j.stream
        else
          let s := s.updLq q fun l => { l with waiting := true }
          let s : State := { s with sem := { s.sem with waits := s.sem.waits ++ [⟨k, q, n⟩] } }
          let s := s.wr F.SEM_SSTAT_NWAIT ((s.sem.waits.filter fun w => w.sem == k).length) k
          (s.grants k s.sem.waits.length).moveRest q).settle

/-- Outcome that DONE reports (R310); an RTE check fails also for an expert outside the selection (R253). -/
def State.doneRes (s : State) (j : Job) (kind : Nat) : Nat :=
  let stray := kind == 4 && match s.slotOf j.stream j.resseq with
    | some r => r.rteBad.contains (luKey j.site j.token)
    | none => false
  if j.failed || stray then 1 else if j.notDone then 2 else 0

/-- The outcome of a SAR fallback job, one of those for each token of its result (R28, R272): the check FAILs with the first token that
does, and has its outcome else once every token has one. Its event record names the drawn pair (R271). -/
def State.sarToken (s : State) (j : Job) (kind res : Nat) : State :=
  match s.slotOf j.stream j.resseq with
  | none => s
  | some r =>
    let old := (r.sarToks.filter fun x => x.1 == j.chk).map (·.2)
    let s := (s.updSlot j.stream j.resseq fun r => { r with sarToks := (j.chk, res) :: r.sarToks }).sumBit j.stream j.resseq 1
    let report (o : Nat) : State := s.chkReport j.stream j.resseq j.chk kind o 0 j.site true (natLe 1 (j.chk - sarKey 0))
    if old.contains 1 then s
    else if res = 1 then report 1
    else if r.ntok ≤ old.length + 1 then report (old.foldl max res)
    else s

/-- DONE: the job ends; a job that is not purged reports its check, and a projection check that a saturated output ends NOT DONE is
counted (R212); the join semaphore of a job with a check is signalled; the bank of a formed
result is released with its last job (R309, R312, R361). -/
def opJobDone (q : Nat) (s : State) : State :=
  (s.control q (fun c => c.opc == 13) fun j p c s =>
    let e := s.engOf q
    let kind := bits 19 16 c
    let key := chkKey (bits 35 20 c) j.token
    let s := (s.updLq q fun l => { l with jobs := l.jobs.drop 1, waiting := false }).add64 R.TE_JOBS_LO R.TE_JOBS_HI 1 e
    let s := if kind = 0 || j.purge then s
      else
        let res := s.doneRes j kind
        let s := s.when (j.sat && kind == 1 && res == 2) fun s => (s.inc F.PST_SATND_N).sumBit j.stream j.resseq 5
        let s := if j.fallback then s.sarToken j kind res
          else s.chkReport j.stream j.resseq key kind res 0 j.site j.replay
        s.auditSelect j.stream j.resseq (bits 35 20 c) j.token kind j.site res
    let sem := bits 49 36 c
    let s := if sem = 0x3FFF || kind = 0 then s
      else match s.semAbs j.ctx j.bank sem false with
        | some k => s.joinSignal e j.stream j.resseq j.ctx k
        | none => s
    let _ := p
    (s.freeBanks j.stream).moveRest q).settle.bpAll

/-! ### The semaphore block's rows (R400 to R422) -/

/-- SEM_SIGNAL (R400, R402, R404): a signal of one of the units of R401 arrives; no
unit has a code above 9. A remote one is held to R404. -/
def opSemSignal (src dev c n cnt : Nat) (s : State) : State :=
  (if 9 < src then s
   else if src ≠ 9 then s.semSignal src 0 c n cnt
   else
     let c := s.rd F.SEM_SSTAT_CTX n
     let peers : List Nat := match (s.ctx c).plan with | some p => p.xfer.map (fun x => x.peer) | none => []
     if !s.on F.SEM_SSTAT_REMOTE n || !peers.contains dev then (s.inc F.SEM_REMREJ_N).raise S.SEM_REMOTE_BAD
     else s.semSignal 9 dev c n cnt).settle

/-- SEM_INIT (R411). -/
def opSemInit (n : Nat) (s : State) : State := if s.rd F.SEM_SSTAT_STATE n = 2 then s.semInit n else s.access

/-- Banks whose semaphores include one that is abandoned (R412). -/
def State.semAbandonAll (s : State) (ns : List Nat) : State := s.each ns fun n s => s.semAbandon n

/-- Banks of results whose last job has ended are released. -/
def State.freeAll (s : State) : State := s.upto (fun i s => s.freeBanks i) 64

/-- SEM_ABANDON (R409). -/
def opSemAbandon (n : Nat) (s : State) : State :=
  if s.rd F.SEM_SSTAT_STATE n = 1 then (s.semAbandon n).freeAll.settle else s.access

/-- SEM_CLR (R421). -/
def opSemClr (s : State) : State :=
  let s := ((s.setWord R.SEM_DLCNT 0).setWord R.SEM_OVFCNT 0).setWord R.SEM_RESCNT 0
  let s := ((s.setWord R.SEM_ABNDDISC 0).setWord R.SEM_REMREJ 0).setWord R.SEM_SNAPN 0
  { s.wr F.SEM_STAT_SNAPV 0 with sem := { s.sem with snap := [] } }

/-! ### Deadlock (R414 to R416) -/

/-- A stream whose oldest undispatched record is a BEGIN_RESULT that waits for a bank (R398, R414). -/
def State.bankHeld (s : State) (i : Nat) : Bool :=
  match s.nextRec (s.portOf i) false i, s.planOf i with
  | some r, some p => r.typ == 1 && (((s.freeBanks i).st i).nextBank p).isNone
  | _, _ => false

/-- Key-up or re-key work for the background slots: an open matrix that has its keys and every chunk (R224, R225, R285). -/
def State.bgWork (s : State) : Bool :=
  s.ctxs.any fun c => c.mats.any fun m =>
    m.openK && !m.keys.isEmpty && match c.plan.bind fun p => p.matD m.site with
      | some d => decide (d.nchunk ≤ m.chunks.length)
      | none => false

/-- Every condition of R414. The background slot runs the PST's key-up work alone, which holds no WAI (R285), and is idle while it has
none to run. -/
def State.deadlocked (s : State) : Bool :=
  s.lqs.any (fun l => l.inWai && l.eng.isSome) && !s.bgWork && s.lqs.all (fun l => l.jobs.isEmpty || l.inWai) &&
  s.lqs.all (fun l => l.ldps.isEmpty && !l.copying) && !s.reed.pend.any (·.isSig) &&
  (s.mnt.shs.all fun h => h.queue.isEmpty && h.run.isNone) &&
  (s.taps.all fun t => t.buf.isEmpty && t.recs.all fun r => r.done || (!r.port && s.bankHeld r.stream)) &&
  (List.range 4).all fun e => let r := s.rd F.TE_STAT_ROLE e; r != 2 && r != 5

/-- The detector's timer (R414): it runs from the cycle in which every condition has come to hold, and begins anew where the command
was itself the arrival of a signal (`stir`). What a command ends or begins may end or begin backpressure too (R179, R180, R188). -/
def State.watch (s : State) (stir : Bool := false) : State :=
  let s := s.bpAll
  let t := s.cyc
  let since := if s.deadlocked then (if stir then some t else some (s.sem.since.getD t)) else none
  { s with sem := { s.sem with since := since } }

/-- The snapshot of the blocked heads (R416, R421). -/
def State.snapshot (s : State) : List SnapE :=
  (List.range 48).filterMap fun q =>
    let l := s.lq q
    if !l.inWai then none
    else
      match s.flagWait q with
      | some (i, n) => some ⟨i, s.engOf q, q, true, n, s.flag q i⟩
      | none => (s.sem.waits.find? fun w => w.lq == q).map fun w => ⟨w.sem, s.engOf q, q, false, w.n, s.rd F.SEM_SSTAT_COUNT w.sem⟩

/-- DEADLOCK (R415 to R417): the conditions have held for 65,536 cycles; the heads are released and their jobs end without a
report. -/
def opDeadlock (s : State) : State :=
  if !s.deadlocked then s
  else
    let s := s.reachCyc (s.sem.since.getD s.cyc + 65536)
    let snap := s.snapshot.take 128
    let s := s.inc F.SEM_DLCNT_N
    let s := if s.rd F.SEM_SNAPN_N ≠ 0 then s
      else
        let s := ({ s with sem := { s.sem with snap := snap } } : State).wr F.SEM_SNAPN_N snap.length
        (s.wr F.SEM_STAT_SNAPV 1).wrTime R.SEM_SNAPTIME_NS R.SEM_SNAPTIME_SEC_LO R.SEM_SNAPTIME_SEC_HI s.ns
    let s := s.raise S.SEM_DEADLOCK
    let s := s.semAbandonAll ((snap.filter fun x => !x.flag).map (·.sem)).eraseDups
    let s := s.each (snap.filter (·.flag)) fun x s => s.dropJob x.lq
    s.freeAll.settle.bpAll

end Sys2Proof.Machine
end

