-- ==== Sys2Proof/Machine/Rotation.lean ====
section
/-!
DEFINITION. Roles of the tally engines: binding of queues, rotation, takeover and replay, self-test slots and the return of
an engine (R32 to R40, R269, R285, R286, R314 to R322).
-/
namespace Sys2Proof.Machine

/-- An engine's own state changed. -/
def State.updTe (s : State) (e : Nat) (f : Te → Te) : State := { s with tes := updAt f e s.tes }

/-- Programs of every loaded plan, as a program cache holds them (R293). -/
def State.programs (s : State) : List (Nat × List Nat) :=
  (List.range 16).filterMap fun c => (s.ctx c).plan.map fun p => (c, Plan.commands p)

/-- A role, with _STAT.STATE, the clock gating and the program cache that go with it: a self-test slot overwrites the cache, and it is
filled again before the engine may take queues (R293, R314, R316, R325). -/
def State.role (s : State) (e r : Nat) : State :=
  let st := match r with | 0 => 0 | 1 | 2 | 5 => 2 | 6 => 3 | _ => 1
  let s := ((s.wr F.TE_STAT_ROLE r e).wr F.TE_STAT_STATE st e).wr F.TE_STAT_GATED (b2n (r == 4 && !s.on F.TE_CTRL_NOGATE e)) e
  let t := s.cyc
  let test := r == 3 || r == 7
  let ps := s.programs
  (s.wr F.TE_STAT_STPHASE (b2n test) e).updTe e fun x => { x with
    slotAt := if test then t else x.slotAt, cache := if test then [] else if r == 1 || r == 4 || r == 5 then ps else x.cache }

/-- A context's programs enter the program cache of every engine in service, or leave every cache (R293). -/
def State.cacheCtx (s : State) (c : Nat) : State :=
  let ps := s.programs
  s.upto (fun e s => s.updTe e fun x => { x with
    cache := if [1, 2, 4, 5].contains (s.rd F.TE_STAT_ROLE e) then ps else x.cache.filter fun y => y.1 != c }) 4

/-- Role of an engine. -/
def State.roleOf (s : State) (e : Nat) : Nat := s.rd F.TE_STAT_ROLE e

/-- Queues bound to an engine. -/
def State.queuesOf (s : State) (e : Nat) : List Nat := (List.range 48).filter fun q => (s.lq q).eng == some e

/-- Declaration of a queue (R286), by the plan of its context, or by the one that the context takes next (R813). -/
def State.queueD (s : State) (q : Nat) : QueueD :=
  match (s.lq q).ctx with
  | some (c, k) =>
    (match ((s.ctx c).next.map (·.1)).or (s.ctx c).plan with
     | some p => p.queues.getD k ⟨0, 0, 0, false⟩
     | none => ⟨0, 0, 0, false⟩)
  | none => ⟨0, 0, 0, false⟩

/-- Scratch pages, flags and stream-state bytes that an engine's queues hold. -/
def State.held (s : State) (e : Nat) : Nat × Nat × Nat :=
  let ds := (s.queuesOf e).map s.queueD
  (sumNat (ds.map (·.pages)), sumNat (ds.map (·.flags)), sumNat (ds.map (·.state)))

/-- Whether a queue fits an engine (R282, R285, R286). -/
def State.queueFits (s : State) (e : Nat) (d : QueueD) : Bool :=
  let (p, f, b) := s.held e
  decide ((s.queuesOf e).length < 31) && decide (p + d.pages ≤ 96) && decide (f + d.flags ≤ 48) && decide (b + d.state ≤ 524288)

/-- The engine of a list with the most free scratch, then stream state, that a queue fits. -/
def State.bestEng (s : State) (d : QueueD) (es : List Nat) : Option Nat :=
  (es.filter fun e => s.queueFits e d).foldl (fun b e =>
    match b with
    | none => some e
    | some x => let (px, _, bx) := s.held x; let (pe, _, be) := s.held e; if pe < px || (pe == px && be < bx) then some e else b) none

/-- A queue is bound to an engine, or to none; an engine that receives jobs is no longer gated (R322). -/
def State.bind (s : State) (q : Nat) (e : Option Nat) : State :=
  let s := s.updLq q fun l => { l with eng := e }
  s.when (!(s.lq q).jobs.isEmpty) fun s => s.ungate q

/-- Engines that may receive queues. -/
def State.receivers (s : State) : List Nat := (List.range 4).filter fun e => s.roleOf e == 1 || s.roleOf e == 5

/-- Streams whose ENV checks a queue carries (R268). -/
def State.envStreams (s : State) (q : Nat) : List Nat :=
  match (s.lq q).ctx with
  | some (c, k) =>
    match (s.ctx c).plan with
    | some p => ((p.groups.filter fun g => g.jobs.any fun j => j.queue == k && j.kind == 6).map fun g => (s.ctx c).sbase + g.sidx).eraseDups
    | none => []
  | none => []

/-- Envelope state that could not be copied is rebuilt from the positions that the KV copy still holds; once positions have been
evicted a CAUSAL hull is incomplete (R269). -/
def State.rebuildHull (s : State) (i : Nat) : State :=
  match s.planOf i with
  | none => s
  | some p =>
    s.updSt i fun x =>
      let done := x.kv.filter fun r => r.folded
      ({ x with hulls := [], hullBad := x.hullBad || x.evicted } : Stream).fold p (done.map fun r => (r.site, r.pos))

/-- Queues are placed on the engines with the most room; one that fits none is unbound, and its envelope state is lost with its place
in a local buffer (R269, R321). `cp` says that their state still has to be copied. -/
def State.repack (s : State) (qs es : List Nat) (cp : Bool) : State :=
  let s := s.each qs fun q s => s.bind q none
  s.each qs fun q s =>
    match s.bestEng (s.queueD q) es with
    | some e => (s.bind q (some e)).updLq q fun l => { l with copying := cp }
    | none => s.each (s.envStreams q) fun i s => s.rebuildHull i

/-- Queues that are bound to no engine are bound where they fit (R321). -/
def State.bindQueues (s : State) (qs : List Nat) : State :=
  s.each (qs.filter fun q => (s.lq q).eng.isNone) fun q s => s.bind q (s.bestEng (s.queueD q) s.receivers)

/-- Unbound queues of streams that hold engine space are bound where they fit, the higher class first (R321, R354). -/
def State.bindLive (s : State) : State :=
  let held (q : Nat) : Bool := match (s.lq q).ctx with
    | some (c, k) => (match (s.ctx c).plan with | some p => (s.holders c).any fun i => (p.queuesFor (s.st i).sidx).contains k | none => false)
    | none => false
  (List.range 3).foldl (fun s c => s.bindQueues ((List.range 48).filter fun q => held q && s.queueClass q == c)) s

/-- The head of a queue stops and starts again from its PC, on the words still held (R46, R318, R319): its registration and
outstanding LDPs are dropped, with RECOMP's partials, which it forms again, and what its progress record counts will be skipped. -/
def State.restartHead (s : State) (q : Nat) (f : Job → Job) : State :=
  let s := s.each (s.sem.waits.filter fun w => w.lq == q) fun w s => s.unwait w
  let soft (x : Nat × Scr) : Bool := match x.2 with | .soft _ => true | _ => false
  let s := s.updLq q fun l => { l with waiting := false, ldps := [], scratch := l.scratch.filter fun x => !soft x }
  s.updJob q fun j => f { j with
    started := false, cur := j.pc, xfc := none, skipS := j.sigs, skipW := j.wais, skipL := j.ldps }

/-- The running head job of a queue replays on the engine that takes the queue (R319). -/
def State.replayHead (s : State) (q : Nat) : State :=
  match (s.lq q).jobs with
  | j :: _ =>
    if !j.started then s
    else
      let s := s.restartHead q fun j => { j with replay := true }
      match (s.lq q).eng with | some e => s.inc F.TE_REPLAYS_N e | none => s
  | [] => s

/-- The spare that takes an engine's queues: testing or idle. Taking them in its slot it abandons the slot, and the MNA schedules its
next one at the next rotation step (R35). -/
def State.spare (s : State) : Option Nat := (List.range 4).find? fun e => s.roleOf e == 3 || s.roleOf e == 4
def State.takes (s : State) (t e : Nat) : State :=
  let due := if s.roleOf t = 3 then some t else s.mna.due
  (({ s with mna := { s.mna with due := due } } : State).role t 5).updTe t fun x => { x with taking := some e }

/-- Queues move from a faulted engine: to the engine that takes them, else by immediate repack (R320, R321, R324), their state still to
be copied; a replay after an engine loss shows in FAULTSUM (R369). -/
def State.moveAway (s : State) (e : Nat) (qs : List Nat) (taker : Option Nat) : State :=
  let s := match taker with
    | some t =>
      let s := s.each qs fun q s => s.updLq q fun l => { l with eng := some t, copying := true }
      if s.roleOf t = 5 then s else s.takes t e
    | none => s.repack qs (s.receivers.filter fun x => x != e) true
  s.each qs fun q s =>
    match (s.lq q).jobs with
    | j :: _ => (s.when j.started fun s => s.sumBit j.stream j.resseq 0).replayHead q
    | [] => s

/-- Queues that an engine has taken so far have their state. -/
def State.gotQueues (s : State) (e : Nat) : State := s.each (s.queuesOf e) fun q s => s.updLq q fun l => { l with copying := false }

/-- An engine leaves service by a fault source (R314, R319, R320, R324): OUT, and its queues are taken over; those that it had handed
over stay moved. -/
def State.teOut (s : State) (e src : Nat) : State :=
  let r := s.roleOf e
  if r == 6 || r == 0 then s
  else
    let qs := s.queuesOf e
    let partner := s.partner e
    let s := ((s.role e 6).wr F.TE_OUTCAUSE_SRC src e).wr F.TE_OUTCAUSE_VALID 1 e
    let s := s.updTe e fun x => { x with taking := none }
    let s :=
      if r = 1 then s.moveAway e qs s.spare
      else if r = 2 then
        let s := match partner with | some t => s.gotQueues t | none => s
        s.moveAway e qs partner
      else if r = 5 then s.moveAway e qs none
      else s
    s.markEngines

/-- Hand-over is complete where no head of the engine still runs: a head blocked in WAI moves as it is (R315). -/
def State.handable (s : State) (e : Nat) : Bool := (s.queuesOf e).all fun q => (s.lq q).atRest

/-- An engine begins to hand over (R314, R315): the engine that takes its queues receives each as it comes to rest. -/
def State.hand (s : State) (e : Nat) : State :=
  let s := s.role e 2
  s.each (s.queuesOf e) fun q s => s.moveRest q

/-- An engine has left service by a transaction or a block reset, `old` being the state before. Where one engine is left the companion
raises a U-class fault (R39); no source of the tables is that fault, so it is one of the U-class sources of the engine's page, which one
is free (DEDUCED, log 41). -/
def State.leftOne (s old : State) (e : Nat) : State :=
  let us := [S.TE_DUP_MISMATCH, S.TE_LBUF_UE, S.TE_CMD_ILL, S.TE_TERMS_OVF, S.TE_FLAG_OVF, S.TE_STEST_FAIL, S.TE_STATE_LOST]
  let s := s.markEngines
  s.when (decide (1 < old.teCount) && decide (s.teCount ≤ 1)) fun s =>
    let n := (s.fresh 8).toNat % 7
    s.drew.raise ((us.getD n S.TE_DUP_MISMATCH).at e)

/-- An engine whose EN has been applied as 0 begins to hand over, to the spare if there is one (R314, R324). -/
def State.disable (s : State) (e : Nat) : State :=
  let old : State := s.wr F.TE_CTRL_EN 1 e
  let s := match s.spare with | some t => s.takes t e | none => s
  (s.hand e).leftOne old e

/-- A taking engine has received every queue: it is ACTIVE (R314). -/
def State.tookAll (s : State) (t : Nat) : State :=
  let s := (((s.gotQueues t).role t 1).updTe t fun x => { x with taking := none })
  if s.on F.TE_CTRL_EN t then s else s.disable t

/-- SPARE_HANDOVER_DONE (R34, R314, R315, R321): the last queues move to the engine that takes them, or all are repacked. -/
def opSpareHandoverDone (e : Nat) (s : State) : State :=
  if !s.engClk || s.roleOf e ≠ 2 || !s.handable e then s
  else
    let qs := s.queuesOf e
    let partner := s.partner e
    let s := match partner with
      | some t => s.each qs fun q s => s.bind q (some t)
      | none => s.repack qs (s.receivers.filter fun x => x != e) false
    let s := if s.on F.TE_CTRL_EN e then s.role e 3 else (s.role e 0).markEngines
    match partner with | some t => s.tookAll t | none => s

/-- Comparators of an engine, each of a unit and its duplicate (R283, R316). -/
def teComparators : Nat := 11

/-- One comparator of an engine is injected in its self-test slot (R316, R547, R550): an expected entry is created and its check happens;
the report consumes it, or its window ends without one. -/
def State.slotEntry (s : State) (e g : Nat) (silent : Bool) : State :=
  let x := S.TE_DUP_MISMATCH.at e
  let s := (s.arm x.page x.num g).injected x.page x.num g
  if silent then opInjWindowExpiry x.page x.num g s else s.report { src := x, chan := g, inj := true }

/-- The comparator injections of a self-test slot (R316, R317), one comparator after the other; an entry without a syndrome brings the
FCU's checker-silent rule. Which comparators passed before it is not said: a free value. The slot ends with its result, so that the entries
stand only within this step (log 169). -/
def State.slotInject (s : State) (e : Nat) (pass : Bool) (phase : Nat) : State :=
  if pass || 3 < phase then s.upto (fun g s => s.slotEntry e g false) teComparators
  else if phase = 3 then
    let n := (s.fresh 8).toNat % teComparators
    (s.drew.upto (fun g s => s.slotEntry e g false) n).slotEntry e n true
  else s

/-- A slot of R725 ends on an engine: its result, with a duration and a failing step that its row does not name, which are free. -/
def State.slotResult (s : State) (e : Nat) (pass : Bool) : State :=
  let us := (s.fresh 10).toNat
  let ph := 1 + (s.drew.fresh 3).toNat % 5
  let s := (s.drew.drew.wr F.TE_STLAST_US us e).wr F.TE_STLAST_PHASE (if pass then 0 else ph) e
  let s := ((s.wr F.TE_STAT_STPHASE 0 e).wr F.TE_STAT_STPASS (b2n pass) e).slotInject e pass ph
  let t := s.cyc
  if pass then (s.inc F.TE_STCNT_PASS e).updTe e fun x => { x with lastPass := t } else s.inc F.TE_STCNT_FAIL e

/-- ENG_FREQ takes a tally engine OUT (R720, R747). During its self-test slot the slot counts as failed (R317, R743), in a step that
is not said: its duration and number are free (DEDUCED, log 122). -/
def State.freqOut (s : State) (e : Nat) : State :=
  if s.roleOf e ≠ 3 then s.teOut e 3
  else
    let us := (s.fresh 10).toNat
    let ph := 1 + (s.drew.fresh 3).toNat % 5
    let s := (s.drew.drew.wr F.TE_STLAST_US us e).wr F.TE_STLAST_PHASE ph e
    let s := ((s.wr F.TE_STAT_STPHASE 0 e).wr F.TE_STAT_STPASS 0 e).inc F.TE_STCNT_FAIL e
    (s.raise (S.TE_STEST_FAIL.at e)).teOut e 3

/-- TE_SELFTEST_DONE (R314, R316, R317): the slot of a spare or of a probed engine ends after `us` µs, in step `phase` where it
fails. -/
def opTeSelftestDone (e : Nat) (pass : Bool) (phase us : Nat) (s : State) : State :=
  let r := s.roleOf e
  if !s.engClk || (r ≠ 3 && r ≠ 7) then s
  else
    let t := s.cyc
    let s := ((s.wr F.TE_STAT_STPHASE 0 e).wr F.TE_STAT_STPASS (b2n pass) e).slotInject e pass phase
    let s := (s.wr F.TE_STLAST_US (min us 1023) e).wr F.TE_STLAST_PHASE (if pass then 0 else phase) e
    if pass then
      ((s.inc F.TE_STCNT_PASS e).updTe e fun x => { x with lastPass := t }).role e (if r = 3 then 4 else 8)
    else
      let s := s.inc F.TE_STCNT_FAIL e
      ((s.raise (S.TE_STEST_FAIL.at e)).teOut e 6).settle

/-- The words of a queue's scratch are lost (R320): a command that reads one before it is written again sets NOTDONE, on whichever
queue it runs. -/
def State.loseQueue (s : State) (q : Nat) : State :=
  s.updLq q fun l => { l with scratch := [], lostScr := true }

/-- Whether a job reads its stream's envelope state: its program has an ENV command (R268, R305). -/
def State.readsEnv (s : State) (j : Job) : Bool :=
  match (s.ctx j.ctx).plan with | some p => (p.program j.pc).any fun c => Cmd.opc c == 8 && Cmd.sub c != 4 | none => false

/-- A stream's envelope state is lost (R269, R320): it is rebuilt, and the jobs in the FIFOs that read it are NOT DONE. -/
def State.loseEnv (s : State) (i : Nat) : State :=
  let f (j : Job) : Job := if j.stream = i && s.readsEnv j then { j with lost := true, notDone := true } else j
  (s.upto (fun q s => s.updLq q fun l => { l with jobs := l.jobs.map f }) 48).rebuildHull i

/-- TAKEOVER_COPY_DONE (R269, R314, R320): an engine has received the state of the queues that it took over, or that a rotation step
gave it. Words of the queues `lostQ` and of the envelope state of the streams `lostSt` read uncorrectable. -/
def opTakeoverCopyDone (e : Nat) (lostQ lostSt : List Nat) (s : State) : State :=
  let r := s.roleOf e
  let handed := match (s.te e).taking with | some x => s.roleOf x == 2 | none => false
  let copying := (s.queuesOf e).filter fun q => (s.lq q).copying
  if !s.engClk || handed || !(r == 5 || (r == 1 && !copying.isEmpty)) then s
  else
    let lostQ := lostQ.filter fun q => copying.contains q
    let s := s.when (!lostQ.isEmpty || !lostSt.isEmpty) fun s => s.raise (S.TE_STATE_LOST.at e)
    let s := s.each lostQ fun q s => s.loseQueue q
    let s := s.each lostSt fun i s => s.loseEnv i
    (if r = 5 then s.tookAll e else s.gotQueues e).settle

/-- An engine has nothing to issue (R322): every queue is empty or blocked, no LDP is outstanding, and the background slot has no
work. -/
def State.teIdle (s : State) (e : Nat) : Bool :=
  !s.bgWork && (s.queuesOf e).all fun q => let l := s.lq q; (l.jobs.isEmpty || l.inWai) && l.ldps.isEmpty

/-- Background work has arrived: the engines that may run it are no longer gated (R322). -/
def State.bgUngate (s : State) : State :=
  s.when s.bgWork fun s => s.upto (fun e s => s.when (s.teRuns e) fun s => s.wr F.TE_STAT_GATED 0 e) 4

/-- TE_STAT.GATED as it reads (R314, R322): an idle spare is gated, and an engine with queues while it has nothing to issue. -/
def State.gatedNow (s : State) (e : Nat) : Bool := s.on F.TE_STAT_GATED e && (s.roleOf e == 4 || s.teIdle e)

/-- TE_CLOCK_GATE (R322): after 16 idle cycles the engine's domain is gated. -/
def opTeClockGate (e : Nat) (s : State) : State :=
  if s.teRuns e && s.teIdle e && !s.on F.TE_CTRL_NOGATE e && !s.on F.TE_STAT_GATED e then
    (s.advance 16).wr F.TE_STAT_GATED 1 e
  else s

/-- TE_CLR (R327). -/
def opTeClr (e : Nat) (s : State) : State :=
  let s := (s.setWord R.TE_LANEOPS_LO 0 e).setWord R.TE_LANEOPS_HI 0 e
  let s := (s.setWord R.TE_VSLOTS_LO 0 e).setWord R.TE_VSLOTS_HI 0 e
  let s := (s.setWord R.TE_JOBS_LO 0 e).setWord R.TE_JOBS_HI 0 e
  (s.setWord R.TE_REPLAYS 0 e).setWord R.TE_STCNT 0 e

/-- The block reset of a tally engine (R40, R67, R314): EN clears; an OUT engine enters PROBE with a full self-test slot, any
other leaves service as at a takeover and stays OFF. -/
def State.teReset (s : State) (e : Nat) : State :=
  let out := s.roleOf e == 6
  let old := s
  let s := if out then s else s.teOut e 0
  let s := (s.wr F.TE_CTRL_EN 0 e).wr F.TE_STAT_STPASS 0 e
  let s := ((s.setWord R.TE_OUTCAUSE 0 e).setWord R.TE_ILLPC 0 e).setWord R.TE_STLAST 0 e
  (s.role e (if out then 7 else 0)).leftOne old e

/-- A transaction applied TE_CTRL of an engine (R314, R324, R325): NOGATE ends a gating, without
it an idle spare is gated, and EN moves the engine. -/
def State.teApply (s : State) (e : Nat) : State :=
  let s := if s.on F.TE_CTRL_NOGATE e then s.wr F.TE_STAT_GATED 0 e
    else s.when (s.roleOf e == 4) fun s => s.wr F.TE_STAT_GATED 1 e
  let old : State := s.wr F.TE_CTRL_EN 1 e
  match s.roleOf e, s.on F.TE_CTRL_EN e with
  | 8, true => s.role e 4
  | 0, true => s.role e 3
  | 1, false => s.disable e
  | 2, false => s.leftOne old e
  | 3, false | 4, false => (s.role e 0).leftOne old e
  | _, _ => s

/-! ### The rotation step (R32 to R34, R314, R321) -/

/-- The engine after `e` in the order of rotation that satisfies a condition. -/
def nextEng (p : Nat → Bool) (e : Nat) : Option Nat := ((List.range 4).map fun k => (e + 1 + k) % 4).find? p

/-- A tally engine is handing over, takes queues, is in its slot, or still receives the state of queues that it took over (R314, R320,
R324). -/
def State.rotating (s : State) : Bool :=
  ((List.range 4).any fun e => let r := s.roleOf e; r == 2 || r == 3 || r == 5) || s.lqs.any fun l => l.eng.isSome && l.copying

/-- A rotation step (R32 to R35, R314, R321): queues at rest are repacked onto an engine that has returned, which receives them as
TAKING; the next active engine, first one that abandoned its slot, begins to hand over, and the spare takes its queues. With no spare
left its queues will be repacked. A step during a takeover or a hand-over is deferred. -/
def State.rotate (s : State) : State :=
  if s.rotating then s
  else
    let idle := (List.range 4).filter fun e => s.roleOf e == 4
    let extra := match idle with
      | a :: b :: _ => some (if (s.te a).lastPass ≤ (s.te b).lastPass then a else b)
      | _ => none
    let s := s.bindLive
    let s := match extra with
      | some x =>
        let s := (s.role x 5).updTe x fun y => { y with taking := none }
        let qs := (List.range 48).filter fun q => (s.lq q).ctx.isSome && (s.lq q).atRest
        let s := s.repack qs s.receivers false
        s.each (s.queuesOf x) fun q s => s.updLq q fun l => { l with copying := true }
      | none => s
    let sp := (List.range 4).find? fun e => s.roleOf e == 4
    let due := s.mna.due.filter fun e => s.roleOf e == 1
    match due.or (nextEng (fun e => s.roleOf e == 1) (sp.getD s.mna.lastSpare)) with
    | none => s
    | some n =>
      if sp.isNone && decide (((List.range 4).filter fun e => s.roleOf e == 1).length < 2) then s
      else
        let s := { s with mna := { s.mna with lastSpare := n, due := none } }
        (match sp with | some t => s.takes t n | none => s).hand n

end Sys2Proof.Machine
end

