-- ==== Sys2Proof/Machine/Pst.lean ====
section
/-!
DEFINITION. The projection store (R181, R182, R191 to R202, R217 to R239): weight chunks, the encoding and install of vectors,
key-up, and re-keys by age or demand.
-/
namespace Sys2Proof.Machine

/-! ### Encoding (R196 to R202, R217, R218) -/

/-- The smallest exponent at which every element of a block, rounded to nearest even, fits 24 bits (R200); −150 for a block
of zeros, which PEXP 0 stands for. -/
def blockExp (xs : List Dy) : Int :=
  let nz := xs.filter fun x => !x.isZero
  match nz with
  | [] => -150
  | y :: ys =>
    let l := (ys.foldl (fun m x => m.max x.abs) y.abs).log2
    let fits (e : Int) : Bool := nz.all fun x => let q := x.rneAt e; decide (-(2 ^ 23) ≤ q) && decide (q ≤ 2 ^ 23 - 1)
    max (-149) (if fits (l - 23) then l - 23 else if fits (l - 22) then l - 22 else l - 21)

/-- A value with an odd mantissa, by halving at most `n` times. -/
def oddDy : Nat → Dy → Dy
  | 0, x => x
  | n + 1, x => if x.m ≠ 0 ∧ x.m % 2 = 0 then oddDy n ⟨x.m / 2, x.e + 1⟩ else x

/-- A remainder fits a spill entry (R197, R201): 48 bits at an exponent that REXP can hold. -/
def spillable (r : Dy) : Bool :=
  let x := oddDy (r.m.natAbs.log2 + 1) r
  decide (x.m.natAbs < 2 ^ 47) && decide (-150 ≤ x.e) && decide (x.e ≤ 105 + (47 - (Nat.log2 x.m.natAbs : Int)))

/-- Spill entries that a vector's trailer has room for (R197). -/
def spillRoom (n : Nat) : Nat := let nb := ceilDiv n 32; (4 * nb - ceilDiv (ceilDiv nb 8) 16 * 16) / 16

/-- One block encoded: mantissa values, remainders, whether a spill-area rounding occurred, whether an element is rounded, and
the spill entries it uses; `lossy` is the rule of R202 for BF16 and FP16 matrices. -/
structure BlockEnc where
  p : List Dy
  rem : List Dy
  rounded : Nat
  spills : Nat
  half : Dy
  range : Bool
deriving DecidableEq, Repr

/-- A block of a vector with `room` spill entries left (R200, R201). -/
def encBlock (lossy : Bool) (room : Nat) (xs : List Dy) : BlockEnc :=
  let e := blockExp xs
  let ps : List Dy := xs.map fun x => ⟨x.rneAt e, e⟩
  let rs := (xs.zip ps).map fun (x, p) => x.sub p
  let go := rs.foldl (fun (a : List Dy × Nat × Nat) r =>
    if r.isZero then (a.1 ++ [Dy.zero], a.2)
    else if !lossy && spillable r && a.2.2 < room then (a.1 ++ [r], a.2.1, a.2.2 + 1)
    else (a.1 ++ [Dy.zero], a.2.1 + 1, a.2.2)) ([], 0, 0)
  { p := ps, rem := go.1, rounded := if lossy then xs.length else go.2.1, spills := go.2.2, half := Dy.pow2 (e - 1),
    range := decide (104 < e) }

/-- Blocks of a vector in turn. -/
def encBlocks (lossy : Bool) : Nat → List (List Dy) → List BlockEnc
  | _, [] => []
  | room, b :: bs => let x := encBlock lossy room b; x :: encBlocks lossy (room - x.spills) bs

/-- Elements in blocks of 32. -/
def blocksOf (xs : List Dy) : List (List Dy) := (List.range (ceilDiv xs.length 32)).map fun i => (xs.drop (32 * i)).take 32

/-- Element j of rᵀW over the rows held (R200, R224). -/
def projAt (key : Nat) (rows : List (Nat × List Dy)) (j : Nat) : Dy :=
  Dy.sum (rows.map fun (i, xs) => let x := xs.getD j Dy.zero; if signBit key i then x.neg else x)

/-- Element j of a residue vector (R217, R218). -/
def residAt (key m : Nat) (rows : List (Nat × List Dy)) (j : Nat) : Nat :=
  sumNat (rows.map fun (i, xs) => coeff key m i * (xs.getD j Dy.zero).modM (if m = 1 then 31 else 61)) %
    (if m = 1 then mers1 else mers2)

/-- A projection vector of a matrix, with the marks out of range and spill area full. -/
def encVector (d : MatD) (fmt gen kidx key : Nat) (rows : List (Nat × List Dy)) : PVec × Bool × Bool :=
  let lossy := fmt == 8 || fmt == 9
  let bs := encBlocks lossy (spillRoom d.dIn) (blocksOf ((List.range d.dIn).map (projAt key rows)))
  let eps (b : BlockEnc) : List Dy := b.p.map fun _ => if 0 < b.rounded || lossy then b.half else Dy.zero
  ({ kidx := kidx, resid := false, key := key, gen := gen, p := bs.flatMap (·.p), rem := bs.flatMap (·.rem),
     eps := bs.flatMap eps, q1 := [], q2 := [], nspill := sumNat (bs.map (·.spills)), ninex := sumNat (bs.map (·.rounded)) },
   bs.any (·.range), !lossy && bs.any fun b => 0 < b.rounded)

/-- The 96-byte descriptor of a vector in the PST (R198): a streamed sibling shows in that of the resident vector of its matrix, and
NSPILL, NINEX and their SIB fields hold their counts up to what their bits hold. -/
def vecDesc (c : Nat) (d : MatD) (fmt : Nat) (v : PVec) (sib : Option PVec) : List Byte :=
  let cap (n x : Nat) : List Byte := natLe n (min x (2 ^ (8 * n) - 1))
  let mark := v.kidx % 8 + 8 * b2n v.resid + 16 * b2n (d.streamed && (d.gather || decide (0 < v.kidx))) + 32 * b2n d.gather
  natLe 2 d.site ++ natLe 1 mark ++ natLe 1 c ++ natLe 4 v.gen ++ natLe 4 d.dIn ++ natLe 4 d.dOut ++ natLe 1 fmt ++
    natLe 1 (b2n sib.isSome) ++ cap 2 v.nspill ++ cap 4 v.ninex ++ natLe 32 v.key ++
    (match sib with
     | some w => natLe 32 w.key ++ natLe 4 (Config.prjOffset c d.site w.kidx w.gen).toNat ++ cap 2 w.nspill ++ cap 2 w.ninex
     | none => natLe 40 0)

/-- The vector that a matrix streams beside the resident one of the same generation (R198, R236). -/
def MatK.sibling (m : MatK) (d : MatD) (v : PVec) : Option PVec :=
  if d.streamed && !d.gather && v.kidx == 0 && !v.resid then m.vecs.find? fun w => w.kidx == 1 && !w.resid && w.gen == v.gen
  else none

/-- The descriptors of a matrix that the PST holds (R198): of every resident vector, and of every vector of a gather site. -/
def State.descriptors (s : State) (c site : Nat) : List (List Byte) :=
  match s.mat c site, s.matD c site with
  | some m, some d =>
    let fmt := match (s.ctx c).plan.bind fun p => p.siteC site with | some x => x.fmtW | none => 1
    let here (v : PVec) : Bool := !d.streamed || d.gather || v.resid || v.kidx == 0
    (m.vecs.filter here).map fun v => vecDesc c d fmt v (m.sibling d v)
  | _, _ => []

/-! ### The PRJ region (R101, R196, R197, R199, R708) -/

/-- The 97 bytes of a block (R196), padded with zero elements. -/
def blockBytes (ps : List Dy) : List Byte :=
  let m (i : Nat) : Dy := ps.getD i Dy.zero
  let e := ps.foldl (fun e x => if x.isZero then e else x.e) (-150)
  ((List.range 32).flatMap fun i => natLe 3 (ofSigned 24 (m i).m)) ++ natLe 1 (e + 150).toNat

/-- The trailer of a vector (R197): the bitmap of its blocks with a rounded element, then its spill entries in element order. Any REXP
with which REM is exact would do; the largest that REXP holds is taken (DESIGN CHOICE, log 128). -/
def trailerBytes (v : PVec) : List Byte :=
  let nb := ceilDiv v.p.length 32
  let nz (xs : List Dy) : List Nat := (xs.zip (List.range xs.length)).filterMap fun x => if x.1.isZero then none else some x.2
  let inexact := (nz v.eps).map (· / 32)
  let map := natLe (ceilDiv (ceilDiv nb 8) 16 * 16) (sumNat (inexact.eraseDups.map fun b => 2 ^ b))
  let spill (i : Nat) : List Byte :=
    let r := v.rem.getD i Dy.zero
    let x := oddDy (r.m.natAbs.log2 + 1) r
    let e := min 105 x.e
    natLe 4 i ++ natLe 1 (e + 150).toNat ++ natLe 3 0 ++ natLe 6 (ofSigned 48 (x.m * 2 ^ (x.e - e).toNat)) ++ natLe 2 0
  let all := map ++ (nz v.rem).flatMap spill
  (all ++ List.replicate (4 * nb - all.length) 0).take (4 * nb)

/-- The segments of a streamed vector in plain: 256 blocks each, or one block of a gather site (R199). The trailer goes with the last
one (DESIGN CHOICE, log 128). -/
def segments (gather : Bool) (v : PVec) : List (List Byte) :=
  let bs := (blocksOf v.p).map blockBytes
  let w := if gather then 1 else 256
  let n := ceilDiv bs.length w
  (List.range n).map fun k => ((bs.drop (w * k)).take w).flatten ++ (if k + 1 = n then trailerBytes v else [])

/-- A segment is written to the PRJ region under KS (R708): its IV is its index with a write count that is never used again, and the
tag also covers context, SITE, KIDX and GEN. Its index counts on from the vector's place (DESIGN CHOICE, log 128). -/
def State.sealSeg (s : State) (c site : Nat) (v : PVec) (k : Nat) (plain : List Byte) : State :=
  let n := s.pst.writes + 1
  let index := ((Config.prjOffset c site v.kidx v.gen).toNat + k) % 2 ^ 32
  let sealed := Config.gcmSeal s.kcu.ks (natBe 4 index ++ natBe 8 n) (natBe 1 c ++ natBe 2 site ++ natBe 1 v.kidx ++ natBe 4 v.gen) plain
  let g : PrjSeg := ⟨c, site, v.kidx, v.gen, k, index, n, sealed.1, natBe 16 sealed.2.toNat⟩
  { s with pst := { s.pst with prj := s.pst.prj ++ [g], writes := n } }

/-- The streamed vectors of a matrix's install leave the die sealed; segments of vectors that are held no more are forgotten. -/
def State.sealMat (s : State) (c : Nat) (d : MatD) (vs : List PVec) : State :=
  let out := if d.streamed then vs.filter fun v => !v.resid && (d.gather || decide (0 < v.kidx)) else []
  let s := s.each out fun v s =>
    let gs := segments d.gather v
    s.each (gs.zip (List.range gs.length)) fun x s => s.sealSeg c d.site v x.2 x.1
  let held (g : PrjSeg) : Bool := match s.mat g.ctx g.site with
    | some m => m.vecs.any fun v => v.kidx == g.kidx && v.gen == g.gen
    | none => false
  { s with pst := { s.pst with prj := s.pst.prj.filter held } }

/-- A residue vector of a matrix. -/
def encResidue (d : MatD) (gen key : Nat) (rows : List (Nat × List Dy)) : PVec :=
  { kidx := 0, resid := true, key := key, gen := gen, p := [], rem := [], eps := [],
    q1 := (List.range d.dIn).map (residAt key 1 rows), q2 := (List.range d.dIn).map (residAt key 2 rows), nspill := 0, ninex := 0 }

/-! ### Key-up and re-key (R223 to R235) -/

/-- Keys of a matrix are drawn (R192): one for each projection, one for a residue vector. -/
def State.drawKeys (s : State) : Nat → List Nat × State
  | 0 => ([], s)
  | n + 1 => let k := (s.fresh 256).toNat; let (ks, s) := s.drewKey.drawKeys n; (k :: ks, s)

/-- The DRBG is reseeded from the entropy source (R192, R689, R715); later draws stay free values. -/
def State.drbgReseed (s : State) : State :=
  let t := s.cyc
  ({ s with kcu := { s.kcu with draws := 0, seedAt := t } } : State).inc F.KCU_NRESEED_N

/-- A matrix opens for key-up or re-key: fresh keys, or none yet while no draw is served (R690), and no chunk accepted. -/
def State.openMat (s : State) (c : Nat) (d : MatD) : State :=
  let (ks, s) := s.drawKeys (if s.noDraws then 0 else if d.resid then 1 else d.k)
  s.updMat c d.site fun m => { m with openK := true, keys := ks, rows := [], chunks := [] }

/-- Open matrices that wait for their keys draw them (R690). -/
def State.drawWaiting (s : State) : State :=
  (s.upto (fun c s => s.each (s.ctx c).mats fun m s =>
    match s.matD c m.site with
    | some d =>
      if m.openK && m.keys.isEmpty then
        let (ks, s) := s.drawKeys (if d.resid then 1 else d.k)
        s.updMat c m.site fun m => { m with keys := ks }
      else s
    | none => s) 16).bgUngate

/-- A matrix that no chunk has reached. -/
def MatK.blank (site : Nat) : MatK := ⟨site, [], 0, false, false, false, [], [], [], false, false, false⟩

/-- A request to resend a matrix's chunks (R46, R227, R233, R768). -/
def State.askChunks (s : State) (c site why : Nat) : State :=
  s.event 15 0x40 fun e => { e with aux := c, unit := site, detail := natLe 1 why }

/-- A re-key opens at its grant (R233). Where the matrix is still in its first key-up, of which the rules say nothing, the chunks it
had accepted are discarded and its keys are drawn again, as the grant of any re-key does (DESIGN CHOICE, log 112). -/
def State.rekeyOpen (s : State) (c site : Nat) (prio : Bool) : State :=
  match s.matD c site with
  | none => s
  | some d =>
    let q := s.pst.queue.filter fun x => !(x.1 == c && x.2.1 == site)
    let s : State := { s with pst := { s.pst with queue := q, cur := some (c, site) } }
    let s := (s.openMat c d).wr F.PST_RKQ_N q.length
    let s := (((s.wr F.PST_RKCUR_SITE site).wr F.PST_RKCUR_CTX c).wr F.PST_RKCUR_PRIO (b2n prio)).wr F.PST_RKCUR_BUSY 1
    let s := ((s.setWord R.PST_RKPROG (2 ^ 16 * (d.nchunk % 2 ^ 16))).wr F.PST_STAT_RK_BUSY 1).wr F.PST_CSTAT_REKEY 1 c
    (s.pstShow c).askChunks c site 1

/-- The open re-key ends, installed or abandoned (R235). A matrix that never had its vectors stays in key-up (R223).
PST_RKCUR keeps SITE, CTX and PRIO of the ended re-key, and PST_RKPROG its counts, until the next one opens (DESIGN CHOICE, log 158). -/
def State.rekeyClose (s : State) : State :=
  match s.pst.cur with
  | none => s
  | some (c, site) =>
    let s := s.updMat c site fun m =>
      if m.vecs.isEmpty then { m with req := false } else { m with openK := false, keys := [], rows := [], chunks := [], req := false }
    let s : State := { s with pst := { s.pst with cur := none } }
    ((s.wr F.PST_RKCUR_BUSY 0).wr F.PST_STAT_RK_BUSY 0).wr F.PST_CSTAT_REKEY 0 c |>.pstShow c

/-- MATRIX_INSTALL (R200, R224, R225, R229 to R231): a matrix whose every chunk has been accumulated is encoded and installed by the
background slot of an engine, when no logical queue of it can issue (R285, R291, R324); each weight is a term of every one of the
matrix's projections (R228). A re-key increments GEN; an install in a
context that is still in key-up has GEN 0, which is the GEN of its completion. -/
def opMatrixInstall (c site : Nat) (s : State) : State :=
  match s.mat c site, s.matD c site with
  | some m, some d =>
    if !m.openK || m.keys.isEmpty || m.chunks.length < d.nchunk || !s.bgLane then s
    else
      let rekey := s.pst.cur == some (c, site)
      let gen := if rekey && s.rd F.PST_CSTAT_STATE c == 2 then (s.word R.PST_CGEN c + 1) % 2 ^ 32 else 0
      let fmt := match (s.ctx c).plan.bind fun p => p.siteC site with | some x => x.fmtW | none => 1
      let enc := (m.keys.zip (List.range m.keys.length)).map fun (k, i) =>
        if d.resid then (encResidue d gen k m.rows, false, false) else encVector d fmt gen i k m.rows
      let range := enc.any fun x => x.2.1
      let full := enc.any fun x => x.2.2
      let t := s.cyc
      let s := s.bgOps (d.k * sumNat (m.rows.map fun x => x.2.length)) s.bgEngs
      let s := s.updMat c site fun m => { m with
        vecs := enc.map (·.1) ++ m.vecs.filter (fun v => decide (v.gen < gen)), doneAt := t, range := range, poison := false, openK := false,
        keys := [], rows := [], chunks := [], req := false, late := false, expired := false }
      let s := s.sealMat c d (enc.map (·.1))
      let s := if rekey then ((s.rekeyClose).setWord R.PST_CGEN gen c).inc F.PST_RKCNT_N else s
      let s := s.freeVecs c
      let exp := (s.ctx c).mats.any (·.expired)
      let s := (s.pstShow c).wr F.PST_CSTAT_EXPIRED (b2n exp) c
      let s := s.when full fun s => s.raise S.PST_SPILL_FULL c
      s.when range fun s => s.report { src := S.PST_PRJ_RANGE, chan := c, unit := site, mark := false }
  | _, _ => s

/-! ### Weight chunks (R150, R181, R182, R223, R224) -/

/-- Rows of a chunk: their number in W and their elements; a value that is not finite cannot be stored in any block. -/
def chunkRows (d : MatD) (fmt : Nat) (mx : Bool) (pl : List Byte) : List (Nat × List Dy) :=
  let n := le 8 4 pl
  let w := fmtBits fmt
  let nb := ceilDiv (d.dIn * w) 8
  let stride := nb + (if mx then ceilDiv d.dIn 32 else 0)
  (List.range n).map fun k =>
    let row := slice (16 + k * stride) stride pl
    let cs := unpackCodes w d.dIn (row.take nb)
    (le 4 4 pl + k, (cs.zip (List.range d.dIn)).map fun (c, j) =>
      match decodeScaled fmt mx (le (nb + j / 32) 1 row) c with | .fin x => x | _ => ⟨1, 1000⟩)

/-- WEIGHT_CHUNK (R181, R182, R188, R223, R224): the port's next record. Whether chunks are accepted and their context is in key-up was
judged as it arrived (R181); one whose context has left key-up since is discarded like any for which no key-up is open (R223). -/
def opWeightChunk (p : Nat) (s : State) : State :=
  match s.nextRec p true 0 with
  | none => s
  | some r =>
    if r.typ ≠ 0x11 then s
    else
      let s := s.turn p r
      let c := bits 3 0 r.hinfo
      let pl := r.payload
      let k := le 0 4 pl
      let inKeyup := s.rd F.PST_CSTAT_STATE c == 1 || s.on F.PST_CSTAT_REKEY c
      let s :=
        if r.bad then s
        else
          match s.mat c r.site, s.matD c r.site, (s.ctx c).plan with
          | some m, some d, some plan =>
            if !inKeyup then s.inc F.TAP_WCREJ_N p
            else
              let good := decide (k < d.nchunk) && plan.manifest[d.firstEntry + k]? == some (Config.sha384 pl)
              if !good then
                ((s.inc F.TAP_WCREJ_N p).raise (S.TAP_WCHUNK_HASH.at p)).event 6 0x41 fun e => { e with page := 6 + p, aux := c, unit := r.site, ref := k }
              else if !m.openK || m.chunks.contains k then s.inc F.TAP_WCREJ_N p
              else
                let rows := chunkRows d (bits 15 8 r.hinfo) (bit 4 r.hinfo) pl
                let s := s.updMat c r.site fun m => { m with chunks := k :: m.chunks, rows := m.rows ++ rows }
                let s := s.bgUngate
                let s := (s.inc F.TAP_WCACC_N p).add64 R.PST_CCHK_LO R.PST_CCHK_HI 1 c
                if s.pst.cur == some (c, r.site) then s.inc F.PST_RKPROG_DONE else s
          | _, _, _ => s.inc F.TAP_WCREJ_N p
      (((s.dropRec p { r with done := true }).bpUpdate p)).settle

/-! ### Ages (R232) -/

/-- A matrix whose vectors are installed and so have an age, be its context READY or still in key-up (R232). -/
def State.installed (s : State) (c site : Nat) : Option MatK :=
  (s.mat c site).filter fun m => !m.vecs.isEmpty

/-- REKEY_REQUEST: 0.9 × PST_EPOCH. No request is made while REKEY_EN is 0 or in P2; a later one finds the age reached (R237). -/
def opRekeyRequest (c site : Nat) (s : State) : State :=
  match s.installed c site with
  | none => s
  | some m =>
    if m.req then s
    else
      let s := s.reachCyc (m.doneAt + secC (9 * s.rd F.PST_EPOCH_SEC) / 10)
      if s.on F.PST_CTRL_REKEY_EN && s.rd F.CLK_PWR_STATE != 2 then
        ((s.updMat c site fun m => { m with req := true }).rekeyQueue c site false).1
      else s

/-- REKEY_LATE: PST_EPOCH; the request becomes an epoch-limit request. A matrix that is late or expired stays so until its install, also
where a transaction has raised PST_EPOCH since (DESIGN CHOICE, log 161). -/
def opRekeyLate (c site : Nat) (s : State) : State :=
  match s.installed c site with
  | none => s
  | some m =>
    if m.late then s
    else
      let s := (s.reachCyc (m.doneAt + secC (s.rd F.PST_EPOCH_SEC))).updMat c site fun m => { m with late := true }
      s.report { src := S.PST_REKEY_LATE, chan := c, unit := site, mark := false }

/-- REKEY_EXPIRED: 2 × PST_EPOCH; the matrix's checks end NOT DONE until an install. -/
def opRekeyExpired (c site : Nat) (s : State) : State :=
  match s.installed c site with
  | none => s
  | some m =>
    if m.expired then s
    else
      let s := (s.reachCyc (m.doneAt + secC (2 * s.rd F.PST_EPOCH_SEC))).updMat c site fun m => { m with expired := true }
      (s.wr F.PST_CSTAT_EXPIRED 1 c).report { src := S.PST_REKEY_EXPIRED, chan := c, unit := site, mark := false }

/-- REKEY_ALL (R234). -/
def opRekeyAll (c : Nat) (s : State) : State := s.each (s.ctx c).mats fun m s => (s.rekeyQueue c m.site true).1

/-- Matrices of a context that still miss chunks in key-up. -/
def State.openMats (s : State) (c : Nat) : List MatK :=
  (s.ctx c).mats.filter fun m => m.openK && decide (m.chunks.length < (match s.matD c m.site with | some d => d.nchunk | none => 0))

/-- KEYUP_TO (R227): PST_KUPTO seconds after the apply, the matrices still missing chunks are named. -/
def opKeyupTo (c : Nat) (s : State) : State :=
  if s.rd F.PST_CSTAT_STATE c ≠ 1 || (s.ctx c).kupTo then s
  else
    let s := s.reachCyc ((s.ctx c).at_ + secC (s.rd F.PST_KUPTO_SEC))
    let s := (s.updCtx c fun x => { x with kupTo := true }).raise S.PST_KEYUP_TO c
    s.each (s.openMats c) fun m s => s.askChunks c m.site 3

/-- PST_CLR (R239). -/
def opPstClr (s : State) : State := ((s.setWord R.PST_RKCNT 0).setWord R.PST_WINLOSS 0).setWord R.PST_SATND 0

/-- An uncorrectable word of a matrix's vectors (R46): its checks end NOT DONE until a re-key, which is queued with priority. -/
def State.poisonMat (s : State) (c site : Nat) : State :=
  let s := s.updMat c site fun m => { m with poison := true }
  (s.rekeyQueue c site true).1.askChunks c site 2

end Sys2Proof.Machine
end

