-- ==== Sys2Proof/Machine/Keys.lean ====
section
/-!
DEFINITION. What the companion verifies and derives with keys (R331, R685, R693 to R697, R701): hybrid signatures over signed
objects, key derivation, and the anti-rollback rule.
-/
namespace Sys2Proof.Config

/-- Verification of an ECDSA P-384 signature: public point, SHA-384 digest, and r then s (FIPS 186-5). -/
opaque ecdsaP384 : List Byte → Nat → List Byte → Bool

/-- Verification of an ML-DSA-65 signature: public key, context string, message, signature (FIPS 204). -/
opaque mldsa65 : List Byte → List Byte → List Byte → List Byte → Bool

/-- The two signatures of the device identity (R686, R693): ECDSA private key, ML-DSA-65 seed, context string, message, and the number of
the random draw it takes. -/
opaque identitySign : Nat → Nat → List Byte → List Byte → Nat → List Byte

/-- The device identity's public key blob (R685, R686), of its two private keys. -/
opaque identityBlob : Nat → Nat → List Byte

/-- The PUF key that the start-up pattern of the SRAM macro and the helper data give (R686): 256 bits of this device. -/
opaque pufKey : Nat → BitVec 256

/-- Address of a block of the PLAN or HOLD region, and the IV of its tag by address and write count (R709). -/
opaque storeAddr : Bool → Nat → Nat → Nat
opaque storeIv : Nat → Nat → List Byte

/-- ECDH on P-384: the uncompressed point of a secret, and the shared x-coordinate with a peer's point; none where that point is
not valid. -/
opaque ecdhPoint : Nat → List Byte
opaque ecdhShared : Nat → List Byte → Option (List Byte)

/-- ML-KEM-768 (FIPS 203): encapsulation key of a seed, and decapsulation; none where the ciphertext is refused. -/
opaque mlkemEk : Nat → List Byte
opaque mlkemDecaps : Nat → List Byte → Option (List Byte)

/-- SHA-384 of the ROM (R706). -/
opaque romHash : Nat

end Sys2Proof.Config

namespace Sys2Proof.Machine

/-! ### Byte strings -/

/-- The bytes of an ASCII text. -/
def ascii (x : String) : List Byte := x.toList.map fun c => BitVec.ofNat 8 c.toNat

/-- HMAC-SHA-384 (FIPS 198-1): key and message of bytes to the 48 bytes of the tag. -/
def hmac384 (key msg : List Byte) : List Byte :=
  let k := (if 128 < key.length then natBe 48 (Config.sha384 key) else key)
  let k := k ++ List.replicate (128 - k.length) 0
  let inner := natBe 48 (Config.sha384 (k.map (fun x => x ^^^ 0x36) ++ msg))
  natBe 48 (Config.sha384 (k.map (fun x => x ^^^ 0x5C) ++ inner))

/-- HKDF-Extract and, for at most 48 bytes, HKDF-Expand with SHA-384 (R686, R701). -/
def hkdfExtract (salt ikm : List Byte) : List Byte := hmac384 salt ikm
def hkdfExpand (prk info : List Byte) (n : Nat) : List Byte := (hmac384 prk (info ++ [1])).take n

/-! ### Signed objects (R331, R693 to R697) -/

/-- Bytes of a signature block. -/
def sigLen : Nat := 3456

/-- An object with its signature block verifies under a public key blob and a context string (R331, R685, R693). -/
def hybridOk (blob ctx obj : List Byte) : Bool :=
  let n := obj.length - sigLen
  let msg := obj.take n
  let sig := obj.drop n
  Config.ecdsaP384 (blob.take 97) (Config.sha384 msg) (sig.take 96) &&
  Config.mldsa65 (blob.drop 97) ctx msg (slice 96 3309 sig)

/-- Bytes 3,405 to 3,455 of the signature block are zero (R331, R693). -/
def sigPad (obj : List Byte) : Bool := (obj.drop (obj.length - 51)).all (· == 0)

/-- State of an owner slot, and of one session, read and changed. -/
def State.owner (s : State) (n : Nat) : OwnerSlot := s.otp.owners.getD n ⟨0, false, false⟩
def State.sessOf (s : State) (n : Nat) : Sess := s.kcu.sess.getD n Sess.reset
def State.updSess (s : State) (n : Nat) (f : Sess → Sess) : State :=
  { s with kcu := { s.kcu with sess := updAt f n s.kcu.sess } }
def State.updKcu (s : State) (f : Kcu → Kcu) : State := { s with kcu := f s.kcu }

/-- The cached blob of an owner slot; none where nothing is cached or the slot is revoked (R697). -/
def State.blob (s : State) (n : Nat) : Option (List Byte) :=
  if (s.owner n).revoked then none else (s.kcu.blobs.getD n none)

/-- Anti-rollback counter of an owner slot (R695). -/
def State.arbOwner (s : State) (n : Nat) : Nat := s.otp.arb.getD (n + 1) 0

/-- Whether an object signed under an owner slot verifies under a key blob: 0 yes, 2 signature, 3 rollback (R339, R693, R695, R697). -/
def State.verifyBy (s : State) (blob : Option (List Byte)) (slot : Nat) (ctx : String) (rollback : Option Nat) (obj : List Byte) : Nat :=
  match blob with
  | none => 2
  | some b =>
    if !hybridOk b (ascii ctx) obj then 2
    else match rollback with
      | some r => if s.arbOwner slot ≤ r then 0 else 3
      | none => 0

/-- The same under the blob that is cached now. -/
def State.verify (s : State) (slot : Nat) (ctx : String) (rollback : Option Nat) (obj : List Byte) : Nat :=
  s.verifyBy (s.blob slot) slot ctx rollback obj

/-- A draw of `w` bits from the DRBG. -/
def State.drbg (s : State) (w : Nat) : Nat × State := ((s.fresh w).toNat, s.drewKey)

/-! ### The device identity (R686, R691) -/

/-- Order of the base point of P-384 (FIPS 186-5). -/
def orderP384 : Nat :=
  0xFFFFFFFFFFFFFFFFFFFFFFFFFFFFFFFFFFFFFFFFFFFFFFFFC7634D81F4372DDF581A0DB248B0A77AECEC196ACCC52973

/-- B1 (R686): the device root key from the PUF key with OTP_SEED, and the identity keys from it. -/
def State.deriveIdentity (s : State) : State :=
  let drk := hkdfExpand (hkdfExtract (natBe 32 s.otp.seed) (natBe 32 (Config.pufKey s.otp.helper).toNat)) (ascii "KIFEN-DRK") 32
  let d := beNat (hkdfExpand drk (ascii "KIFEN-ID-EC") 48) % (orderP384 - 1) + 1
  let xi := beNat (hkdfExpand drk (ascii "KIFEN-ID-PQ") 32)
  s.updKcu fun k => { k with drk := beNat drk, idEc := d, idPq := xi }

/-- The signature block of the identity over a message (R331, R693). -/
def State.identityBlock (s : State) (ctx : String) (msg : List Byte) : List Byte :=
  (Config.identitySign s.kcu.idEc s.kcu.idPq (ascii ctx) msg s.freeCtr ++ List.replicate 3405 0).take 3405 ++ List.replicate 51 0

/-! ### The DRBG (R689, R690) -/

/-- The DRBG is instantiated, with the values of its personalisation string: SERIAL, ACB_RCNT and the boot count (R689). -/
def State.instantiate (s : State) : State :=
  let t := s.cyc
  let p := [s.otp.serial, s.rd F.ACB_RCNT_N, s.boot.copyA.attcnt]
  (s.updKcu fun k => { k with draws := 0, seedAt := t, pers := p }).wr F.KCU_STAT_DRBG 1

/-! ### The tags of the PLAN and HOLD regions (R691, R709) -/

/-- The blocks of an image leave the regions. -/
def State.forgetImage (s : State) (hold : Bool) (owner : Nat) : State :=
  s.updKcu fun k => { k with auth := k.auth.filter fun a => a.hold != hold || a.owner != owner }

/-- An image is stored in blocks of 4 KiB, each with its GMAC under KA over its bytes, its address and its write count (R709; DESIGN
CHOICE, log 173). -/
def State.authImage (s : State) (hold : Bool) (owner : Nat) (b : List Byte) : State :=
  (s.forgetImage hold owner).upto (fun n s =>
    let c := s.kcu.authN + 1
    let a := Config.storeAddr hold owner n
    let tag := (Config.gmac s.kcu.ka (Config.storeIv a c) ((b.drop (4096 * n)).take 4096 ++ natBe 8 a ++ natBe 8 c)).toNat
    s.updKcu fun k => { k with auth := k.auth ++ [⟨hold, owner, n, c, tag⟩], authN := c }) (ceilDiv b.length 4096)

end Sys2Proof.Machine
end

