-- ==== Sys2Proof/Machine/Load.lean ====
section
/-!
DEFINITION. Plans entering and leaving (R90 step 4, R339 to R347, R395, R396, R411, R412, R447, R448, R781, R813): intake and
verification of staged images, admission, LOAD, UNLOAD and RESET, key-up's end, and sentinel images.
-/
namespace Sys2Proof.Machine

/-! ### What a transaction stages -/

/-- The value a field will have after the apply: its staged value, else its live one. -/
def State.soon (s : State) (f : Fld) (a : Nat := 0) (b : Nat := 0) : Nat :=
  match s.txn.staging.find? fun e => e.key == f.reg.key a b with
  | some e => bits f.hi f.lo e.val.toNat
  | none => s.rd f a b

/-- The operation of a staged image descriptor: 0 to 3 plan loads, 4 and 5 sentinel images; 0 where it is not staged (R340,
R447). -/
def State.descOp (s : State) (d : Nat) : Nat :=
  if d < 4 then (if s.stages R.VDU_PLD_CTRL d then s.soon F.VDU_PLD_CTRL_OP d else 0)
  else (if s.stages R.MNT_IMG_CTRL (d - 4) then s.soon F.MNT_IMG_CTRL_OP (d - 4) else 0)

/-- Address and length that a descriptor names. -/
def State.descAddr (s : State) (d : Nat) : Nat :=
  if d < 4 then s.soon F.VDU_PLD_ADDR_LO_ADDR d + 2 ^ 32 * s.soon F.VDU_PLD_ADDR_HI_ADDR d
  else s.soon F.MNT_IMG_ADDR_LO_ADDR (d - 4) + 2 ^ 32 * s.soon F.MNT_IMG_ADDR_HI_ADDR (d - 4)
def State.descLen (s : State) (d : Nat) : Nat :=
  if d < 4 then s.soon F.VDU_PLD_LEN_BYTES d else s.soon F.MNT_IMG_LEN_BYTES (d - 4)

/-- Context and first global stream of a plan descriptor. -/
def State.descCtx (s : State) (d : Nat) : Nat := s.soon F.VDU_PLD_CTRL_CTX d
def State.descBase (s : State) (d : Nat) : Nat := s.soon F.VDU_PLD_CTRL_SBASE d

/-- Descriptors staged with an operation, in rising order. -/
def State.descsOf (s : State) (op : Nat) : List Nat := (List.range 4).filter fun d => s.descOp d == op

/-- Result of a descriptor (R339). -/
def State.descStat (s : State) (d res reason detail : Nat) : State :=
  let w := res + 16 * reason + 65536 * detail
  if d < 4 then s.setWord R.VDU_PLD_STAT w d else s.setWord R.MNT_IMG_STAT w (d - 4)

/-- A check of R90 that fails: LAST, the descriptor it concerns, and what that descriptor reads. -/
structure CheckFail where
  last : Nat
  desc : Option Nat
  result : Nat
  reason : Nat
  detail : Nat
deriving DecidableEq, Repr

/-! ### Intake (R331, R341, R447) -/

/-- IMGLEN, OWNER_SLOT and ROLLBACK of an image, by kind of descriptor. -/
def imgLen (d : Nat) (b : List Byte) : Nat := if d < 4 then le 8 8 b else le 32 8 b
def imgSlot (d : Nat) (b : List Byte) : Nat := if d < 4 then le 16 1 b % 4 else le 7 1 b % 4
def imgRoll (d : Nat) (b : List Byte) : Nat := if d < 4 then le 20 4 b else le 8 4 b

/-- Step 4 of R90 for one descriptor: its image is taken in whole, else FETCH; then its signatures under the keys cached at the step's
start, and ROLLBACK (R697, R713). -/
def State.intake (s : State) (images : List (Nat × List Byte)) (d : Nat) : Option CheckFail :=
  let len := s.descLen d
  let fetch : Option CheckFail := some ⟨6, some d, 4, 1, 0⟩
  if s.descAddr d % 64 ≠ 0 || !s.hostMay 0 then fetch
  else
    match images.find? fun x => x.1 == d with
    | none => fetch
    | some (_, b) =>
      if len < 3520 || imgLen d b + sigLen ≠ len || b.length ≠ len then fetch
      else
        match s.verifyBy (s.txn.blobs.getD (imgSlot d b) none) (imgSlot d b) (if d < 4 then "KIFEN-PLAN" else "KIFEN-SNTL") (some (imgRoll d b)) b with
        | 0 => none
        | r => some ⟨5, some d, r, 0, 0⟩

/-! ### Admission (R346, R347, R396, R781, R813) -/

/-- A plan as admission counts it: its context and base, whether all its loads count or only what an unloading context still
holds, and the descriptor that loads it. -/
structure PlanUse where
  ctx : Nat
  plan : Plan
  sbase : Nat
  whole : Bool
  desc : Option Nat
deriving DecidableEq, Repr

/-- Commands of a plan (R293). -/
def Plan.nCmds (p : Plan) : Nat := p.prog.length + p.sem.cmds.length

/-- Bytes of a matrix's streamed vectors in the PRJ region (R198, R199). -/
def MatD.streamBytes (d : MatD) : Nat :=
  if !d.streamed || d.resid then 0
  else
    let nb := ceilDiv d.dIn 32
    let one := 101 * nb + 16 * (if d.gather then nb else ceilDiv nb 256)
    (if d.gather then d.k else d.k - 1) * one

/-- Bytes of one position in the KV copy: the key and value segments of every layer (R50, R261). -/
def Plan.kvBytes (p : Plan) : Nat :=
  sumNat (p.graph.attn.map fun a =>
    match p.portTensor a.kvSite 1 with
    | some t => elemBytes t.fmt t.mx (2 * a.kvHeads * a.dHead)
    | none => 0)

/-- Every loaded plan after the apply: those that stay, what unloading contexts still hold, and the loads. -/
def State.world (s : State) (loads : List (Nat × Plan)) : List PlanUse :=
  let unl := (s.descsOf 2).map s.descCtx
  let old := (List.range 16).flatMap fun c =>
    let x := s.ctx c
    let st := s.rd F.PST_CSTAT_STATE c
    let held := match x.plan with
      | some p => if unl.contains c then [] else if st = 0 then [] else [⟨c, p, x.sbase, decide (st ≤ 2), none⟩]
      | none => []
    held ++ (match x.next with | some (p, _) => [⟨c, p, x.sbase, true, none⟩] | none => [])
  old ++ loads.map fun (d, p) => ⟨s.descCtx d, p, s.descBase d, true, some d⟩

/-- Sum over every admitted stream of RATE_MAX times a figure. -/
def rateSum (w : List PlanUse) (f : StreamC → Nat) : Nat :=
  sumNat ((w.filter (·.whole)).flatMap fun u => u.plan.streams.map fun c => c.rateMax * f c)

/-- Sum of a figure over every plan whose loads count. -/
def planSum (w : List PlanUse) (f : Plan → Nat) : Nat := sumNat ((w.filter (·.whole)).map fun u => f u.plan)

/-- Global streams of a plan as a range. -/
def PlanUse.holds (u : PlanUse) (i : Nat) : Bool := decide (u.sbase ≤ i) && decide (i < u.sbase + u.plan.streams.length)

/-- Check CTX of one LOAD (R345). -/
def State.ctxBad (s : State) (w : List PlanUse) (u : PlanUse) : Bool :=
  let unl := (s.descsOf 2).map s.descCtx
  let x := s.ctx u.ctx
  let busy := (s.rd F.PST_CSTAT_STATE u.ctx != 0 && !unl.contains u.ctx) || x.next.isSome
  busy || w.any fun v => v.desc != u.desc && v.whole &&
    ((v.desc.isSome && v.ctx == u.ctx) || (List.range u.plan.streams.length).any fun k => v.holds (u.sbase + k))

/-- The plan-relative stream of a LOAD that fails check STREAMS (R347, R390); the count of streams is judged first. -/
def State.streamBad (s : State) (u : PlanUse) : Option Nat :=
  if 64 < u.sbase + u.plan.streams.length then some 0
  else (List.range u.plan.streams.length).find? fun k =>
    match u.plan.streams[k]? with
    | some c => decide (c.planPpm < c.minPpm) || decide (c.deadlineUs < c.latUs) ||
        s.soon F.VDU_RING_CFG_EN (s.soon F.VDU_SCTRL_RING (u.sbase + k)) == 0
    | none => false

/-- Queues placed in turn on three engines, each on the one with the most free scratch and then state that it fits (R268, R282,
R321): queues, pages, flags and state bytes of each engine; none where one does not bind. -/
def placeQueues : List QueueD → List (Nat × Nat × Nat × Nat) → Option (List (Nat × Nat × Nat × Nat))
  | [], es => some es
  | d :: ds, es =>
    let fits (e : Nat × Nat × Nat × Nat) : Bool :=
      decide (e.1 < 31) && decide (e.2.1 + d.pages ≤ 96) && decide (e.2.2.1 + d.flags ≤ 48) && decide (e.2.2.2 + d.state ≤ 524288)
    let best := (es.zip (List.range es.length)).foldl (fun (b : Option (Nat × Nat × Nat)) x =>
      if !fits x.1 then b
      else match b with
        | none => some (x.2, x.1.2.1, x.1.2.2.2)
        | some (_, p, st) => if x.1.2.1 < p || (x.1.2.1 == p && x.1.2.2.2 < st) then some (x.2, x.1.2.1, x.1.2.2.2) else b) none
    match best with
    | none => none
    | some (i, _, _) =>
      placeQueues ds (updAt (fun (e : Nat × Nat × Nat × Nat) => (e.1 + 1, e.2.1 + d.pages, e.2.2.1 + d.flags, e.2.2.2 + d.state)) i es)

/-- Every queue binds on three engines. -/
def queuesBind (w : List PlanUse) : Bool :=
  (placeQueues ((w.filter (·.whole)).flatMap (·.plan.queues)) (List.replicate 3 (0, 0, 0, 0))).isSome

/-- The lowest extent of `n` free semaphores beside the ranges in use (R395). -/
def lowestFit (used : List (Nat × Nat)) (n : Nat) : Option Nat :=
  let free (b : Nat) : Bool := decide (b + n ≤ 16384) && used.all fun u => decide (b + n ≤ u.1) || decide (u.1 + u.2 ≤ b)
  ((0 :: used.map fun u => u.1 + u.2).filter free).foldl (fun m b => match m with | none => some b | some x => some (min x b)) none

/-- Ranges in use: of every context that holds semaphores, apart from those of a list. -/
def State.semRanges (s : State) (without : List Nat) : List (Nat × Nat) :=
  ((List.range 16).filter fun c => !without.contains c && s.rd F.PST_CSTAT_STATE c != 0).filterMap fun c =>
    (s.ctx c).plan.map fun p => ((s.ctx c).pwbase, p.nSems)

/-- Each load finds its extent in turn. -/
def semsFit : List Plan → List (Nat × Nat) → Bool
  | [], _ => true
  | p :: ps, used =>
    match lowestFit used p.nSems with
    | some b => semsFit ps ((b, p.nSems) :: used)
    | none => false

/-- Sentinel images after the apply, and their load in MAC/s (R448). -/
def State.sentinelsSoon (s : State) (snts : List (Nat × SnImage)) : List SnImage :=
  [(4, s.mnt.hold), (5, s.mnt.mon)].filterMap fun (d, old) =>
    match snts.find? fun x => x.1 == d with
    | some (_, im) => some im
    | none => if s.descOp d = 2 then none else old
def sentLoad (ims : List SnImage) : Nat := sumNat (ims.map fun im => im.macs * 1000000 / max 1 im.periodUs)

/-- The checks of R347 that concern the whole set, in order; the first that fails gives its REASON. The audit reservation counts in the LANE,
VEC and DRAM totals (R677). -/
def State.setChecks (s : State) (w : List PlanUse) (loads : List Plan) (sent : Nat) : Option Nat :=
  let full := w.filter (·.whole)
  let port (p : Nat) (f : StreamC → Nat) : Nat :=
    sumNat (full.flatMap fun u => (u.plan.streams.filter fun c => c.port == p).map f)
  let pst := sumNat (w.map fun u => u.plan.pstBytes)
  let big := w.foldl (fun m u => max m u.plan.maxMatBytes) 0
  let streamed := sumNat (w.map fun u => sumNat (u.plan.mats.map MatD.streamBytes))
  let unl := (s.descsOf 2).map s.descCtx
  let checks : List (Nat × Bool) :=
    [(5, decide (sumNat (w.map fun u => u.plan.imglen + sigLen) ≤ 2 ^ 28)),
     (6, decide (sumNat (w.map fun u => u.plan.nCmds) ≤ 4096)),
     (7, decide (planSum w (·.queues.length) ≤ 48) && queuesBind w),
     (8, decide (sumNat (w.map fun u => u.plan.nSems) ≤ 16384) && loads.all (fun p => decide (p.nBanks ≤ 256)) &&
        semsFit loads (s.semRanges unl)),
     (9, decide (pst + big ≤ 100663296) && decide (2 * streamed ≤ s.soon F.MEM_PRJSIZE_MIB * 2 ^ 20)),
     (10, decide (sumNat (full.map fun u => sumNat (u.plan.streams.map (·.kvwin)) * u.plan.kvBytes) ≤
        s.soon F.MEM_KVCSIZE_MIB * 2 ^ 20)),
     (11, decide (port 0 (·.ingressPeak) ≤ 917504) && decide (port 1 (·.ingressPeak) ≤ 917504)),
     (12, decide (planSum w (fun p => sumNat (p.binds.map (·.retain))) ≤ 8192)),
     (13, decide (sumNat (full.flatMap fun u => u.plan.streams.map StreamC.rsv) ≤ 1024)),
     (14, decide (port 0 (fun c => c.rateMax * c.tapBytes) ≤ 26000000000) &&
        decide (port 1 (fun c => c.rateMax * c.tapBytes) ≤ 26000000000)),
     (15, decide (rateSum w (·.laneops) + s.soon F.REED_AUDRSV_LANE_MOPS * 1000000 ≤ 368640000000)),
     (16, decide (rateSum w (·.vslots) + s.soon F.REED_AUDRSV_VEC_MSLOTS * 1000000 ≤ 92160000000)),
     (17, decide (rateSum w (·.macs) + sent ≤ 5240000000000)),
     (18, decide (rateSum w (·.dramBytes) + s.soon F.REED_AUDRSV_DRAM_MBPS * 1000000 ≤ if s.on F.MEM_STAT_SLOW then 75000000000 else 100000000000))]
  (checks.find? fun c => !c.2).map (·.1)

/-- A plan image keeps the format rules (R331, R334). -/
def planFormatOk (b : List Byte) (p : Plan) : Bool :=
  planHeaderOk b && sectionsOk b && planOk b p && (b.drop (b.length - 51)).all (· == 0)

/-- Step 5 of R90 (R334, R347, R390, R447, R448, R461, R724, R781). -/
def State.admission (s : State) (images : List (Nat × List Byte)) : Option CheckFail :=
  let plans := s.descsOf 1
  let snts := [4, 5].filter fun d => s.descOp d == 1
  let img (d : Nat) : List Byte := ((images.find? fun x => x.1 == d).map (·.2)).getD []
  let first : Option Nat := (plans ++ snts)[0]?
  let memBad := (s.stages R.MEM_PRJSIZE || s.stages R.MEM_KVCSIZE) &&
    (List.range 16).any fun c => s.rd F.PST_CSTAT_STATE c != 0 || (s.ctx c).next.isSome
  let low := s.rd F.CLK_PWR_STATE == 1 || s.rd F.CLK_PWR_STATE == 2
  let holdBad := s.descOp 4 != 0 && (s.pair == 2 || s.pair == 4)
  let gridBad := s.pair == 4 &&
    [R.MNT_HOLDLAT, R.MNT_HOLDT0_NS, R.MNT_HOLDT0_SEC_LO, R.MNT_HOLDT0_SEC_HI].any fun r => s.stages r
  let parsed := plans.map fun d => (d, parsePlan (img d))
  let noFormat := parsed.find? fun x => match x.2 with | some p => !planFormatOk (img x.1) p | none => true
  let snFormat := snts.findSome? fun d =>
    match snFormatFault (d - 3) (s.soon F.MNT_HOLDLAT_US) (img d) with
    | some i => some (d, i)
    | none => if ((img d).drop ((img d).length - 51)).all (· == 0) then none else some (d, 0)
  let sents := s.sentinelsSoon (snts.map fun d => (d, snParse ((img d).take (imgLen d (img d) + sigLen))))
  let snFormat := match snFormat, snts with
    | none, d :: _ => if snStoreOk sents then none else some (d, 0)
    | x, _ => x
  let loads := parsed.filterMap fun x => x.2.map fun p => (x.1, p)
  let w := s.world loads
  let mine := w.filter (·.desc.isSome)
  if low && first.isSome then some ⟨6, first, 4, 4, 0xFFFF⟩
  else if memBad then some ⟨6, first, 4, 4, 0⟩
  else if holdBad then some ⟨6, some 4, 4, 0, 0⟩
  else if gridBad then some ⟨6, none, 0, 0, 0⟩
  else
    match noFormat, snFormat with
    | some x, _ => some ⟨6, some x.1, 4, 2, formatDetail (img x.1) x.2⟩
    | none, some (d, i) => some ⟨6, some d, 4, 2, i⟩
    | none, none =>
      if first.isNone then none
      else
        match mine.find? fun u => s.ctxBad w u with
        | some u => some ⟨6, u.desc, 4, 3, 0⟩
        | none =>
          match mine.findSome? fun u => (s.streamBad u).map fun k => (u.desc, k) with
          | some (d, k) => some ⟨6, d, 4, 4, k⟩
          | none =>
            let sent := sentLoad sents
            if plans.isEmpty then
              (if rateSum w (·.macs) + sent ≤ 5240000000000 then none else some ⟨6, first, 4, 17, 0⟩)
            else
              match s.setChecks w (loads.map (·.2)) sent with
              | some r => some ⟨6, first, 4, r, 0⟩
              | none => none

/-! ### UNLOAD (R343, R412) -/

/-- Global streams of a context. -/
def State.ctxStreams (s : State) (c : Nat) : List Nat :=
  match (s.ctx c).plan with
  | some p => (List.range p.streams.length).map fun k => (s.ctx c).sbase + k
  | none => []

/-- Semaphores of a context's range. -/
def State.ctxSems (s : State) (c : Nat) : List Nat :=
  match (s.ctx c).plan with
  | some p => (List.range p.nSems).map fun k => (s.ctx c).pwbase + k
  | none => []

/-- Every open or pending result of a context is ABANDONED; its checks are aborted and its semaphores become ABANDONED (R343,
R344, R409). -/
def State.abandonCtx (s : State) (c : Nat) : State :=
  let s := s.each (s.ctxStreams c) fun i s =>
    let s := s.each (s.slots.filter fun r => r.stream == i && !r.formed) fun r s => (s.abandonBank i r.resseq).form i r.resseq 5
    let s := s.closeRes i
    s.updSt i fun x => { x with retained := [], retBad := [] }
  let s := s.each (s.ctxSems c) fun n s => s.when (s.rd F.SEM_SSTAT_STATE n == 1) fun s => s.semAbandon n
  s.each (s.ctxStreams c) fun i s => s.updSt i fun x => { x with banks := [] }

/-- A context's queues lose their jobs and whatever a job holds (R313, R343). -/
def State.clearQueues (s : State) (c : Nat) : State :=
  s.each (s.ctx c).lqs fun q s =>
    let s := s.each (s.sem.waits.filter fun w => w.lq == q) fun w s => s.unwait w
    s.updLq q fun l => { LQ.reset with ctx := l.ctx, eng := l.eng }

/-- Envelope state, KV copies and digest retentions of a context are released (R343 step 4), and its
streams' entries of the command table go (R566). The highest counter received and the aged-out counters of a data ID stay, so a frame
received before is judged FAIL from now on, and not NOT DONE (DESIGN CHOICE, log 132). -/
def State.releaseCtx (s : State) (c : Nat) : State :=
  let s := s.each (s.ctxStreams c) fun i s => s.updSt i fun x => { x with
    count := 0, kv := [], hulls := [], pend := [], hullBad := false, evicted := false, olds := [] }
  let s := s.acbDrop fun e => (s.ctxStreams c).contains e.stream
  { s with tsn := { s.tsn with digests := s.tsn.digests.filter fun g => g.ctx != c } }

/-- PST_STAT.KEYUP_ANY. -/
def State.keyupAny (s : State) : State :=
  s.wr F.PST_STAT_KEYUP_ANY (b2n ((List.range 16).any fun c => s.rd F.PST_CSTAT_STATE c == 1))

/-- A stream's reaction state is NORMAL (R542). -/
def State.reactNormal (s : State) (i : Nat) : State := (s.wr F.SSC_SSTAT_RSTATE 0 i).wr F.SSC_SSTAT_VCNT 0 i

/-- An UNLOAD applies (R343 steps 1 to 4); an EMPTY or UNLOADING context stays as it is (R345). The keys of the context are
zeroised (R692), the transfer keys that it sent for its peers' streams among them. -/
def State.unloadCtx (s : State) (c : Nat) : State :=
  if s.rd F.PST_CSTAT_STATE c = 0 || s.rd F.PST_CSTAT_STATE c = 3 then s
  else
    let is := s.ctxStreams c
    let armed := s.boundLost is
    let s := s.abandonCtx c
    let s := match s.pst.cur with
      | some (x, _) => if x = c then s.rekeyClose else s
      | none => s
    let s := { s with pst := { s.pst with queue := s.pst.queue.filter fun x => x.1 != c } }
    let s := s.wr F.PST_RKQ_N s.pst.queue.length
    let s := s.clearQueues c
    let s := s.releaseCtx c
    let s := s.each is fun i s => s.updSt i fun x => { x with admitted := false, seedKey := 0, seedDue := false, shed := [], suspended := false }
    let s := s.each is fun i s => s.when (s.rd F.SSC_SSTAT_RSTATE i == 1) fun s => s.reactNormal i
    let s := { s with vdu := { s.vdu with items := s.vdu.items.filter fun x => !is.contains x.1 } }
    let s := s.each is fun i s => s.shedShow i
    let s := { s with
      tsn := { s.tsn with binds := s.tsn.binds.filter fun b => b.ctx != c },
      acb := { s.acb with admitted := s.acb.admitted.filter fun i => !is.contains i } }
    let s := s.each (s.ctx c).lqs fun q s => s.updLq q fun _ => LQ.reset
    let sites : List XferD := match (s.ctx c).plan with | some p => p.xfer | none => []
    let theirs (site stream peer : Nat) : Bool := sites.any fun d => d.site == site && d.peer == peer && d.pairs.any fun x => x.2 == stream
    let s := { s with reed := { s.reed with
      sent := s.reed.sent.filter fun k => !(k.purpose == 1 && theirs k.site k.stream k.peer),
      keyDue := s.reed.keyDue.filter fun k => !(k.getD 0 0 == 1 && theirs (k.getD 1 0) (k.getD 2 0) (k.getD 3 0)),
      recv := s.reed.recv.filter fun k => !(k.purpose == 1 && (sites.any fun d => d.site == k.site) && is.contains k.stream) } }
    let s := (s.updCtx c fun x => { x with mats := [], lqs := [] }).forgetImage false c
    let s := ((s.setWord R.PST_CSTAT 3 c).keyupAny).shedEnd
    s.txnLost armed

/-- A LOAD takes its semaphore range, programs and PST space; its context enters KEYUP (R223, R342, R395, R813). The context's
PST_CCHK and PST_CRKFAIL count the new plan from 0 (DESIGN CHOICE, log 159). -/
def State.placeLoad (s : State) (c : Nat) (p : Plan) : State :=
  let base := (lowestFit (s.semRanges []) p.nSems).getD 0
  let s := s.upto (fun k s =>
    s.setWord R.SEM_SSTAT (65536 +
      (if p.fed.any (fun r => r.1 == (k - p.sem.planWide) % max 1 p.sem.bank && decide (p.sem.planWide ≤ k)) then 2 ^ 19 else 0) +
      2 ^ 20 * c) (base + k)) p.nSems
  let s := s.updCtx c fun x => { x with
    plan := some p, pwbase := base, mats := p.mats.map (fun (d : MatD) => MatK.blank d.site), next := none, kupTo := false }
  let s := s.drbgReseed.each p.mats fun d s => s.openMat c d
  let s := (((s.setWord R.PST_CSTAT 1 c).setWord R.PST_CGEN 0 c).setWord R.PST_CMAT (p.mats.length % 65536) c).wr64 R.PST_CCHK_LO R.PST_CCHK_HI 0 c
  let s := (s.setWord R.PST_CRKFAIL 0 c).setWord R.PST_CAGE 0 c
  ((s.cacheCtx c).pstShow c).keyupAny

/-- Loads that waited only for contexts that are EMPTY now are placed (R813). -/
def State.placeWaiting (s : State) : State :=
  s.upto (fun c s =>
    match (s.ctx c).next with
    | some (p, ws) => if ws.all fun w => s.rd F.PST_CSTAT_STATE w == 0 then s.placeLoad c p else s
    | none => s) 16

/-- CONTEXT_EMPTY (R343 steps 5 and 6, R411, R412): an UNLOADING context of which no engine holds a job reaches EMPTY. -/
def opContextEmpty (c : Nat) (s : State) : State :=
  if s.rd F.PST_CSTAT_STATE c ≠ 3 then s
  else
    let sems := s.ctxSems c
    let s := s.each sems fun n s => s.when (s.rd F.SEM_SSTAT_STATE n == 1) fun s => s.residue none n
    let s := s.each sems fun n s => s.setWord R.SEM_SSTAT 0 n
    let s := (s.updCtx c fun x => { PlanCtx.reset with next := x.next, sbase := x.sbase, at_ := x.at_, lqs := x.lqs }).cacheCtx c
    let s := ((s.setWord R.PST_CSTAT 0 c).setWord R.PST_CGEN 0 c).setWord R.PST_CMAT 0 c
    let s := (((s.setWord R.PST_CRES 0 c).setWord R.PST_CINEX 0 c).setWord R.PST_CSPILL 0 c).setWord R.PST_CAGE 0 c
    s.placeWaiting

/-! ### LOAD and RESET (R342, R344) -/

/-- A LOAD applies: streams, queues and digests at once; the rest now or when the transaction's UNLOADs are done (R342, R813). -/
def State.loadCtx (s : State) (c sbase : Nat) (p : Plan) (unl : List Nat) : State :=
  let t := s.cyc
  let s := (p.streams.zip (List.range p.streams.length)).foldl (fun s (x : StreamC × Nat) =>
    (s.updSt (sbase + x.2) fun y => { Stream.reset with
      ctx := c, sidx := x.2, c := x.1, classA := x.1.cls == 0, order := t, maxUsed := y.maxUsed, emitQ := y.emitQ,
      bankLast := 0 }).shedShow (sbase + x.2)) s
  let s := s.updCtx c fun x => { x with sbase := sbase, at_ := t, next := some (p, unl) }
  let free := (List.range 48).filter fun q => (s.lq q).ctx.isNone
  let qs := free.take p.queues.length
  let s := (qs.zip (List.range qs.length)).foldl (fun s (x : Nat × Nat) =>
    let d := p.queues.getD x.2 ⟨0, 0, 0, false⟩
    let e := s.bestEng d s.receivers
    s.updLq x.1 fun _ => { LQ.reset with ctx := some (c, x.2), eng := e }) s
  let binds := p.binds.map fun b =>
    ({ ctx := c, id := b.id, retain := b.retain, ageUs := b.ageUs, direct := b.direct, key := p.bindKey, high := none, aged := [] } : BindId)
  let s := { s with tsn := { s.tsn with binds := s.tsn.binds ++ binds } }
  let s := s.updCtx c fun x => { x with lqs := qs }
  if unl.all fun w => s.rd F.PST_CSTAT_STATE w == 0 then s.placeLoad c p else s

/-- A stream is admitted (R161, R168, R226, R255, R338, R344): its sequence starts at 0, its bucket is full, its seed key new. -/
def State.admitStream (s : State) (i : Nat) : State :=
  let s := s.readmit i false
  s.updSt i fun x => { x with bankLast := max 1 x.c.semBanks - 1 }

/-- A RESET applies (R344): as an UNLOAD up to the release of what the streams hold, then semaphores at 0 and the streams
admitted again. In KEYUP the streams wait for its completion; on an EMPTY or UNLOADING context it has no effect (R345). -/
def State.resetCtx (s : State) (c : Nat) : State :=
  let st := s.rd F.PST_CSTAT_STATE c
  if st = 0 || st = 3 then s
  else
    let is := s.ctxStreams c
    let armed := s.boundLost is
    let s := s.abandonCtx c
    let s := match s.pst.cur with
      | some (x, _) => if x = c then s.rekeyClose else s
      | none => s
    let s := ((s.clearQueues c).each (s.ctxSems c) fun n s => s.semInit n).releaseCtx c
    let s := s.each is fun i s => if st = 2 then (s.ctxReset i).admitStream i else s
    let s := s.shedEnd
    s.txnLost armed

/-- KEYUP_COMPLETE (R223, R226, R229): every matrix has its vectors installed, be a re-key of one open; the context's streams are admitted
in one cycle. -/
def opKeyupComplete (c : Nat) (s : State) : State :=
  if s.rd F.PST_CSTAT_STATE c ≠ 1 || (s.ctx c).mats.any (·.vecs.isEmpty) then s
  else
    let us := (s.cyc - (s.ctx c).at_) / 800
    let s := (s.wr F.PST_CSTAT_STATE 2 c).setWord R.PST_CGEN 0 c
    let s := (s.setWord R.PST_CKUPTIME (min us (2 ^ 32 - 1)) c).keyupAny
    let s := s.each (s.ctxStreams c) fun i s => (s.reactNormal i).admitStream i
    s.shedEnd.firstKeys c

/-- ABORT_KEYUP (R227): a context in KEYUP is unloaded. -/
def opAbortKeyup (c : Nat) (s : State) : State :=
  if s.rd F.PST_CSTAT_STATE c = 1 then (s.unloadCtx c).settle else s

/-! ### Sentinel images (R447) -/

/-- The sentinel load shown (R448). -/
def State.showLoad (s : State) : State :=
  s.setWord R.MNT_SLOAD (sentLoad (s.mnt.hold.toList ++ s.mnt.mon.toList) / 1000000)

/-- The bytes of an image's initial policy state (R424, R447): they are stated nowhere, a free value of the image (log 60). -/
def SnImage.policy0 (im : SnImage) : List Byte := (List.range im.stateBytes).map fun i => Config.policyInit im.hash i

/-- A sentinel image takes effect, or none is left: of the hold image with a cold state, and of the monitor image. A split that waits
for a warm step takes place at once where no image is left to step (R444, log 142). -/
def State.placeSent (s : State) (d w : Nat) (im : Option SnImage) : State :=
  let s := if d = 4 then
      (s.updMnt fun m => { m with
        hold := im, ran := [], step := none, reload := false, last := none, fails := 0,
        shs := m.shs.map fun x => { x with policy := im.elim [] SnImage.policy0, hrun := SnRun.reset } }).cold
    else s.updMnt fun m => { m with mon := im, mrun := SnRun.reset, shs := m.shs.map Sh.freshMon, monK := none, mstep := none }
  let s := ((s.setWord R.MNT_IMG_LOADED w (d - 4)).showLoad).pairView
  if d = 4 && im.isNone && s.pair = 3 && s.mnt.split then s.toSplit else s

/-- A staged sentinel descriptor applies; a hold image starts COLD from its initial state. -/
def State.sentApply (s : State) (d : Nat) : State :=
  let im : Option SnImage := match s.txn.images.find? fun x => x.1 == d with | some (_, b) => some (snParse b) | none => none
  let w : Nat := match im with | some x => 1 + 65536 * (x.rollback % 65536) | none => 0
  match s.descOp d with
  | 1 => (s.placeSent d w im).authImage true d (match s.txn.images.find? fun x => x.1 == d with | some (_, b) => b | none => [])
  | 2 => (s.placeSent d w none).forgetImage true d
  | _ => s

end Sys2Proof.Machine
end

