-- ==== Sys2Proof/Machine/Vdu.lean ====
section
/-!
DEFINITION. The VDU's outputs and its shed controller: verdict records as they leave (R368 to R373, R383), host rings (R374 to
R379), TSN copies (R380 to R382, R703), context resets (R263), shedding and restoring (R348 to R357, R732), and the clears.
-/
namespace Sys2Proof.Machine

/-! ### Records and tags (R368, R370, R371) -/

/-- Bytes of a multi-byte field in an output's byte order. -/
def ordered (net : Bool) (n v : Nat) : List Byte := if net then natBe n v else natLe n v

/-- Bytes 0 to 47 of a verdict record. -/
def VRec.body (v : VRec) (net : Bool) (status : Nat) (forced : Bool) : List Byte :=
  let f := ordered net
  natLe 1 0x81 ++ natLe 1 1 ++ natLe 1 (v.stream % 64 + 64 * b2n v.dl + 128 * b2n forced) ++ natLe 1 status ++
    f 8 v.resseq ++ f 4 v.cov ++ f 4 (ofSigned 32 v.margin) ++ f 8 (guardTs v.tfirst) ++ f 4 v.dlast ++ f 4 v.dverdict ++
    f 2 v.cause ++ natLe 1 v.fkind ++ natLe 1 v.areason ++ f 4 v.fsum ++ f 4 v.epoch

/-- The tag of a record whose first 48 bytes are given with FORCED 0; 16 zero bytes without a key, or while debug is open
(R371, R699, R711). -/
def State.tag (s : State) (key : Option Nat) (body : List Byte) : List Byte × State :=
  match (if s.on F.KCU_LIFE_DBGOPEN then none else key) with
  | none => (List.replicate 16 0, s)
  | some k =>
    let iv := body.take 1 ++ [((body.getD 2 0) &&& 0x3F)] ++ [0, 0] ++ slice 4 8 body
    (natBe 16 (Config.gmac k iv body).toNat, s.add64 R.KCU_NTAG_LO R.KCU_NTAG_HI 1)

/-- A record as it leaves the gate: the tag over the original status and FORCED 0, the bytes rewritten while the fatal
aggregator asserts (R383). -/
def State.gated (s : State) (v : VRec) (net : Bool) (key : Option Nat) : List Byte × State :=
  let (t, s) := s.tag key (v.body net v.status false)
  let forced := s.on F.VDU_STAT_FORCE
  (v.body net (if forced && v.status == 1 then 2 else v.status) forced ++ t, s)

/-! ### Host rings (R374 to R378) -/

/-- A verdict ring beside its registers, read and changed. -/
def State.vring (s : State) (r : Nat) : VRing := s.vdu.rings.getD r ⟨Ring.empty RingRec, 0, 0, 0⟩
def State.updRing (s : State) (r : Nat) (f : VRing → VRing) : State :=
  { s with vdu := { s.vdu with rings := updAt f r s.vdu.rings } }

/-- Entries of a ring. -/
def State.ringSize (s : State) (r : Nat) : Nat := 2 ^ s.rd F.VDU_RING_CFG_LOG2N r

/-- Fill of a ring (R376). -/
def State.ringFill (s : State) (r : Nat) : Nat :=
  ((s.vring r).ring.pidx + 2 ^ 32 - (s.vring r).ring.cidx) % 2 ^ 32

/-- A record can be written to a ring now (R377, R390, R790). -/
def State.ringRoom (s : State) (r : Nat) : Bool :=
  s.on F.VDU_RING_CFG_EN r && s.hostMay 1 && decide (s.ringFill r < s.ringSize r)

/-- A ring's vector fires (R378). -/
def State.ringFire (s : State) (r : Nat) : State :=
  (s.msix 1 (s.rd F.VDU_RING_CFG_VEC r)).updRing r fun x => { x with ring := { x.ring with unsig := 0 } }

/-- The TSN copies of a record learn the time of the host copy's first TLP, or of the formation where that copy was lost (R382). -/
def State.hostTlp (s : State) (i q : Nat) (t : Option Nat) : State :=
  let f (x : QFrame) : QFrame := if x.verdict = some (i, q) then { x with hostAt := t } else x
  { s with
    tsn := { s.tsn with ports := s.tsn.ports.map fun p => { p with queues := p.queues.map fun fs => fs.map f } },
    kcu := { s.kcu with wait := s.kcu.wait.map fun c =>
      if c.rec_.stream = i ∧ c.rec_.resseq = q then { c with hostAt := t } else c } }

/-- One record is written: the entry, the index and its writeback, the vector, and the alert vector (R375, R378, R379). -/
def State.ringWrite (s : State) (r : Nat) (x : RingRec) : State :=
  let p := (s.vring r).ring.pidx
  let t := s.cyc
  let s := s.emit (.hostWrite (s.rd64 R.VDU_RING_BASE_LO R.VDU_RING_BASE_HI r + 64 * (p % s.ringSize r)) x.bytes)
  let s := s.hostTlp x.stream (le 4 8 x.bytes) (some s.ns)
  let p' := (p + 1) % 2 ^ 32
  let s := s.updRing r fun y => { y with ring := { y.ring with
    pidx := p', unsig := y.ring.unsig + 1, unsigAt := if y.ring.unsig = 0 then t else y.ring.unsigAt } }
  let s := s.setWord R.VDU_RING_PIDX p' r
  let s := s.emit (.hostWrite (s.rd64 R.VDU_RING_WB_LO R.VDU_RING_WB_HI r) (natLe 4 p'))
  let s := s.when (decide (max 1 (s.rd F.VDU_RING_CFG_MODCNT r) ≤ (s.vring r).ring.unsig)) fun s => s.ringFire r
  s.when x.alert fun s => s.msix 1 (s.rd F.VDU_ALERT_VEC)

/-- The LOST record of a ring (R370, R377). The gate sets FORCED in every record while the fatal aggregator asserts (R383): in this one
at the place that R368 gives FORCED, which R370 leaves reserved (DEDUCED, log 139). -/
def State.ringLost (s : State) (r : Nat) : State :=
  let v := s.vring r
  let body := natLe 1 0x82 ++ natLe 1 1 ++ natLe 1 r ++ [0] ++ natLe 8 v.lostSeq ++ natLe 4 v.ring.lostPend ++ natLe 4 0 ++
    natLe 8 (guardTs v.lostFrom) ++ natLe 4 0 ++ natLe 4 (v.lostTo - v.lostFrom) ++ List.replicate 12 0
  let (t, s) := s.tag (some s.kcu.hvKey) body
  let s := s.updRing r fun x => { x with ring := { x.ring with lostPend := 0 }, lostSeq := x.lostSeq + 1 }
  s.ringWrite r ⟨255, (if s.on F.VDU_STAT_FORCE then forceRec 0 body else body) ++ t, false⟩

/-- Held records leave while there is room, after the LOST record where one is due. One that waits here when the fatal aggregator
asserts leaves forced (R31). -/
def State.ringDrainN (s : State) (r : Nat) : Nat → State
  | 0 => s
  | k + 1 =>
    if !s.ringRoom r then s
    else
      match (s.vring r).ring.hold with
      | [] => s
      | x :: xs =>
        if (s.vring r).ring.lostPend ≠ 0 then (s.ringLost r).ringDrainN r k
        else
          let x := if s.on F.VDU_STAT_FORCE then { x with bytes := forceRec 0 x.bytes } else x
          ((s.updRing r fun y => { y with ring := { y.ring with hold := xs } }).ringWrite r x).ringDrainN r k

/-- Everything a ring can take now is written. -/
def State.ringDrain (s : State) (r : Nat) : State := s.ringDrainN r ((s.vring r).ring.hold.length + 1)

/-- A record reaches its ring: it is held behind those that wait, written when there is room, and lost for the host when 256
records wait already (R377). A disabled ring takes none (R390). `formed` is the time of formation, from which the TSN copy is timed
where the host copy is lost (R382). -/
def State.ringPut (s : State) (r : Nat) (x : RingRec) (formed : Nat) : State :=
  let lost (s : State) : State := s.hostTlp x.stream (le 4 8 x.bytes) (some formed)
  if !s.on F.VDU_RING_CFG_EN r then lost s
  else
    let s := s.ringDrain r
    if (s.vring r).ring.hold.length < 256 then
      let s := (s.updRing r fun y => { y with ring := { y.ring with hold := y.ring.hold ++ [x] } }).ringDrain r
      s.peak F.VDU_HOLD_N (s.vring r).ring.hold.length
    else
      let now := s.ns
      let s := s.updRing r fun y => { y with
        ring := { y.ring with lostPend := y.ring.lostPend + 1 },
        lostFrom := if y.ring.lostPend = 0 then now else y.lostFrom, lostTo := now }
      (lost (s.inc F.VDU_RING_LOST_N r)).raiseSt S.VDU_HRING_LOST x.stream

/-- CIDX_WRITE (R376, R377): a host write of a ring's consumer index. -/
def opCidxWrite (r v : Nat) (s : State) : State :=
  if s.ringSize r < ((s.vring r).ring.pidx + 2 ^ 32 - v % 2 ^ 32) % 2 ^ 32 then s.access
  else (s.updRing r fun x => { x with ring := { x.ring with cidx := v % 2 ^ 32 } }).ringDrain r

/-- RING_MOD_TIMER (R378): MOD_US pass since the first unsignalled record; with 0 the rule is off. -/
def opRingModTimer (r : Nat) (s : State) : State :=
  let us := s.rd F.VDU_RING_MOD_US r
  if us = 0 || (s.vring r).ring.unsig = 0 then s
  else (s.reachCyc ((s.vring r).ring.unsigAt + usC us)).ringFire r

/-! ### TSN copies (R380 to R382, R703) -/

/-- Session of a stream. -/
def State.strSess (s : State) (i : Nat) : Nat := s.rd (F.KCU_STRSESS_SESS (i % 8)) (i / 8)

/-- A copy is tagged under the key in force, passes the gate and enters the bridge (R380, R383, R703). -/
def State.tsnSend (s : State) (c : TsnCopy) : State :=
  let i := c.rec_.stream
  let (b, s) := s.gated c.rec_ true (s.sessOf c.sess).key
  (s.sendGuarded (s.rd F.VDU_SOMAP_DATA_ID i) (s.rd F.VDU_SOMAP_PORT_A i) (s.rd F.VDU_SOMAP_PORT_B i)
    (s.rd F.VDU_SOMAP_QUEUE i) b none false (some (i, c.rec_.resseq))).1.hostTlp i c.rec_.resseq c.hostAt

/-- A copy whose tagging would start less than 2 µs before TACT waits (R703); `host` is the time of its host copy's TLP, where that has
left (R382). -/
def State.tsnCopy (s : State) (v : VRec) (host : Option Nat := none) : State :=
  if !s.on F.VDU_SOMAP_EN v.stream then s
  else
    let c : TsnCopy := ⟨s.strSess v.stream, v, host⟩
    if (s.sessOf c.sess).next.any fun x => s.ns < x.2 && x.2 < s.ns + 2000 then s.updKcu fun k => { k with wait := k.wait ++ [c] }
    else s.tsnSend c

/-! ### The gate (R372, R383) -/

/-- A record as its stream's counters show it once it has passed the gate (R389). -/
def State.countRecord (s : State) (v : VRec) (status : Nat) : State :=
  let i := v.stream
  let s := s.wr64 R.VDU_SLAST_LO R.VDU_SLAST_HI v.resseq i
  let s := match status with
    | 1 => s.inc F.VDU_SNVALID_N i
    | 2 => s.inc F.VDU_SNINVALID_N i
    | 3 => (s.inc F.VDU_SNUNVER_N i).wr F.VDU_SLASTCAUSE_CAUSE v.cause i
    | 4 => s.inc F.VDU_SNRETR_N i
    | _ => s.inc F.VDU_SNABND_N i
  s.when (!v.dl && decide (v.margin < toSigned 32 (s.rd F.VDU_SMINMARG_NS i))) fun s =>
    s.wr F.VDU_SMINMARG_NS (ofSigned 32 v.margin) i

/-- VDU_ALERT.EN as it reads: 1 while a stream of class A is admitted (R390). -/
def State.alertEn (s : State) : Bool := s.on F.VDU_ALERT_EN || (List.range 64).any fun i => (s.st i).admitted && (s.st i).classA

/-- Whether the alert vector covers a stream (R379): always one of class A, others by their ALERT_EN. -/
def State.alertOn (s : State) (i : Nat) : Bool := (s.st i).classA || (s.alertEn && s.on F.VDU_SCTRL_ALERT_EN i)

/-- OUTPUT_GATE_PASS (R372, R379 to R383, R542): the first record of a stream's order passes once it is formed. Its slot
becomes free. -/
def opOutputGatePass (i : Nat) (s : State) : State :=
  match (s.st i).emitQ with
  | (q, some v) :: rest =>
    let s := s.updSt i fun x => { x with emitQ := rest }
    let status := if s.on F.VDU_STAT_FORCE && v.status == 1 then 2 else v.status
    let s := s.tsnCopy v
    let (b, s) := s.gated v false (some s.kcu.hvKey)
    let alert := (status == 2 || status == 3) && s.alertOn i
    let s := s.ringPut (s.rd F.VDU_SCTRL_RING i) ⟨i, b, alert⟩ v.formed
    let s := (s.countRecord v status).runRule i status v.n
    (s.updSlot i q fun r => { r with left := true }).sweep
  | _ => s

/-! ### Context resets (R263) -/

/-- CTXRST (R263): a context reset of a stream is requested. -/
def opCtxrst (i : Nat) (s : State) : State := s.wr F.VDU_SCTRL_CTXRST 1 i

/-- CTX_RESET_APPLY (R263): at a result boundary the requested reset takes effect. -/
def opCtxResetApply (i : Nat) (s : State) : State :=
  if s.on F.VDU_SCTRL_CTXRST i && (s.st i).open_.isNone then s.ctxReset i else s

/-! ### Shedding (R350 to R357) -/

/-- The event record of a shed (1), suspension (2) or restore (3). The spec gives engine space no capacity per second: the
figure is a free value there. -/
def State.shedEvent (s : State) (i kind : Nat) (ent : Option Nat) (bits : Nat) : State :=
  let c := s.capNow true
  let (cap, s) :=
    if bit 0 bits then (c.lane / 1000000, s) else if bit 1 bits then (c.vec / 1000000, s)
    else if bit 2 bits then (c.mac / 1000000, s) else s.drbg 32
  s.event 16 0x40 fun e => { e with
    stream := i, detail := natLe 1 kind ++ natLe 1 bits ++ natLe 2 (ent.getD 0xFFFF) ++ natLe 4 cap }

/-- Whether a SHED entry may be shed (R352): it lowers a resource in deficit, and the remaining planned coverage stays at
least MIN_PPM. -/
def State.mayShed (s : State) (i : Nat) (e : ShedE) (bits : Nat) : Bool :=
  let c := (s.st i).c
  let lu := sumNat ((s.shedEnts i).map (·.lu)) + e.lu
  let rest : Int := ((c.planPpm * c.tPlan : Nat) - (1000000 * lu : Nat) : Int) / (c.tPlan : Int)
  ((bit 0 bits && e.laneops != 0) || (bit 1 bits && e.vslots != 0) || (bit 2 bits && e.macs != 0)) &&
    (c.tPlan == 0 || decide ((c.minPpm : Int) ≤ rest))

/-- An item is shed: recorded, shown and remembered for the restore; unbound queues take the room it leaves (R321). -/
def State.shedItem (s : State) (i : Nat) (ent : Option Nat) (bits : Nat) : State :=
  let s := s.setShed i ent true
  let s := { s with vdu := { s.vdu with items := s.vdu.items ++ [(i, ent, bits)] } }
  let s := s.when ent.isNone fun s => s.freeQueues (s.st i).ctx
  ((s.shedShow i).shedEvent i (if ent.isSome then 1 else 2) ent bits).bindLive

/-- Admitted streams of a class from the newest to the oldest (R350). -/
def State.newestOf (s : State) (cls : Nat) : List Nat :=
  let xs := (List.range 64).filter fun i => (s.st i).admitted && (s.st i).c.cls == cls
  let after (a b : Nat) : Bool := decide ((s.st b).order < (s.st a).order) || ((s.st a).order == (s.st b).order && decide (b < a))
  xs.foldr (fun i ys => ys.takeWhile (fun y => after y i) ++ i :: ys.dropWhile (fun y => after y i)) []

/-- The entries of one stream, then nothing more once no deficit remains. -/
def State.shedEntries (s : State) (i : Nat) (thermal : Bool) : State :=
  match s.planOf i with
  | none => s
  | some p =>
    (List.range p.shed.length).foldl (fun s k =>
      let bits := s.deficit thermal
      match p.shed[k]? with
      | some e =>
        if bits != 0 && e.sidx == (s.st i).sidx && !(s.st i).shed.contains k && !(s.st i).suspended && s.mayShed i e bits
        then s.shedItem i (some k) bits else s
      | none => s) s

/-- The entries and then the suspensions of one class (R350). -/
def State.shedClass (s : State) (cls : Nat) (thermal : Bool) : State :=
  let xs := s.newestOf cls
  let s := s.each xs fun i s => s.shedEntries i thermal
  s.each xs fun i s =>
    let bits := s.deficit thermal
    if bits != 0 && !(s.st i).suspended then s.shedItem i none bits else s

/-- SHED_EVAL (R348 to R352, R354, R357, R732): class A is judged without the thermal reduction, and queues of the streams that stay take
the room that others have left (R321). -/
def opShedEval (s : State) : State := (((s.shedClass 2 true).shedClass 1 true).shedClass 0 false).bindLive.shedEnd

/-- Resources of a restored stream are taken back (R269, R321, R354): its unbound queues are bound and its envelope state is
rebuilt. -/
def State.takeBack (s : State) (i : Nat) : State :=
  let s := s.updSt i fun x => { x with regain := false }
  let mine := match s.planOf i with | some p => p.queuesFor (s.st i).sidx | none => []
  let s := s.bindQueues ((s.ctx (s.st i).ctx).lqs.filter fun q => match (s.lq q).ctx with | some (_, k) => mine.contains k | none => false)
  match s.planOf i with
  | some p => (s.rebuildHull i).updSt i fun x => x.rebuild p
  | none => s

/-- After a BEGIN_RESULT dispatch that opened a result in a restored stream the stream has its resources again (R354, R356); `was` is
the highest RESSEQ used before. -/
def State.regained (s : State) (i : Nat) (was : Option Nat) : State :=
  if (s.st i).regain && (s.st i).maxUsed != was then s.takeBack i else s

/-- Items are restored in reverse order while each is restorable (R356). A restore's record names the resources that were in deficit
when the item was shed (R357; DESIGN CHOICE, log 138). -/
def State.restoreN (s : State) : Nat → State
  | 0 => s
  | k + 1 =>
    match s.vdu.items.getLast? with
    | none => s
    | some (i, ent, bits) =>
      if !s.restorable then s
      else
        let s := s.setShed i ent false
        let s := { s with vdu := { s.vdu with items := s.vdu.items.dropLast } }
        let s := s.when ent.isNone fun s => s.updSt i fun x => { x with regain := true }
        ((s.shedShow i).shedEvent i 3 ent bits).restoreN k

/-- SHED_RESTORE (R356, R357): the next item has been restorable for 100 ms. -/
def opShedRestore (s : State) : State :=
  match s.vdu.restAt with
  | none => s
  | some c =>
    let s := if s.restorable then (s.reachCyc (c + msC 100)).restoreN s.vdu.items.length else s
    ({ s with vdu := { s.vdu with restAt := none } } : State).shedEnd

/-! ### Clears -/

/-- VDU_SCLR (R389). -/
def opVduSclr (i : Nat) (s : State) : State :=
  let s := (((s.setWord R.VDU_SNVALID 0 i).setWord R.VDU_SNINVALID 0 i).setWord R.VDU_SNUNVER 0 i)
  ((s.setWord R.VDU_SNRETR 0 i).setWord R.VDU_SNABND 0 i).rstReg R.VDU_SMINMARG i

/-- VDU_CLR (R390). -/
def opVduClr (s : State) : State := (s.setWord R.VDU_HOLD 0).setWord R.VDU_TSNLATE 0

end Sys2Proof.Machine
end

