-- ==== Sys2Proof/Machine/Kcu.lean ====
section
/-!
DEFINITION. Commands of the keystore and crypto unit (R687 to R692, R696 to R706, R711, R715): owner keys, endorsements,
revocation, slot programming, anti-rollback, sessions, quotes, the host verdict key, and the random bit generator.
-/
namespace Sys2Proof.Config

/-- OTPHASH of a quote (R706): SHA-384 of the key hashes and their fuses, whose encoding as bytes the spec does not give. -/
opaque otpHash : List Nat → Nat

end Sys2Proof.Config

namespace Sys2Proof.Machine

/-- The result of a KCU_KCMD is shown. -/
def State.kresult (s : State) (r : Nat) : State := s.wr F.KCU_KSTAT_RESULT r

/-- An owner slot changed. -/
def State.updOwner (s : State) (n : Nat) (f : OwnerSlot → OwnerSlot) : State :=
  { s with otp := { s.otp with owners := updAt f n s.otp.owners } }

/-- The blob cached for an owner slot replaced. -/
def State.setBlob (s : State) (n : Nat) (b : Option (List Byte)) : State :=
  s.updKcu fun k => { k with blobs := updAt (fun _ => b) n k.blobs }

/-- ROLLBACK of every plan, sentinel image and session endorsement that is loaded under an owner slot (R688, R696). -/
def State.loadedUnder (s : State) (slot : Nat) : List Nat :=
  let plans := s.ctxs.flatMap fun x => x.plan.toList ++ (x.next.map (·.1)).toList
  ((plans.filter fun p => p.slot == slot).map (·.rollback)) ++
    (((s.mnt.hold.toList ++ s.mnt.mon.toList).filter fun m => m.slot == slot).map (·.rollback)) ++
    (s.kcu.sess.filterMap (·.endo) |>.filter fun e => e.slot == slot).map (·.rollback)

/-! ### KCU_KCMD (R687, R688, R697, R698) -/

/-- LOADKEY (R697): the blob at KCU_KADDR is cached when its hash is that of the slot. -/
def opLoadkey (slot : Nat) (b : List Byte) (s : State) : State :=
  let o := s.owner slot
  if s.hostMay 0 && o.valid && !o.revoked && b.length == 2049 && Config.sha384 b == o.hash then
    (s.setBlob slot (some b)).kresult 1
  else (s.kresult 2).raise S.KCU_OKEY_BAD

/-- LOADENDO (R698): the endorsement at KCU_KADDR binds its controller's keys to a session. -/
def opLoadendo (n : Nat) (b : List Byte) (s : State) : State :=
  let slot := le 4 1 b
  if !s.hostMay 0 || b.length != 2112 + sigLen || !sigPad b || le 0 4 b != 0x314E454B || 3 < slot then (s.kresult 5).raise S.KCU_ENDO_BAD
  else
    match s.verify slot "KIFEN-ENDO" (some (le 8 4 b)) b with
    | 0 => (s.updSess n fun x => { x with endo := some ⟨slice 32 2049 b, slot, le 8 4 b⟩ }).kresult 1
    | r => (s.kresult (r + 1)).raise S.KCU_ENDO_BAD

/-- Whether a revocation-format record is one for this device and verifies: 0 yes, else the KCU_KSTAT result (R688). -/
def State.krv (s : State) (b : List Byte) : Nat :=
  let serial := le 8 8 b
  if !s.hostMay 0 || b.length != 64 + sigLen || !sigPad b || le 0 4 b != 0x3156524B || 3 < le 4 1 b || (serial != 0 && serial != s.otp.serial) then 5
  else if s.verify (le 4 1 b) "KIFEN-REVK" none b = 0 then 0 else 3

/-- REVOKE (R688): a signed revocation record. Every refusal raises ARB_REFUSED. -/
def opRevoke (b : List Byte) (s : State) : State :=
  let n := le 5 1 b
  match s.krv b with
  | 0 =>
    let left := (List.range 4).any fun k => k != n && (s.owner k).valid && !(s.owner k).revoked
    if 3 < n || n == le 4 1 b || !left || !(s.loadedUnder n).isEmpty then (s.kresult 5).raise S.KCU_ARB_REFUSED
    else ((s.updOwner n fun o => { o with revoked := true }).setBlob n none).kresult 1
  | r => (s.kresult r).raise S.KCU_ARB_REFUSED

/-- A slot's hash is programmed. -/
def State.program (s : State) (slot hash : Nat) : State :=
  (s.updOwner slot fun _ => ⟨hash, true, false⟩).kresult 1

/-- PROGSLOT (R687): an empty owner slot, from a blob while LIFECYCLE is TEST, from a signed record once it is PROVISIONED. -/
def opProgslot (slot : Nat) (b : List Byte) (s : State) : State :=
  let o := s.owner slot
  if o.valid || o.revoked || o.hash != 0 then s.kresult 5
  else
    match s.otp.life with
    | 1 =>
      if s.on F.GLB_LOCK_LOCKED || !s.hostMay 0 || b.length != 2049 then s.kresult 5
      else
        let s := s.program slot (Config.sha384 b)
        if slot = 0 then { s with otp := { s.otp with life := 2 } } else s
    | 2 =>
      match s.krv b with
      | 0 => if le 5 1 b = 0xFF then s.program slot (beNat (slice 16 48 b)) else s.kresult 5
      | r => s.kresult r
    | _ => s.kresult 5

/-- ARBADV (R696): a write of KCU_ARBADV with GO. -/
def opArbadv (ctr value : Nat) (s : State) : State :=
  let now := s.otp.arb.getD ctr 0
  let bound := if ctr = 0 then decide (value ≤ s.kcu.bootRoll) else (s.loadedUnder (ctr - 1)).all fun r => decide (value ≤ r)
  if ctr ≤ 4 && now < value && value ≤ 64 && bound then
    let s := (s.wr F.KCU_ARBADV_CTR ctr).wr F.KCU_ARBADV_VALUE value
    { s with otp := { s.otp with arb := updAt (fun _ => value) ctr s.otp.arb } }
  else s.raise S.KCU_ARB_REFUSED

/-! ### Sessions (R699 to R703) -/

/-- A session becomes NONE: its copies that waited leave with zero tags (R699, R713). -/
def State.sessNone (s : State) (n : Nat) : State :=
  let s := s.updSess n fun x => { Sess.reset with endo := x.endo }
  let ws := s.kcu.wait.filter fun c => c.sess == n
  let s := s.updKcu fun k => { k with wait := k.wait.filter fun c => c.sess != n }
  (s.each ws fun c s => s.tsnSend c).raise S.KCU_SESS_NONE

/-- HELLO is formed and written to the handshake buffer (R700). -/
def State.writeHello (s : State) (n : Nat) : State :=
  let (nonce, s) := s.drbg 256
  let (priv, s) := s.drbg 384
  let (seed, s) := s.drbg 512
  let msg := natBe 4 0x3153484B ++ natBe 1 1 ++ natBe 1 n ++ natBe 2 0 ++ natBe 8 s.otp.serial ++ natBe 32 nonce ++
    ((Config.ecdhPoint priv ++ List.replicate 97 0).take 97) ++ ((Config.mlkemEk seed ++ List.replicate 1184 0).take 1184) ++ natBe 48 0 ++ natBe 31 0
  let hello := msg ++ s.identityBlock "KIFEN-HS" msg
  let t := s.cyc
  let s := s.drew.updSess n fun x => { x with hello := hello, helloAt := t, priv := priv, seed := seed }
  s.emit (.hostWrite (s.rd64 R.KCU_HSADDR_LO R.KCU_HSADDR_HI) hello)

/-- HS_START (R699, R700): with an endorsement bound the slot enters HELLO; the message waits while no draw is served (R690). -/
def opHsStart (n : Nat) (s : State) : State :=
  let s := s.wr F.KCU_HSCMD_SESS n
  let x := s.sessOf n
  if x.endo.isNone || !s.hostMay 0 then s
  else
    let s := s.updSess n fun x => { x with prev := if x.st = 1 then x.prev else x.st, st := 1, hello := [] }
    if s.noDraws then s else s.writeHello n

/-- A handshake fails: the slot returns to its previous state with its previous key (R702). -/
def State.hsFail (s : State) (n : Nat) : State :=
  (s.updSess n fun x => { x with st := x.prev, hello := [], priv := 0, seed := 0 }).raise S.KCU_HS_FAIL

/-- The secrets that a RESPONSE yields: the concatenated shared secret; none where it does not verify (R701). -/
def State.respOk (s : State) (n : Nat) (b : List Byte) : Option (List Byte) :=
  let x := s.sessOf n
  match x.endo with
  | none => none
  | some e =>
    if b.length != 1408 + sigLen || !sigPad b || beNat (slice 0 4 b) != 0x3153484B || beNat (slice 4 1 b) != 2 || beNat (slice 5 1 b) != n ||
        beNat (slice 8 8 b) != s.otp.serial || !hybridOk e.pub (ascii "KIFEN-HS") b ||
        beNat (slice 1329 48 b) != Config.sha384 x.hello
    then none
    else
      match Config.ecdhShared x.priv (slice 48 97 b), Config.mlkemDecaps x.seed (slice 145 1088 b) with
      | some a, some c => some (a ++ c)
      | _, _ => none

/-- HS_RESP (R701, R702, R713): the RESPONSE in the buffer is verified, the keys are derived and CONFIRM is written. -/
def opHsResp (n : Nat) (b : List Byte) (s : State) : State :=
  let s := s.wr F.KCU_HSCMD_SESS n
  let x := s.sessOf n
  if x.st ≠ 1 || x.hello.isEmpty then s
  else
    match (if s.hostMay 0 then s.respOk n b else none) with
    | none => s.hsFail n
    | some z =>
      let th := natBe 48 (Config.sha384 (x.hello ++ b))
      let prk := hkdfExtract th z
      let kv := beNat (hkdfExpand prk (ascii "KIFEN-VERDICT") 32)
      let kc := hkdfExpand prk (ascii "KIFEN-CONFIRM") 48
      let own := s.ns + max 1 (s.rd F.KCU_SESSACT_MS) * 1000000
      let tact := match x.next.getLast? with | some (_, t) => max own (t + 1) | none => own
      let tb := natBe 8 (guardTs tact)
      let confirm := natBe 4 0x3153484B ++ natBe 1 3 ++ natBe 1 n ++ natBe 10 0 ++ tb ++ natBe 8 0 ++
        hmac384 kc (ascii "KIFEN-CONFIRM" ++ th ++ tb)
      let s := s.updSess n fun x => { x with st := 2, hello := [], priv := 0, seed := 0, next := x.next ++ [(kv, tact)] }
      s.emit (.hostWrite (s.rd64 R.KCU_HSADDR_LO R.KCU_HSADDR_HI + 0x2800) confirm)

/-- HS_DROP (R699, R702, R713). -/
def opHsDrop (n : Nat) (s : State) : State :=
  let s := s.wr F.KCU_HSCMD_SESS n
  match (s.sessOf n).st with
  | 0 => s
  | 1 => s.hsFail n
  | _ => s.sessNone n

/-- HS_TIMEOUT (R702): no RESP within 1 s of the HELLO write. -/
def opHsTimeout (n : Nat) (s : State) : State :=
  let x := s.sessOf n
  if x.st ≠ 1 || x.hello.isEmpty then s else (s.reachCyc (x.helloAt + secC 1)).hsFail n

/-- SESSION_ACTIVATE (R699, R703): TBU time reaches the earliest TACT of the slot; copies that waited for it are tagged. -/
def opSessionActivate (n : Nat) (s : State) : State :=
  match (s.sessOf n).next with
  | [] => s
  | (k, t) :: rest =>
    let s := s.reachNs t
    let after := if rest.isEmpty then 3 else 2
    let s := s.updSess n fun x => { x with
      key := some k, next := rest, st := if x.st = 1 then 1 else after, prev := if x.st = 1 then after else x.prev }
    let ws := s.kcu.wait.filter fun c => c.sess == n
    let s := s.updKcu fun k => { k with wait := k.wait.filter fun c => c.sess != n }
    s.each ws fun c s => s.tsnCopy c.rec_ c.hostAt

/-! ### Quotes and the host verdict key (R704, R706) -/

/-- Bytes placed at an offset of a buffer. -/
def placeAt (o : Nat) (xs buf : List Byte) : List Byte := buf.take o ++ xs ++ buf.drop (o + xs.length)

/-- The fields of a quote before its signature (R706). -/
def State.quoteBody (s : State) : List Byte :=
  let o := s.otp
  let h (x : Nat) : List Byte := natBe 48 x
  let fuse (b : Bool) : Nat := b2n b
  let otp := Config.otpHash (o.bootKeys.flatMap (fun k => [k.1, fuse k.2]) ++ [o.devca] ++
    o.owners.flatMap fun w => [w.hash, fuse w.valid, fuse w.revoked])
  let snt (m : Option SnImage) : List Byte := match m with | some x => h x.hash | none => natLe 48 0
  let buf : List Byte := List.replicate 1408 0
  let buf := placeAt 0 (natLe 4 0x3154514B ++ natLe 2 1 ++ natLe 1 (o.life + 128 * s.rd F.KCU_LIFE_DBGOPEN)) buf
  let buf := placeAt 8 (natLe 8 o.serial ++ (List.range 8).flatMap fun w => natLe 4 (s.word R.KCU_QNONCE w)) buf
  let buf := placeAt 48 (natLe 4 (subNs s.ns) ++ natLe 6 (secOf s.ns)) buf
  let buf := placeAt 64 (h Config.romHash ++ h s.kcu.bootHash ++ h otp ++ h (Config.sha384 (Config.identityBlob s.kcu.idEc s.kcu.idPq))) buf
  let buf := placeAt 256 (snt s.mnt.hold ++ snt s.mnt.mon) buf
  let buf := (List.range 16).foldl (fun buf c =>
    let (hash, slot, roll) := match (s.ctx c).plan with | some p => (p.hash, p.slot, p.rollback) | none => (0, 0, 0)
    let b := placeAt (352 + 64 * c) (h hash ++ natLe 4 (s.word R.PST_CGEN c) ++ natLe 1 (s.rd F.PST_CSTAT_STATE c) ++ natLe 1 slot) buf
    placeAt (408 + 64 * c) (natLe 4 roll) b) buf
  placeAt 1376 (o.arb.flatMap fun a => natLe 1 a) buf

/-- QUOTE (R706): every field is sampled, signed and written to host memory. -/
def opQuote (s : State) : State :=
  if !s.hostMay 0 then s
  else
    let b := s.quoteBody
    s.drew.emit (.hostWrite (s.rd64 R.KCU_QADDR_LO R.KCU_QADDR_HI) (b ++ s.identityBlock "KIFEN-QUOTE" b))

/-- A host verdict key is drawn and can be read once (R691, R704); the rings count their LOST records under it anew (R370). While no draw is
served there is none, and its draw waits (R690). -/
def State.drawHv (s : State) : State :=
  if s.noDraws then (s.updKcu fun x => { x with hvKey := 0, hvDue := true }).wr F.KCU_HVSTAT_AVAIL 0
  else
    let (k, s) := s.drbg 256
    let s : State := { s with vdu := { s.vdu with rings := s.vdu.rings.map fun r => { r with lostSeq := 0 } } }
    (s.updKcu fun x => { x with hvKey := k, hvDue := false }).wr F.KCU_HVSTAT_AVAIL 1

/-- HVKEY_READ (R704): the first read of KCU_HVKEY7. -/
def opHvkeyRead (s : State) : State := s.wr F.KCU_HVSTAT_AVAIL 0

/-! ### The random bit generator (R192, R689, R690) -/

/-- ENT_HEALTH (R690): a continuous health test fails; the third time within 1 s is fatal. -/
def opEntHealth (s : State) : State :=
  let t := s.cyc
  let fs := t :: s.kcu.entFails.filter fun c => decide (t ≤ c + secC 1)
  let s := (s.updKcu fun k => { k with entFails := fs }).wr F.KCU_STAT_DRBG 2
  let s := s.raise S.KCU_ENT_HEALTH
  if 3 ≤ fs.length then (s.wr F.KCU_STAT_DRBG 3).raise S.KCU_ENT_FAIL else s

/-- What waited for a draw gets it: matrices, seed keys, transfer and audit keys, and the host verdict key (R690). -/
def State.drawDue (s : State) : State :=
  let s := s.drawWaiting.upto (fun i s => s.when (s.st i).seedDue fun s =>
    let (k, s) := s.drbg 256
    s.updSt i fun x => { x with seedKey := k, seedDue := false }) 64
  let due := s.reed.keyDue
  let s := (s.updReed fun r => { r with keyDue := [] }).each due fun x s =>
    s.newKey (x.getD 0 0) (x.getD 1 0) (x.getD 2 0) (x.getD 3 0) (x.getD 4 0)
  s.when s.kcu.hvDue fun s => s.drawHv

/-- DRBG_READY (R690): the DRBG is instantiated again and draws are served; what waited for one goes on. -/
def opDrbgReady (s : State) : State :=
  if s.rd F.KCU_STAT_DRBG ≠ 2 then s
  else
    let s := s.instantiate.drawDue
    s.upto (fun n s => if (s.sessOf n).st == 1 && (s.sessOf n).hello.isEmpty then s.writeHello n else s) 8

/-- DRBG_RESEED (R192, R689): after 2^20 generate requests at once, else when PST_EPOCH seconds have passed since the last reseed; a
plan load reseeds by itself. One draw of this model is one generate request (DESIGN CHOICE, log 111). -/
def opDrbgReseed (s : State) : State :=
  if 2 ^ 20 ≤ s.kcu.draws then s.drbgReseed else (s.reachCyc (s.kcu.seedAt + secC (s.rd F.PST_EPOCH_SEC))).drbgReseed

/-- KCU_CLR (R715). -/
def opKcuClr (s : State) : State := ((s.setWord R.KCU_NRESEED 0).setWord R.KCU_NTAG_LO 0).setWord R.KCU_NTAG_HI 0

/-! ### Zeroisation and debug (R692, R711) -/

/-- Every key but the identity keys is zeroised (R692). -/
def State.zeroise (s : State) : State :=
  let s := s.updKcu fun k => { k with ks := 0, ka := 0, hvKey := 0, hvDue := false, sess := k.sess.map (fun (x : Sess) => { Sess.reset with endo := x.endo }) }
  let s := s.wr F.KCU_HVSTAT_AVAIL 0
  let s := { s with streams := s.streams.map (fun (x : Stream) => { x with seedKey := 0 }) }
  { s with reed := { s.reed with sent := [], recv := [], keyDue := [], ports := s.reed.ports.map (fun (p : RPort) => { p with linkKey := 0 }) } }

/-- Debug opens (R711): every key zeroised, every context unloaded, zero tags from now on, and the safe state. -/
def State.debugOpen (s : State) (scope : Nat) : State :=
  let s := (s.wr F.KCU_LIFE_DBGOPEN 1).updKcu fun k => { k with scope := scope }
  let s := s.raise S.KCU_DBG_OPEN
  (s.upto (fun c s => s.unloadCtx c) 16).zeroise.settle

end Sys2Proof.Machine
end

