-- ==== Sys2Proof/Machine/Boot.lean ====
section
/-!
DEFINITION. Resets (R751 to R754), the boot sequencer and its ledger (R755 to R766), core loss (R18), supply monitors (R803), and
the resets and power states of the ports (R789, R790).
-/
namespace Sys2Proof.Machine

/-! ### Resets (R751 to R754) -/

/-- Page index of a register key (R54). -/
def keyPage (k : Nat) : Nat := k % chanStep / 0x10000

/-- A register is the FCU's record of the levels of a page that the condition leaves out: with the page's _FLT bits its levels are none (R524). -/
def lostLevels (keep : Nat → Bool) (k : Nat) : Bool :=
  (List.range 28).any fun p => !keep p && (k == R.FCU_PLVL0.key p 0 || k == R.FCU_PLVL1.key p 0)

/-- Every block as after power-on but for what no reset of the core domain touches: the OTP, the MRAM with the recorder's
write queue, TBU time and the cycle count, the ledger's own requests, the waiting commands, and what has left. Registers of the pages that
`keep` names stay. -/
def State.coreReset (s : State) (keep : Nat → Bool) : State :=
  { State.reset with
    regs := s.regs.filter fun kv => keep (keyPage kv.1) && !lostLevels keep kv.1
    pending := s.pending
    out := s.out
    freeCtr := s.freeCtr
    tbu := s.tbu
    cyc := s.cyc
    otp := s.otp
    erc := { s.erc with ring := Ring.empty EvRec }
    acb := { Acb.reset with ledger := s.acb.ledger }
    boot := { s.boot with running := false, released := false, wrstKeyAt := none }
    sio := { Sio.reset with tick := s.sio.tick }
    ssc := { Ssc.reset with firstFAt := s.ssc.firstFAt } }

/-- A power-on reset (R751): OTP and MRAM contents stay, and BFAIL becomes 0 (R758). -/
def State.powerOn (s : State) : State :=
  { State.reset with
    pending := s.pending
    out := s.out
    freeCtr := s.freeCtr
    otp := s.otp
    erc := { Erc.reset with mram := s.erc.mram, head := s.erc.head, checkpoint := s.erc.checkpoint }
    boot := { Boot.reset with
      clrvar := s.boot.clrvar, copyA := { s.boot.copyA with bfail := 0 }, copyB := { s.boot.copyB with bfail := 0 },
      repairs := s.boot.repairs, btLast := s.boot.btLast } }

/-- Fields of a register that survive. -/
def State.keepWord (s : State) (t : State) (r : Reg) : State := s.setWord r (t.word r)

/-- A warm reset (R751, R753): a running restart attempt ends ABORTED_RESET (R583); the latch is set, FCU_FIRSTF, the restart
variants, ACC_RUN, ACB_RCNT and the readbacks of the reset balls stay. -/
def State.warmReset (s : State) (cause : Nat) : State :=
  let t := (s.acbAbort 4).1
  let s := t.coreReset fun _ => false
  let s : State := { s with erc := { s.erc with snap := none } }
  let s := [R.FCU_FIRSTF, R.FCU_FIRSTF_NS, R.FCU_FIRSTF_SEC_LO, R.FCU_FIRSTF_SEC_HI, R.ACB_RCNT].foldl
    (fun s r => s.keepWord t r) s
  let s := s.wr F.ACB_CTRL_ACC_RUN (t.rd F.ACB_CTRL_ACC_RUN)
  let s := (s.wr F.ACB_STAT_LONGRST (t.rd F.ACB_STAT_LONGRST)).wr F.ACB_STAT_FULLRH (t.rd F.ACB_STAT_FULLRH)
  let s := (s.wr F.ACB_STAT_SKIPRPL (t.rd F.ACB_STAT_SKIPRPL)).wr F.ACB_STAT_RELOAD (t.rd F.ACB_STAT_RELOAD)
  let s := (s.wr F.ACB_STAT_RBA (t.rd F.ACB_STAT_RBA)).wr F.ACB_STAT_RBB (t.rd F.ACB_STAT_RBB)
  s.wr F.BOOT_CAUSE_CAUSE cause

/-! ### The boot ledger (R762 to R765) -/

/-- Both copies change alike: copy A first, copy B after. -/
def State.updLed (s : State) (f : LedCopy → LedCopy) : State :=
  { s with boot := { s.boot with copyA := f s.boot.copyA, copyB := f s.boot.copyB } }

/-- An entry of a copy. -/
def LedCopy.entry (c : LedCopy) (i : Nat) : LedEntry := c.entries.getD i LedEntry.blank

/-- An entry of a copy changed. -/
def LedCopy.upd (c : LedCopy) (i : Nat) (f : LedEntry → LedEntry) : LedCopy :=
  { c with entries := c.entries.mapIdx fun k e => if k = i then f e else e }

/-- The entry of the running attempt changed. -/
def State.updEntry (s : State) (f : LedEntry → LedEntry) : State := s.updLed fun c => c.upd c.next f

/-- The bytes of an entry (R764). -/
def LedEntry.bytes (e : LedEntry) : List Byte :=
  let res := (e.stepRes.zip (List.range 10)).foldl (fun a x => a + x.1 % 4 * 4 ^ x.2) 0
  natLe 4 e.attempt ++ natLe 1 e.cause ++ natLe 1 e.lastStep ++ natLe 1 e.outcome ++ natLe 1 e.image ++ natLe 3 res ++
    natLe 1 0 ++ natLe 4 e.variant ++ natLe 2 e.detail ++ natLe 6 0 ++ e.tstep.flatMap fun t => natLe 4 t

/-- The entries since the last one that reached READY, the newest first. -/
def LedCopy.sinceReady (c : LedCopy) : Nat → Nat → List LedEntry
  | 0, _ => []
  | k + 1, i =>
    let e := c.entry i
    if e.attempt = 0 || e.outcome = 1 then [] else e :: c.sinceReady k ((i + 15) % 16)

/-! ### Attempts (R755 to R758) -/

/-- Max of a step in cycles (R755), of B3 for an image of `len` bytes: at 400 MB/s a byte takes two cycles. Under ENGSEQ the six
engines have their slots of 2 ms one after another. -/
def stepMax (k v len : Nat) : Nat :=
  match k with
  | 0 | 2 => msC 2
  | 3 => msC 3 + 2 * len
  | 4 => msC 30
  | 5 => msC 60
  | 6 => if bit 4 v then msC 12 else msC 3
  | 8 => msC 12
  | 9 => msC 1
  | _ => msC 10

/-- Microseconds since the release of the reset. -/
def State.bootUs (s : State) : Nat := (s.cyc - s.boot.relCyc) / 800

/-- An attempt starts (R755, R757, R765): its entry is written RUNNING; an entry that a reset left RUNNING keeps its place. -/
def State.startAttempt (s : State) : State :=
  let c := s.boot.copyA
  let v := if s.boot.clrvar then 0 else c.variant
  let cur := c.entry c.next
  let next := if cur.attempt ≠ 0 && cur.outcome = 0 then (c.next + 1) % 16 else c.next
  let cause := s.rd F.BOOT_CAUSE_CAUSE
  let image := b2n (bit 1 v)
  let e : LedEntry := { LedEntry.blank with
    attempt := (c.attcnt + 1) % 2 ^ 32, cause := cause, image := image, variant := v }
  let s := s.updLed fun c => { c with next := next, variant := v, attcnt := (c.attcnt + 1) % 2 ^ 64 }
  let s := s.updEntry fun _ => e
  let t := s.cyc
  let s : State := { s with boot := { s.boot with
    running := true, released := true, relCyc := t, stepAt := t, clrvar := false, inForce := v, xspiRst := true, xspiZ := false }, balls := { s.balls with hiZ := false } }
  (((s.wr F.BOOT_STAT_STEP 0).wr F.BOOT_STAT_IMAGE image).wr F.BOOT_STAT_BFAIL c.bfail).wr F.FCU_STAT_CORE_OK 1

/-- Result of a step in the entry: its STEPRES and TSTEP. -/
def State.stepEnds (s : State) (k res : Nat) : State :=
  let us := s.bootUs
  s.updEntry fun e => { e with
    stepRes := updAt (fun _ => res) k e.stepRes, tstep := updAt (fun _ => us) k e.tstep }

/-- The variants after a failed step (R757). -/
def variantAfter (k v : Nat) : Nat :=
  match k with
  | 2 => setBits 0 0 1 v
  | 3 => setBits 1 1 (1 - v / 2 % 2) v
  | 4 => setBits 2 2 1 v
  | 5 => setBits 3 3 1 v
  | 6 => setBits 4 4 1 v
  | _ => v

/-- STUCK (R758, R773): the core domain is held in reset until the next power-on; the service port's snapshot stays. -/
def State.stuck (s : State) : State :=
  let image := s.rd F.BOOT_STAT_IMAGE
  let shown := s.erc.snap
  let s := s.warmReset (s.rd F.BOOT_CAUSE_CAUSE)
  let s : State := { s with erc := { s.erc with snap := shown }, boot := { s.boot with xspiRst := false, xspiZ := true } }
  ((s.wr F.BOOT_STAT_STUCK 1).wr F.BOOT_STAT_BFAIL 3).wr F.BOOT_STAT_IMAGE image

/-- A step fails (R756 to R758): the attempt ends, and a boot retry or STUCK follows. -/
def State.bootFail (s : State) (k detail : Nat) : State :=
  let s := (s.stepEnds k 2).updEntry fun e => { e with outcome := 2, detail := detail }
  let s := s.updLed fun c => { c with
    variant := variantAfter k c.variant, bfail := c.bfail + 1, next := (c.next + 1) % 16 }
  let s := s.wr F.BOOT_STAT_BFAIL s.boot.copyA.bfail
  if s.boot.copyA.bfail < 3 then (s.warmReset 4).startAttempt else s.stuck

/-- A step passes and the next one starts. -/
def State.bootNext (s : State) (k : Nat) : State :=
  let v := s.boot.inForce
  let asVar := match k with | 2 => bit 0 v | 3 => bit 1 v | 4 => bit 2 v | 5 => bit 3 v | 6 => bit 4 v | _ => false
  let s := s.stepEnds k (if asVar then 3 else 1)
  let t := s.cyc
  if k = 9 then s
  else (({ s with boot := { s.boot with stepAt := t } } : State).updEntry fun e => { e with lastStep := k + 1 }).wr F.BOOT_STAT_STEP (k + 1)

/-- B2 (R763, R765): a copy whose check fails is replaced by the other; entries still RUNNING were interrupted. -/
def State.bootLedger (s : State) (a b : Bool) : State :=
  let s := s.when (!a || !b) fun s => s.raise S.BOOT_LEDGER_COPY
  let s : State := { s with boot := { s.boot with
    copyA := if a then s.boot.copyA else s.boot.copyB, copyB := if b then s.boot.copyB else s.boot.copyA } }
  let fix (cur k : Nat) (e : LedEntry) : LedEntry :=
    if k ≠ cur && e.attempt ≠ 0 && e.outcome = 0 then { e with outcome := 3 } else e
  s.updLed fun c => { c with entries := c.entries.mapIdx fun k e => fix c.next k e }

/-- The boot image is accepted (R693 to R695, R761): its hash and ROLLBACK. -/
def State.bootImage (s : State) (b : List Byte) : Option (Nat × Nat) :=
  let n := le 16 8 b
  let slot := le 6 1 b
  let pub := slice 64 2049 b
  let key := s.otp.bootKeys.getD slot (0, true)
  let zero (o k : Nat) : Bool := (slice o k b).all fun x => x == 0
  if b.length == n + sigLen && n % 64 == 0 && decide (2176 ≤ n) && decide (b.length ≤ 0x800000) &&
      le 0 4 b == 0x3154424B && le 4 2 b == 1 && decide (slot < 2) && zero 7 1 && zero 12 4 && zero 24 40 && zero 2113 63 &&
      !key.2 && Config.sha384 pub == key.1 && sigPad b && hybridOk pub (ascii "KIFEN-BOOT") b && decide (s.otp.arb.getD 0 0 ≤ le 8 4 b)
  then some (Config.sha384 (b.take n), le 8 4 b)
  else none

/-- B6 (R755): engines that failed their slots are OUT. -/
def State.bootEngines (s : State) (pass : Nat) : State :=
  let t := s.cyc
  let s := s.upto (fun e s =>
    if bit e pass then s.updTe e fun x => { x with lastPass := t }
    else (((s.wr F.TE_STAT_ROLE 6 e).wr F.TE_STAT_STATE 3 e).setWord R.TE_OUTCAUSE (setBits 5 5 1 6) e).raise (S.TE_STEST_FAIL.at e)) 4
  s.upto (fun e s =>
    if bit (4 + e) pass then s
    else (s.updSh e fun x => { x with out := true, causes := [3] }).raise (S.SH_STEST_FAIL.at e)) 2

/-- Roles at verdict-ready (R32, R460, R760): TE0, or the first engine in service, starts as the spare; the pair is in SPLIT with
COLD state, or in SINGLE or DOWN. -/
def State.startRotation (s : State) : State :=
  let serves (e : Nat) : Bool := s.on F.TE_CTRL_EN e && decide (s.roleOf e < 6)
  let sp := (List.range 4).find? serves
  let s := s.upto (fun e s =>
    if !serves e then s
    else if sp == some e then s.role e 3
    else s.role e 1) 4
  let s := { s with mna := { s.mna with lastSpare := sp.getD 3, due := none } }
  let s := (s.newSlots.updSh 0 fun x => { x with testing := false }).updSh 1 fun x => { x with testing := false }
  s.cold.pairTo (match (s.sh 0).out, (s.sh 1).out with | false, false => 1 | true, true => 7 | _, _ => 6)

/-- Spare rows of a macro that are in use. -/
def State.sparesUsed (s : State) (m : Nat) : Nat :=
  (s.boot.repairs.filter fun r => bit 31 r && r % 2048 == m).length

/-- A macro has no spare row left: a C-class fault (R49). No source of the tables is that fault, so it is one of the C-class sources of
the MNA's page, which one is free (DEDUCED, log 41). -/
def State.noSpare (s : State) (m : Nat) : State :=
  let n := (s.fresh 8).toNat % 3
  s.drew.raise ([S.MNA_SCRUB_LATE, S.MNA_CMP_LATE, S.MNA_ROT_LATE].getD n S.MNA_SCRUB_LATE) m

/-- The end of B9 (R755, R757, R759, R760, R768). A macro that the repairs of B4 left without a spare row raises its fault (R49). -/
def State.bootReady (s : State) : State :=
  let v := s.boot.inForce
  let old := (s.boot.copyA.sinceReady 15 ((s.boot.copyA.next + 15) % 16)).reverse
  let s := s.updEntry fun e => { e with outcome := 1 }
  let this := s.boot.copyA.entry s.boot.copyA.next
  let s := s.updLed fun c => { c with next := (c.next + 1) % 16, bfail := 0 }
  let us := s.bootUs
  let s : State := { s with boot := { s.boot with running := false, phyRst := true } }
  let s := ((s.wr F.BOOT_STAT_READY 1).wr F.BOOT_STAT_STEP 9).wr F.BOOT_STAT_BFAIL 0
  let s := s.setWord R.BOOT_READYT us
  let s := s.startRotation.wr F.VDU_STAT_FORCE (b2n s.fatal)
  let full := (s.boot.repairs.map (· % 2048)).eraseDups.filter fun m => decide (2 ≤ s.sparesUsed m)
  let s := s.each full fun m s => s.noSpare m
  let s := s.each (old ++ [this]) fun e s => s.event 27 0x40 fun r => { r with ref := e.attempt, detail := e.bytes.take 12 }
  let s := s.when (decide (v ≠ 0)) fun s => s.raise S.BOOT_VARIANT
  s.when (bit 3 v) fun s => s.raise S.MEM_TRAIN_DEGR

/-- The subsystem IDs of every function come from the board table of the boot image (R786). -/
def State.boardIds (s : State) (hash : Nat) : State :=
  let v := (Config.boardSubIds hash).toNat
  { s with host := { s.host with ids := s.host.ids.map fun c => { c with subVendor := v % 65536, subsystem := v / 65536 } } }

/-- A step's work passes: what it leaves (R755); none where its outcome fails the step. -/
def State.bootWork (s : State) (k : Nat) (b : BootStep) : Option State :=
  if !b.ok then none
  else
    match k with
    | 0 => some ((s.wr F.CLK_STAT_PLLLOCK 1).wr F.CLK_STAT_REFOK 1)
    | 1 => some (s.deriveIdentity.wr F.KCU_LIFE_PUFOK 1)
    | 2 => if b.copyA || b.copyB then some (s.bootLedger b.copyA b.copyB) else none
    | 3 =>
      match s.bootImage b.image with
      | some (h, r) => some (((s.updKcu fun x => { x with bootHash := h, bootRoll := r }).boardIds h).setWord R.BOOT_IMGROLL r)
      | none => none
    | 4 => some { s with boot := { s.boot with repairs := (s.boot.repairs ++ b.repairs.map (·.toNat)).take 4096 } }
    | 5 => some ((s.wr F.MEM_STAT_TRAINED 1).wr F.MEM_STAT_SLOW (b2n (bit 3 s.boot.inForce)))
    | 6 =>
      let pass := b.engines.toNat
      if ((List.range 4).filter fun e => bit e pass).length < 2 then none
      else some ((s.updEntry fun e => { e with detail := 63 - pass }).bootEngines pass)
    | 7 =>
      let (ks, s) := s.instantiate.drbg 256
      let (ka, s) := s.drbg 256
      some ((s.updKcu fun x => { x with ks := ks, ka := ka }).drawHv)
    | _ => some s

/-- The image length in the header of what B3 fetched (R694). -/
def bootLen (b : List Byte) : Nat := le 16 8 b

/-- The step in progress is still within its Max (R755). -/
def State.inTime (s : State) (len : Nat) : Bool :=
  decide (s.cyc ≤ s.boot.stepAt + stepMax (s.rd F.BOOT_STAT_STEP) s.boot.inForce len)

/-- BOOT_STEP_DONE (R755 to R759, R765): the step in progress ends with what its work found; one past its Max has failed. -/
def opBootStepDone (b : BootStep) (s : State) : State :=
  if !s.boot.running then s
  else
    let k := s.rd F.BOOT_STAT_STEP
    match (if s.inTime (bootLen b.image) then s.bootWork k b else none) with
    | none => s.bootFail k (if k = 6 then 63 - b.engines.toNat else if k = 4 || k = 8 then b.detail.toNat else 0)
    | some s =>
      let s := s.bootNext k
      if k = 9 then s.bootReady else s

/-- BOOT_STEP_TIMEOUT (R755): the step in progress reaches its Max. IMGLEN of an image whose fetch did not end is a free value. -/
def opBootStepTimeout (s : State) : State :=
  if !s.boot.running then s
  else
    let k := s.rd F.BOOT_STAT_STEP
    let len := if k = 3 then (s.fresh 23).toNat else 0
    let s := s.when (k = 3) fun s => s.drew
    (s.reachCyc (s.boot.stepAt + stepMax k s.boot.inForce len)).bootFail k 0

/-- RESET_RELEASE (R755): PORST_N or WRST_N rises with the rails in range. -/
def opResetRelease (s : State) : State :=
  if s.boot.released || s.on F.BOOT_STAT_STUCK || s.balls.coreLoss then s else s.startAttempt

/-- POWER_ON_RESET (R751). -/
def opPowerOnReset (s : State) : State := s.powerOn

/-- WRST_N_ASSERT (R751, R758). -/
def opWrstNAssert (s : State) : State := if s.on F.BOOT_STAT_STUCK then s else s.warmReset 2

/-- BOOT_WRST (R752, R773). -/
def opBootWrst (key : Nat) (s : State) : State :=
  if s.on F.BOOT_STAT_STUCK then s
  else
    let due := match s.boot.wrstKeyAt with | some t => decide (s.cyc ≤ t + msC 1) | none => false
    let t := s.cyc
    if key = 0xC3 then { s with boot := { s.boot with wrstKeyAt := some t } }
    else if key = 0x3C && due then (s.warmReset 3).startAttempt
    else { s with boot := { s.boot with wrstKeyAt := none } }

/-- CLRVAR (R757): it takes effect at the next attempt. -/
def opClrvar (s : State) : State := { s with boot := { s.boot with clrvar := true } }

/-! ### Core loss (R18, R754) -/

/-- Pages whose blocks stand in the always-on domain (R17, R718): CLK, FCU, SSC, TBU and SIO. -/
def aonPage (p : Nat) : Bool := p == 1 || p == 2 || p == 3 || p == 4 || p == 18

/-- Loss of the core domain (R18, R583, R754): the latch sets, CORE_LOSS is the F-level occurrence, and the core domain is in reset from now
on. Its recorder takes no record. -/
def State.loseCore (s : State) : State :=
  if s.balls.coreLoss then s
  else
    let t := (s.acbAbort 3).1
    let s := t.coreReset aonPage
    let s := [R.ACB_RCNT].foldl (fun s r => s.keepWord t r) s
    let s := s.wr F.ACB_CTRL_ACC_RUN (t.rd F.ACB_CTRL_ACC_RUN)
    let s := (s.wr F.ACB_STAT_LONGRST (t.rd F.ACB_STAT_LONGRST)).wr F.ACB_STAT_FULLRH (t.rd F.ACB_STAT_FULLRH)
    let s := (s.wr F.ACB_STAT_SKIPRPL (t.rd F.ACB_STAT_SKIPRPL)).wr F.ACB_STAT_RELOAD (t.rd F.ACB_STAT_RELOAD)
    let s := (s.wr F.ACB_STAT_RBA (t.rd F.ACB_STAT_RBA)).wr F.ACB_STAT_RBB (t.rd F.ACB_STAT_RBB)
    let s : State := { s with sio := t.sio, ssc := { t.ssc with restartAt := none, relKeyAt := none }, clk := t.clk, balls := { t.balls with coreLoss := true } }
    let s := (s.wr F.FCU_STAT_CORE_OK 0).wr F.SSC_STAT_RELPEND 0
    let x := S.FCU_CORE_LOSS
    let first := s.ssc.firstFAt.isSome
    let (s, _, _) := s.occur { src := x }
    let s := s.when (!first) fun s => s.wr F.FCU_FIRSTF_CORE 1
    { s.fatalEffects.1 with erc := t.erc }

/-- CORE_LOSS (R18). -/
def opCoreLoss (s : State) : State := s.loseCore

/-! ### Supplies (R803) and the root PLL (R720) -/

/-- The root PLL loses lock (R720). -/
def State.pllLost (s : State) : State := (s.wr F.CLK_STAT_PLLLOCK 0).raise S.CLK_PLL_UNLOCK

/-- SUPPLY_MONITOR_TRIP (R803): 0 VDD_AON, 1 VDD_IO33, 2 VDD_CORE, 3 VDD_SRAM, 4 VDDA_PLL. Below the first two the always-on drivers are
high-impedance until the reset's release (R805). -/
def opSupplyMonitorTrip (k : Nat) (s : State) : State :=
  match k with
  | 0 | 1 =>
    let s := s.powerOn
    { s with balls := { s.balls with hiZ := true } }
  | 2 | 3 => s.loseCore
  | _ => s.pllLost

/-! ### Ports (R97, R341, R789, R790, R811) -/

/-- Whether a function of the host port or a tap port is in D0; a function's D-state, and Bus Master Enable, changed. -/
def State.d0 (s : State) (f : Nat) : Bool := s.host.d0.getD f true
def State.setD0 (s : State) (f : Nat) (b : Bool) : State :=
  { s with host := { s.host with d0 := s.host.d0.mapIdx fun k x => if k = f then b else x } }
def State.setBme (s : State) (f : Nat) (b : Bool) : State :=
  { s with host := { s.host with bme := s.host.bme.mapIdx fun k x => if k = f then b else x } }

/-- The MSI-X table of PF0 or PF1 returns to its reset values (R790). -/
def State.resetVectors (s : State) (f : Nat) : State :=
  { s with host := { s.host with vectors := s.host.vectors.mapIdx fun k x => if k = f then msixReset else x } }

/-- What a configuration read of a function answers (R786, R789): its identities, or a retry status until B9 has ended. -/
def State.cfgIds (s : State) (f : Nat) : Option CfgId := if s.on F.BOOT_STAT_READY then s.host.ids[f]? else none

/-- The loss of PF0 (R97, R811): the transaction ends RESET; the fetch of an image of a COMMIT in its checks fails with FETCH. -/
def State.pf0Lost (s : State) : State :=
  let d := if s.rd F.GLB_TXN_STAT_STATE = 2 then (s.descsOf 1).head? else none
  let s := s.txnStop 12
  match d with | some d => s.descStat d 4 1 0 | none => s

/-- HOST_PERST (R790): PERST_N low, hot reset or link down of the host port. -/
def opHostPerst (s : State) : State :=
  let s : State := { s with host := { s.host with linkUp := false } }
  ((((((s.setD0 0 true).setD0 1 true).setBme 0 false).setBme 1 false).resetVectors 0).resetVectors 1).pf0Lost

/-- PF0_FLR and PF1_FLR (R790). -/
def opPf0Flr (s : State) : State := (((s.setD0 0 true).setBme 0 false).resetVectors 0).pf0Lost
def opPf1Flr (s : State) : State := ((s.setD0 1 true).setBme 1 false).resetVectors 1

/-- D3HOT_ENTRY (R790): 0 PF0, 1 PF1, 2 and 3 the functions of TAP0 and TAP1. -/
def opD3hotEntry (f : Nat) (s : State) : State :=
  let s := s.setD0 f false
  if f = 0 then s.pf0Lost else s

/-- Records that waited for PF1 are written. -/
def State.ringsResume (s : State) : State :=
  if s.hostMay 1 then s.upto (fun r s => s.ringDrain r) 8 else s

/-- D0_ENTRY (R790): for a tap port RESYNC follows. -/
def opD0Entry (f : Nat) (s : State) : State :=
  if s.d0 f then s
  else
    let s := s.setD0 f true
    match f with
    | 0 => s
    | 1 => s.ringsResume
    | _ => s.tapRestart (f - 2) 0

/-- HOST_LINK_UP (R789): the host link trains; in reset and in STUCK the port stays down. -/
def opHostLinkUp (s : State) : State :=
  if !s.boot.released || (s.boot.running && s.rd F.BOOT_STAT_STEP = 0) then s
  else ({ s with host := { s.host with linkUp := true } } : State).ringsResume

/-- BUS_MASTER_ENABLE (R789, R790): a configuration write to PF0 or PF1, which is accepted from the end of B9. -/
def opBusMasterEnable (f : Nat) (on : Bool) (s : State) : State :=
  if !s.host.linkUp || !s.on F.BOOT_STAT_READY then s else (s.setBme f on).ringsResume

end Sys2Proof.Machine
end

