-- ==== Sys2Proof/Machine/Clk.lean ====
section
/-!
DEFINITION. The CLK block: clock domains and their monitor (R718 to R721), power states (R722 to R725), the power cap (R726 to
R728) and temperature (R729 to R733).
-/
namespace Sys2Proof.Machine

/-! ### Domains (R718, R720, R721) -/

/-- Whether a domain runs in P1, and in P2, and its frequency in MHz (R718). -/
def domP1 (d : Nat) : Bool := !(decide (2 ≤ d) && decide (d ≤ 8))
def domP2 (d : Nat) : Bool := d == 0 || d == 1 || d == 12 || d == 13 || d == 17 || d == 38 || d == 39
def domMhz (d : Nat) : Nat :=
  if decide (2 ≤ d) && decide (d ≤ 5) || d == 9 then 1200
  else if d == 6 || d == 7 || d == 10 then 1600
  else if d == 19 || (decide (20 ≤ d) && decide (d ≤ 31)) || d == 36 then 400
  else if d == 37 || d == 38 then 200
  else if d == 39 then 100
  else 800

/-- Code of a domain's divider (R745). -/
def domDiv (d : Nat) : Nat :=
  match domMhz d with | 1600 => 0 | 1200 => 1 | 800 => 2 | 400 => 3 | 200 => 4 | _ => 5

/-- The CLK has stopped a domain for the power state (R721, R722). -/
def State.domPstop (s : State) (d : Nat) : Bool :=
  !s.clk.testing && (match s.rd F.CLK_PWR_STATE with | 1 => !domP1 d | 2 => !domP2 d | _ => false)

/-- A tally engine's domain is gated while it is idle (R322). -/
def State.domGated (s : State) (d : Nat) : Bool := decide (2 ≤ d) && decide (d ≤ 5) && s.gatedNow (d - 2)

/-- Whether the CLK holds a domain running: not in reset, in STUCK only AON, FAB, ERC and SVC (R758), not after THERM_FATAL
(R733), and not stopped by intent. -/
def State.domRuns (s : State) (d : Nat) : Bool :=
  let therm := s.clk.stopped && decide (2 ≤ d) && decide (d ≤ 8)
  let up := if s.on F.BOOT_STAT_STUCK then d == 0 || d == 1 || d == 38 || d == 39 else d == 0 || (s.boot.released && !s.balls.coreLoss)
  up && !therm && !s.domPstop d && !s.domGated d

/-- DOMAIN_FREQ_FAULT (R536, R720, R733): a window's count of a domain leaves its limits. -/
def opDomainFreqFault (d count : Nat) (s : State) : State :=
  if d = 0 then s.loseCore
  else if !s.domRuns d then s
  else
    let s := s.wr F.CLK_DCNT_N count d
    let f := 1024 * domMhz d / 800
    if f ≤ count + 2 && count ≤ f + 2 then s.wr F.CLK_DSTAT_MONFAIL 0 d
    else
      let s := s.wr F.CLK_DSTAT_MONFAIL 1 d
      if d ≤ 5 && 2 ≤ d then ((s.raise S.CLK_ENG_FREQ d).freqOut (d - 2)).settle
      else if d = 6 || d = 7 then ((s.raise S.CLK_ENG_FREQ d).shOutBy (d - 6) 16).settle
      else s.raise S.CLK_DOM_FREQ d

/-- REF_LOSS (R720, R811): the reference leaves its window, or stops, and with it every link goes down. -/
def opRefLoss (stops : Bool) (s : State) : State :=
  let s := (s.wr F.CLK_STAT_REFOK 0).raise S.CLK_REF_LOSS
  if !stops then s
  else
    let s := opHostPerst s
    let s := (opTapLinkDown 1 (opTapLinkDown 0 s)).settle
    let s := s.upto (fun p s => s.when (s.rUp p) fun s => s.portLost p 1) 4
    s.upto (fun p s => opEthLinkDown p s) 12

/-- PLL_UNLOCK (R720). -/
def opPllUnlock (s : State) : State := s.pllLost

/-! ### Power states (R722 to R725) -/

/-- What a request for P1 or P2 needs (R723). -/
def State.pwrOk (s : State) : Bool :=
  (List.range 16).all (fun c => s.rd F.PST_CSTAT_STATE c == 0) && s.mnt.hold.isNone &&
  (s.pair == 1 || s.pair == 6 || s.pair == 7) && s.rd F.GLB_TXN_STAT_STATE == 0 && s.rd F.ACB_STAT_STEP == 0

/-- The power state changes; entry to P2 clears every ONREQ, and the next tick takes the outputs OFF and ends a brake test; at its end
every output is OFF and every ONREQ is 0 (R502, R504, R512, R513). -/
def State.pwrTo (s : State) (p : Nat) : State :=
  let old := s.rd F.CLK_PWR_STATE
  let s := s.when (p == 2 && old != 2) fun s => (s.upto (fun g s => s.wr F.SIO_G_STAT_ONREQ 0 g) 8).btStop 8
  let s := s.when (p != 2 && old == 2) fun s => s.outputsOff
  let s := (s.wr F.CLK_PWR_STATE p).wr F.CLK_STAT_PSTATE p
  (s.wr F.MEM_STAT_SREF (b2n (p == 2))).wr F.CLK_PWR_BUSY 0

/-- PWR_REQUEST (R723, R725): a write of CLK_PWR.REQ. A request for P0 starts the exit self-tests. -/
def opPwrRequest (req : Nat) (s : State) : State :=
  let r := if req = 3 then 0 else req
  let now := s.rd F.CLK_PWR_STATE
  if r = 0 then
    let s := s.wr F.CLK_PWR_REQ req
    if now = 0 || s.clk.testing then s
    else
      let s := (s.wr F.CLK_PWR_BUSY 1).wr F.MEM_STAT_SREF 0
      let s : State := { s with clk := { s.clk with testing := true } }
      let s := s.upto (fun e s =>
        if s.on F.TE_CTRL_EN e && decide (s.roleOf e < 6) then s.role e 3 else s) 4
      (s.upto (fun e s => if (s.sh e).out then s else s.updSh e fun x => { x with testing := true }) 2).pairView
  else if !s.pwrOk then s.raise S.CLK_PWR_REFUSED
  else
    let s : State := { s with clk := { s.clk with testing := false } }
    (s.wr F.CLK_PWR_REQ r).pwrTo r

/-- P0_EXIT_TEST_DONE (R725): the slots end; an engine that failed is OUT, and P0 is entered, with the pair in SPLIT as far as its
engines are in service (R426) and the policy state COLD. -/
def opP0ExitTestDone (te sh : Nat) (s : State) : State :=
  if !s.clk.testing then s
  else
    let s := s.upto (fun e s =>
      if s.roleOf e ≠ 3 then s
      else if bit e te then s.slotResult e true
      else ((s.slotResult e false).raise (S.TE_STEST_FAIL.at e)).teOut e 6) 4
    let s := s.upto (fun e s =>
      if !(s.sh e).testing then s
      else if bit e sh then ((s.inc F.SH_STCNT_PASS e).wr F.SH_STAT_STPASS 1 e).updSh e fun x => { x with testing := false }
      else
        ((s.inc F.SH_STCNT_FAIL e).wr F.SH_STAT_STPASS 0 e).updSh e (fun x => { x with testing := false, out := true, causes := [3] })
          |>.raise (S.SH_STEST_FAIL.at e)) 2
    let s : State := { s with clk := { s.clk with testing := false } }
    let s := ((s.pwrTo 0).updMnt fun m => { m with mrun := SnRun.reset, shs := m.shs.map Sh.freshMon, monK := none, mstep := none, step := none, reload := false }).cold
    let st := match (s.sh 0).out, (s.sh 1).out with | true, true => 7 | false, false => 1 | _, _ => 6
    (if s.pair = st then s.pairView else s.pairTo st).startRotation

/-! ### The power cap (R726 to R728) -/

/-- BURSTOK: every condition of R727 holds. -/
def State.burstOk (s : State) (pest : Nat) : Bool :=
  decide (s.clk.bursts.length < 4000) && !s.clk.ended && decide (pest ≤ 34000)

/-- POWER_CAP_EVAL (R727, R728): a millisecond whose mean P_est was `mean` mW ends with P_est at `pest` mW. -/
def opPowerCapEval (mean pest : Nat) (s : State) : State :=
  let ms := s.clk.ms + 1
  let old := s.clk.bursts.filter fun m => decide (ms < m + 30000)
  let bursts := if 25000 < mean then ms :: old else old
  let s : State := { s with clk := { s.clk with ms := ms, bursts := bursts } }
  let ok := s.burstOk pest
  let cap := if bursts.length < 4000 && !s.clk.ended then 34000 else 25000
  let m := s.clk.measures
  let under := if 0 < m && pest + 1000 ≤ cap then s.clk.under + 1 else 0
  let (m, under) :=
    if !ok && cap < pest then (min 17 (m + 1), 0)
    else if 100 ≤ under then (m - 1, 0)
    else (m, under)
  let s : State := { s with clk := { s.clk with measures := m, under := under } }
  let s := (s.wr F.CLK_PEST_MW (min pest 65535)).wr F.CLK_BURSTMS_MS (min bursts.length 8191)
  let s := (s.wr F.CLK_STAT_BURSTOK (b2n ok)).wr F.MNA_STAT_SUSP_PWR (b2n (decide (2 ≤ m)))
  let was := s.on F.CLK_STAT_CAP
  let now := !ok || decide (0 < m)
  let s := s.wr F.CLK_STAT_CAP (b2n now)
  if now && !was then (s.inc F.CLK_NCAP_N).raise S.CLK_PWR_CAP else s

/-! ### Temperature (R729 to R733) -/

/-- A site takes a conversion of its two diodes (R729). -/
def State.convert (s : State) (k a b : Nat) : State :=
  if s.on F.CLK_TS_EXCL k then s
  else
    let x := toSigned 12 a
    let y := toSigned 12 b
    let n := if 32 < (x - y).natAbs then s.clk.diff.getD k 0 + 1 else 0
    let s := (s.wr F.CLK_TS_T (ofSigned 12 (max x y)) k).wr F.CLK_TS_VALID 1 k
    let s : State := { s with clk := { s.clk with diff := updAt (fun _ => n) k s.clk.diff } }
    if 3 ≤ n then (s.wr F.CLK_TS_EXCL 1 k).raise S.CLK_THERM_SENS k else s

/-- Sites with a reading that are not excluded. -/
def State.sites (s : State) : List Nat := (List.range 8).filter fun k => s.on F.CLK_TS_VALID k && !s.on F.CLK_TS_EXCL k

/-- Tj_max in units of 0.125 °C (R729). -/
def State.tjMax (s : State) : Int :=
  let ts := s.sites.map fun k => toSigned 12 (s.rd F.CLK_TS_T k)
  let low : Int := if ts.length < 6 then 920 else -2048
  ts.foldl max low

/-- TEMP_CONVERSION (R729 to R731, R733): the two diodes of each site. -/
def opTempConversion (ds : List (Nat × Nat)) (s : State) : State :=
  let blind := decide (s.sites.length < 4) && s.on F.CLK_TS_VALID 0
  let hot := s.clk.stopped
  let s := s.each ((List.range 8).zip ds) fun x s => s.convert x.1 x.2.1 x.2.2
  let s := s.when (decide (s.sites.length < 4) && !blind) fun s => s.raise S.CLK_THERM_BLIND
  let t := s.tjMax
  let now := s.cyc
  let s := s.wr F.CLK_TMAX_T (ofSigned 12 t)
  let s := s.when (decide (toSigned 12 (s.rd F.CLK_THMAX_T) < t)) fun s => s.wr F.CLK_THMAX_T (ofSigned 12 t)
  let burst := decide (840 ≤ t) && !s.clk.ended
  let s : State := { s with clk := { s.clk with
    ended := s.clk.ended || burst
    coolAt := if t ≤ 800 then some (s.clk.coolAt.getD now) else none
    hotAt := if 920 ≤ t then some (s.clk.hotAt.getD (match s.clk.fellAt with | some c => max now (c + msC 10) | none => now)) else none
    lowAt := if t ≤ 880 then some (s.clk.lowAt.getD now) else none
    stopped := s.clk.stopped || decide (1000 ≤ t) } }
  let s := s.wr F.CLK_STAT_BURSTOK (b2n (s.burstOk (s.rd F.CLK_PEST_MW)))
  let s := s.when burst fun s => s.raise S.CLK_TH_BURST
  if decide (1000 ≤ t) && !hot then s.raise S.CLK_THERM_FATAL else s

/-- THERMAL_FACTOR_STEP (R731): the factor's next step in its present direction. It falls as soon as 115 °C is reached, for the thermal
action follows a threshold within 21 µs (R742), and then every 10 ms (DEDUCED, log 149). -/
def opThermalFactorStep (s : State) : State :=
  let f := s.rd F.CLK_STAT_FTH
  match s.clk.hotAt, s.clk.lowAt with
  | some c, _ =>
    if f ≤ 1 then s
    else
      let s := s.reachCyc c
      let t := s.cyc
      let s : State := { s with clk := { s.clk with hotAt := some (t + msC 10), fellAt := some t } }
      let s := s.wr F.CLK_STAT_FTH (f - 1)
      if f = 8 then s.raise S.CLK_TH_SHED else s
  | none, some c =>
    if 8 ≤ f then s
    else
      let s := s.reachCyc (c + msC 100)
      let t := s.cyc
      ({ s with clk := { s.clk with lowAt := some t } } : State).wr F.CLK_STAT_FTH (f + 1)
  | none, none => s

/-- TH_BURST_END (R730). -/
def opThBurstEnd (s : State) : State :=
  match s.clk.coolAt with
  | some c =>
    if !s.clk.ended then s
    else
      let s := s.reachCyc (c + secC 1)
      let s : State := { s with clk := { s.clk with ended := false } }
      s.wr F.CLK_STAT_BURSTOK (b2n (s.burstOk (s.rd F.CLK_PEST_MW)))
  | none => s

/-- CLK_CLR (R746). -/
def opClkClr (s : State) : State := (s.setWord R.CLK_THMAX 0).setWord R.CLK_NCAP 0

end Sys2Proof.Machine
end

