-- ==== Sys2Proof/Machine/Mna.lean ====
section
/-!
DEFINITION. The maintenance arbiter (R734 to R741): slots, budgets and grants, the comparator test, the scrub with row repair
(R47 to R49), and the lateness faults.
-/
namespace Sys2Proof.Machine

/-- The arbiter's own state changed. -/
def State.updMna (s : State) (f : Mna → Mna) : State := { s with mna := f s.mna }

/-! ### Budgets (R735) -/

/-- BGL in 10^6 lane-operations per second. -/
def State.bgl (s : State) : Nat :=
  if 1 ≤ s.clk.measures then 0 else 30720 * s.teActive - s.word R.REED_AUDRSV_LANE

/-- The admitted DRAM load in MB/s (R347). -/
def State.dramLoad (s : State) : Nat :=
  ceilDiv (sumNat ((s.streams.filter (·.admitted)).map fun x => x.c.rateMax * x.c.dramBytes)) 1000000

/-- DRB in MB/s. -/
def State.drb (s : State) : Nat :=
  if s.on F.MEM_STAT_SREF then 0 else min (1000 * s.rd F.MNA_DRAMBUD_GBPS) (130000 - s.dramLoad)

/-- DRAM scrub's claim in MB/s. -/
def State.scrubClaim (s : State) : Nat := ceilDiv (2 ^ 35) (1000000 * max 60 (s.rd F.MNA_DRAMPER_S))

/-! ### The comparator test (R431, R739) -/

/-- The 14 duplicated blocks in their order, with the domain each needs. -/
def cmpBlocks : List (Src × Nat) :=
  [(S.TE_QM_MISMATCH, 2), (S.VDU_DUP_MISMATCH, 11), (S.SEM_DUP_MISMATCH, 14), (S.AEU_DUP_MISMATCH, 36), (S.SIO_DUP_MISMATCH, 0),
    (S.FCU_DUP_MISMATCH, 0), (S.SSC_DUP_MISMATCH, 0), (S.ACB_DUP_MISMATCH, 37), (S.TBU_DUP_MISMATCH, 0), (S.TSN_DUP_MISMATCH, 18),
    (S.CVU_DUP_MISMATCH, 19), (S.REED_DUP_MISMATCH, 32), (S.KCU_DUP_MISMATCH, 15), (S.MNA_DUP_MISMATCH, 1)]

/-- Source of the Mantis comparator in the present pair state (R432). -/
def State.cmpSrc (s : State) : Src :=
  if s.pair = 4 || s.pair = 2 && s.mnt.hold.isSome then S.MNT_HOLD_MISMATCH else S.MNT_LOCK_MISMATCH

/-- A domain that no power state, and no fault, has stopped; idle gating does not hold a test back. -/
def State.domUp (s : State) (d : Nat) : Bool := !s.domPstop d && !(s.clk.stopped && decide (2 ≤ d) && decide (d ≤ 8))

/-- The two groups of a slot are armed. -/
def State.cmpTest (s : State) : State :=
  let next (n : Nat) : Nat := if s.mna.started then (n + 1) % 14 else 0
  let g := next (s.rd F.MNA_CMPPOS_SHGRP)
  let k := next (s.rd F.MNA_CMPPOS_BLK)
  let s := (s.wr F.MNA_CMPPOS_SHGRP g).wr F.MNA_CMPPOS_BLK k
  let t := s.cyc
  let s := s.updMna fun m => { m with started := true, cmpAt := t }
  let s := s.when (s.domUp 8) fun s => let x := s.cmpSrc; s.arm x.page x.num g
  match cmpBlocks[k]? with
  | some (x, d) => if s.domUp d then s.arm x.page x.num 0 else s
  | none => s

/-! ### Scrub and row repair (R47 to R49, R740, R766) -/

/-- A row, or the spare that stands for it, is remapped to a spare row of its macro, with its repair record, and two more passes must
find it before it is remapped again (R47); a macro with none left keeps its row, and raises its fault as it takes its last spare (R49). -/
def State.repairRow (s : State) (m row : Nat) : State :=
  let n := s.sparesUsed m
  if 2 ≤ n || 4096 ≤ s.boot.repairs.length then s
  else
    let s := s.updMna fun a => { a with rows := a.rows.erase (m, row), lastRows := a.lastRows.erase (m, row) }
    let first := s.boot.repairs.any fun r => bit 31 r && r % 2048 == m && !bit 24 r
    let s := { s with boot := { s.boot with repairs := s.boot.repairs ++ [m + 4096 * row + 2 ^ 24 * b2n first + 2 ^ 31] } }
    if n + 1 = 2 then s.noSpare m else s

/-- A corrected word: its page's corrected-error source, and the repair of a row that the last pass corrected too. -/
def State.scrubRow (s : State) (r : ScrubRow) : State :=
  let key := (r.macro_.toNat, r.row.toNat)
  let x : Src := ⟨r.page.val, r.src.val⟩
  let s := s.when (decide (x.cls = .c)) fun s => s.raise x
  let s := s.updMna fun m => { m with rows := if m.rows.contains key then m.rows else key :: m.rows }
  if s.mna.lastRows.contains key then s.repairRow key.1 key.2 else s

/-- One chunk of the SRAM pass. -/
def State.sramChunk (s : State) (rows : List ScrubRow) : State :=
  let s := s.each rows fun r s => s.scrubRow r
  let n := 1000 * max 1 (s.rd F.MNA_SRAMPER_S)
  let d := s.mna.sramDone + 1
  let t := s.cyc
  if n ≤ d then
    let s := s.updMna fun m => { m with sramDone := 0, sramAt := t, lastRows := m.rows, rows := [], late := m.late.erase 0 }
    (s.wr F.MNA_SRAMPROG_PCT 0).inc F.MNA_SRAMPROG_PASSES
  else (s.updMna fun m => { m with sramDone := d }).wr F.MNA_SRAMPROG_PCT (100 * d / n)

/-- One chunk of the DRAM pass. -/
def State.dramChunk (s : State) : State :=
  let n := 1000 * max 60 (s.rd F.MNA_DRAMPER_S)
  let d := s.mna.dramDone + 1
  let t := s.cyc
  if n ≤ d then
    let s := s.updMna fun m => { m with dramDone := 0, dramAt := t, late := m.late.erase 1 }
    (s.wr F.MNA_DRAMPROG_PCT 0).inc F.MNA_DRAMPROG_PASSES
  else (s.updMna fun m => { m with dramDone := d }).wr F.MNA_DRAMPROG_PCT (100 * d / n)

/-! ### Slots (R737, R738) -/

/-- An activity is deferred. -/
def State.defers (s : State) (a : Nat) : State := (s.inc F.MNA_DEFER_N a).wr ⟨R.MNA_REQ, a, a⟩ 1

/-- An activity holds a grant. -/
def State.mnaGrant (s : State) (a : Nat) : State := s.wr ⟨R.MNA_GRANT, a, a⟩ 1

/-- The tally self-test slot: the rotation step (R32, R314), deferred only under R324. -/
def State.slotTally (s : State) : State :=
  if !s.engClk || s.clk.testing then s
  else if s.rotating then (s.defers 0).when ((List.range 4).any fun e => s.roleOf e == 3) fun s => s.mnaGrant 0
  else (s.rotate).mnaGrant 0

/-- The Mantis self-test slots that are due (R458). -/
def State.slotMantis (s : State) : State :=
  s.upto (fun e s =>
    let x := s.sh e
    let jobs := x.run.isSome || !x.queue.isEmpty
    let due := s.pair == 1 && s.engClk && !x.out && !x.testing && decide (x.slotAt ≤ s.cyc)
    if x.testing then s.mnaGrant 1
    else if !due then s
    else if (s.sh (1 - e)).testing || (jobs && decide (s.cyc < x.slotAt + msC (s.rd F.MNT_STPER_MS))) then s.defers 1
    else (opMantisSelftestStart e s).mnaGrant 1) 2

/-- The comparator test of a slot: two of the FCU's entries (R735). -/
def State.slotCmp (s : State) : State := if 30 < s.inj.length then s.defers 2 else s.cmpTest.mnaGrant 2

/-- A matrix's re-key has become an epoch-limit request (R232, R738). -/
def State.epochLimit (s : State) (c site : Nat) : Bool := match s.mat c site with | some m => m.late | none => false

/-- The scrubs of a slot (R738, R740); `drb` is what DRB still holds. Answers what it holds afterwards. -/
def State.slotScrub (s : State) (drb : Nat) (rows : List ScrubRow) : State × Nat :=
  let ok := s.on F.MNA_CTRL_EN && !s.on F.MNA_STAT_SUSP_RK && decide (s.clk.measures < 2)
  let p2 := s.rd F.CLK_PWR_STATE == 2
  let s :=
    if !s.on F.MNA_CTRL_SCRUB_EN || p2 then s
    else if ok then (s.sramChunk rows).mnaGrant 3 else s.defers 3
  if !s.on F.MNA_CTRL_DSCRUB_EN || p2 then (s, drb)
  else if ok && s.scrubClaim ≤ drb then (s.dramChunk.mnaGrant 4, drb - s.scrubClaim)
  else (s.defers 4, drb)

/-- The re-key of a slot (R234, R235, R238, R738): the head of the queue, or an epoch-limit request whether or not its claims
fit. Answers what BGL and DRB still hold. -/
def State.slotRekey (s : State) (bgl drb : Nat) : State × Nat × Nat :=
  let lane := s.word R.MNA_RKLANE
  let dram := s.rd F.MNA_RKDRAM_MBPS
  if s.pst.cur.isSome then (s.mnaGrant 5, bgl, drb)
  else
    let may := s.on F.MNA_CTRL_EN && !s.on F.PST_CTRL_RK_PAUSE && s.rd F.CLK_PWR_STATE != 2
    match s.pst.queue.find? fun x => s.epochLimit x.1 x.2.1 with
    | some (c, site, prio) =>
      if may then
        let s := (s.updMna fun m => { m with force := true }).wr F.MNA_STAT_SUSP_RK 1
        ((s.rekeyOpen c site prio).mnaGrant 5, bgl - lane, drb - dram)
      else (s.defers 5, bgl, drb)
    | none =>
      match s.pst.queue with
      | [] => (s, bgl, drb)
      | (c, site, prio) :: _ =>
        if may && lane ≤ bgl && dram ≤ drb then ((s.rekeyOpen c site prio).mnaGrant 5, bgl - lane, drb - dram)
        else (s.defers 5, bgl, drb)

/-- The brake test of a slot (R507, R738). -/
def State.slotBrake (s : State) : State :=
  match s.rd F.SIO_BTSTAT_STATE with
  | 0 => s
  | 1 =>
    if s.on F.MNA_CTRL_EN && s.rd F.ACB_STAT_STEP == 0 && s.pair != 2 && s.pair != 4 && s.rd F.CLK_PWR_STATE != 2 then
      let s := s.btGrant.1
      if s.rd F.SIO_BTSTAT_STATE = 0 then s else s.mnaGrant 6
    else s.defers 6
  | _ => s.mnaGrant 6

/-- MNA_SLOT (R737 to R740): the next slot boundary, in the order of priority. An epoch-limit re-key is granted before the scrubs
that it suspends. `rows` are the words that the SRAM scrub corrects in this slot. -/
def opMnaSlot (rows : List ScrubRow) (s : State) : State :=
  if !s.on F.BOOT_STAT_READY || s.balls.coreLoss then s
  else
    let s := s.reachCyc ((s.cyc / msC 1 + 1) * msC 1)
    let first := s.mna.slots == 0
    let t := s.cyc
    let s := s.updMna fun m => { m with
      slots := m.slots + 1, sramAt := if first then t else m.sramAt, dramAt := if first then t else m.dramAt }
    let s := (s.setWord R.MNA_GRANT 0).setWord R.MNA_REQ 0
    let s := s.when (s.mna.force && s.pst.cur.isNone) fun s =>
      (s.updMna fun m => { m with force := false }).wr F.MNA_STAT_SUSP_RK 0
    let s := s.slotTally.slotMantis.slotCmp
    let held := s.pst.cur.isSome
    let bgl := if held then s.bgl - s.word R.MNA_RKLANE else s.bgl
    let drb := if held then s.drb - s.rd F.MNA_RKDRAM_MBPS else s.drb
    let limit := s.pst.cur.isNone && s.pst.queue.any fun x => s.epochLimit x.1 x.2.1
    let (s, bgl, drb) :=
      if limit then
        let (s, bgl, drb) := s.slotRekey bgl drb
        let (s, drb) := s.slotScrub drb rows
        (s, bgl, drb)
      else
        let (s, drb) := s.slotScrub drb rows
        s.slotRekey bgl drb
    let s := s.slotBrake
    ((s.setWord R.MNA_BGL bgl).wr F.MNA_DRB_MBPS (min drb 65535)).settle.watch

/-! ### Lateness (R741) and the clear (R749) -/

/-- SCRUB_LATE: the SRAM pass (0) or the DRAM pass (1) passes 1.25 times its period. -/
def opScrubLate (dram : Bool) (s : State) : State :=
  let k := b2n dram
  if s.mna.late.contains k || s.mna.slots = 0 then s
  else
    let per := if dram then secC (max 60 (s.rd F.MNA_DRAMPER_S)) else secC (max 1 (s.rd F.MNA_SRAMPER_S))
    let s := s.reachCyc ((if dram then s.mna.dramAt else s.mna.sramAt) + per * 5 / 4)
    (s.updMna fun m => { m with late := k :: m.late }).raise S.MNA_SCRUB_LATE

/-- CMP_LATE: more than 1 ms has passed the slot after the last comparator injection. -/
def opCmpLate (s : State) : State :=
  if !s.mna.started then s else (s.reachCyc (s.mna.cmpAt + msC 1 + 1)).raise S.MNA_CMP_LATE

/-- ROT_LATE: an engine in service has passed no slot for three rotation periods (R37). -/
def opRotLate (e : Nat) (s : State) : State :=
  let serves (e : Nat) : Bool := let r := s.roleOf e; decide (1 ≤ r) && decide (r ≤ 5)
  let n := ((List.range 4).filter serves).length
  if !serves e || n < 2 then s
  else (s.reachCyc ((s.te e).lastPass + 3 * msC n)).raise S.MNA_ROT_LATE e

/-- MNA_CLR (R749). -/
def opMnaClr (s : State) : State := s.upto (fun a s => s.setWord R.MNA_DEFER 0 a) 7

end Sys2Proof.Machine
end

