-- ==== Sys2Proof/Machine/Erc.lean ====
section
/-!
DEFINITION. The event recorder (R767 to R772): the layout of a record, the MRAM array with its head and checkpoint, the host event
ring, annotations, and the service snapshot; and the clears of the ERC and MEM pages.
-/
namespace Sys2Proof.Config

/-- Word of a recorder slot that no record has been written to (slot, word). -/
opaque blankRecord : Nat → Nat → BitVec 32

end Sys2Proof.Config

namespace Sys2Proof.Machine

/-- The 64 bytes of a stable record (R767). -/
def EvRec.bytes (e : EvRec) : List Byte :=
  natLe 1 e.typ ++ natLe 1 1 ++ natLe 1 e.src ++ natLe 1 (e.lvl.code + 4 * b2n e.esc) ++ natLe 8 e.n ++
    natLe 2 (e.t / 2 ^ 40) ++ natLe 4 (subNs (e.t / nsU)) ++ natLe 6 (secOf (e.t / nsU)) ++
    natLe 1 e.page ++ natLe 1 e.code ++ natLe 2 e.chan ++ natLe 8 e.eseq ++
    natLe 1 e.stream ++ natLe 1 e.aux ++ natLe 2 e.unit ++ natLe 8 e.ref ++ (e.detail ++ List.replicate 12 0).take 12 ++
    natLe 4 (2 * e.lock)

/-- Records of the array. -/
def ercSlots : Nat := 131072

/-- The record that a slot holds. -/
def State.slotRec (s : State) (eseq : Nat) : Option EvRec :=
  s.erc.mram.find? fun e => e.eseq % ercSlots == eseq % ercSlots

/-- Word `w` of what an accessor is shown of the record at an ESEQ. -/
def recWord (e : Option EvRec) (eseq w : Nat) : Nat :=
  match e with
  | some e => le (4 * w) 4 e.bytes
  | none => (Config.blankRecord (eseq % ercSlots) w).toNat

/-! ### The event ring ER0 (R770) -/

/-- The event ring changed. -/
def State.updEring (s : State) (f : Ring EvRec → Ring EvRec) : State := { s with erc := { s.erc with ring := f s.erc.ring } }

/-- The ring's vector fires. -/
def State.eringFire (s : State) : State :=
  (s.msix 1 (s.rd F.ERC_RINGCFG_VEC)).updEring fun r => { r with unsig := 0 }

/-- A record goes to the ring; one that finds it full is lost for the ring (R770). -/
def State.eringPut (s : State) (e : EvRec) : State :=
  if !s.on F.ERC_RINGCFG_EN || e.lvl.code < s.rd F.ERC_RINGCFG_MINLVL then s
  else
    let r := s.erc.ring
    let size := 2 ^ s.rd F.ERC_RINGCFG_LOG2N
    if s.hostMay 1 && decide ((r.pidx + 2 ^ 32 - r.cidx) % 2 ^ 32 < size) then
      let p := (r.pidx + 1) % 2 ^ 32
      let t := s.cyc
      let s := s.emit (.hostWrite (s.rd64 R.ERC_RING_BASE_LO R.ERC_RING_BASE_HI + 64 * (r.pidx % size)) e.bytes)
      let s := s.updEring fun r => { r with pidx := p, unsig := r.unsig + 1, unsigAt := if r.unsig = 0 then t else r.unsigAt }
      let s := (s.setWord R.ERC_RPIDX p).emit (.hostWrite (s.rd64 R.ERC_RINGWB_LO R.ERC_RINGWB_HI) (natLe 4 p))
      if max 1 (s.rd F.ERC_RINGCFG_MODCNT) ≤ s.erc.ring.unsig then s.eringFire else s
    else (s.inc F.ERC_RLOST_N).raise S.ERC_ERING_LOST

/-- The host writes CIDX of the event ring (R376, R770). -/
def State.eringCidx (s : State) (v : Nat) : State :=
  if (s.erc.ring.pidx + 2 ^ 32 - v % 2 ^ 32) % 2 ^ 32 ≤ 2 ^ s.rd F.ERC_RINGCFG_LOG2N then
    s.updEring fun r => { r with cidx := v % 2 ^ 32 }
  else s.access

/-- CIDX_WRITE (R376, R770) of VR0 to VR7 and, as ring 8, of ER0. -/
def opCidxWriteAll (r v : Nat) (s : State) : State := if r = 8 then s.eringCidx v else opCidxWrite r v s

/-- RING_MOD_TIMER (R378, R770) of VR0 to VR7 and, as ring 8, of ER0. -/
def opRingModTimerAll (r : Nat) (s : State) : State :=
  if r ≠ 8 then opRingModTimer r s
  else if s.erc.ring.unsig = 0 || s.rd F.ERC_RINGMOD_US = 0 then s
  else (s.reachCyc (s.erc.ring.unsigAt + usC (s.rd F.ERC_RINGMOD_US))).eringFire

/-! ### Writing (R767 to R769) -/

/-- A record takes the next ESEQ and its slot; the checkpoint follows every 1,024 records; the ring comes after. -/
def State.writeRec (s : State) (e : EvRec) : State :=
  let q := s.erc.head
  let e := { e with eseq := q, lock := (s.fresh 31).toNat }
  let s := s.drew
  let s : State := { s with erc := { s.erc with
    mram := (e :: s.erc.mram).take ercSlots, head := (q + 1) % 2 ^ 64,
    checkpoint := if s.erc.checkpoint + 1024 ≤ q then q else s.erc.checkpoint } }
  s.eringPut e

/-- RECORD_WRITE_DONE (R769, R770): the oldest queued record reaches MRAM; the space takes the overflow record that is due. -/
def opRecordWriteDone (s : State) : State :=
  match s.erc.queue with
  | [] => s
  | e :: q =>
    let s : State := { s with erc := { s.erc with queue := q } }
    let s :=
      if s.erc.lost = 0 then s
      else
        let n := s.erc.lost
        let o := { s.mkRec 0x92 .none false 25 0 0 with detail := natLe 4 n }
        (({ s with erc := { s.erc with lost := 0 } } : State).putRec o).1
    s.writeRec e

/-! ### Access and annotations (R771, R772) -/

/-- Accessors: PF0, the service port and JTAG (R60). -/
def State.ercIdx (s : State) (a : Nat) : Nat := s.rd64 R.ERC_IDX_LO R.ERC_IDX_HI a

/-- What an accessor is shown: the host and JTAG see the slot itself, the service port its snapshot. -/
def State.shown (s : State) (a : Nat) : Option EvRec := if a = 1 then s.erc.snap else s.slotRec (s.ercIdx a)

/-- A write of ERC_IDX by an accessor; the service port takes its snapshot (R772). -/
def State.writeIdx (s : State) (a : Nat) (hi : Bool) (v : Nat) : State :=
  let s := s.setWord (if hi then R.ERC_IDX_HI else R.ERC_IDX_LO) v a
  if a = 1 then
    let e := s.slotRec (s.ercIdx 1)
    { s with erc := { s.erc with snap := e } }
  else s

/-- ERC_IDX (R772): a service write of one half of ERC_IDX. -/
def opErcIdx (hi : Bool) (v : Nat) (s : State) : State := s.writeIdx 1 hi v

/-- The 24 bytes of an accessor's annotation registers. -/
def State.annBytes (s : State) (a : Nat) : List Byte :=
  (List.range 6).flatMap fun w => natLe 4 (s.word R.ERC_ANN a w)

/-- A record with bytes 36 to 59 replaced. -/
def EvRec.annotate (e : EvRec) (b : List Byte) : EvRec :=
  { e with stream := le 0 1 b, aux := le 1 1 b, unit := le 2 2 b, ref := le 4 8 b, detail := slice 12 12 b }

/-- BUSY of an accessor's last annotation write. -/
def State.annBusy (s : State) (a : Nat) (b : Bool) : State := s.wr F.ERC_RSTAT_BUSY (b2n b) a

/-- APPEND (R772): the writer's annotation becomes the next record. `clash` says that a host annotation writes the same slot in
the same window, which refuses a service write. -/
def opAppend (a : Nat) (clash : Bool) (s : State) : State :=
  if clash && a == 1 then s.annBusy a true
  else
    let e := (s.mkRec 0x91 .none false 0x1F (if a = 1 then 2 else 1) 0).annotate (s.annBytes a)
    let s : State := { s with erc := { s.erc with count := s.erc.count + 1 } }
    (s.annBusy a false).writeRec e

/-- REPLACE (R772): bytes 36 to 59 of the annotation at ERC_IDX. -/
def opReplace (a : Nat) (clash : Bool) (s : State) : State :=
  if clash && a == 1 then s.annBusy a true
  else
    let q := s.ercIdx a
    let mine (e : EvRec) : Bool := e.eseq == q && e.typ == 0x91
    if !s.erc.mram.any mine then s.access
    else
      let b := s.annBytes a
      let l := (s.fresh 31).toNat
      let s := (s.annBusy a false).drew
      { s with erc := { s.erc with mram := mapIf mine (fun e => { e.annotate b with lock := l }) s.erc.mram } }

/-- ERC_CLR (R779). -/
def opErcClr (s : State) : State := (s.setWord R.ERC_DROP 0).setWord R.ERC_RLOST 0

/-- MEM_CLR (R783). -/
def opMemClr (s : State) : State := (s.setWord R.MEM_NCE 0).setWord R.MEM_NUE 0

end Sys2Proof.Machine
end

