-- ==== Sys2Proof/Machine/Regs.lean ====
section
/-!
DEFINITION. The register map as an accessor sees it (R54 to R81): where an offset leads, what a read returns, and the parts of
registers that show other state.
-/
namespace Sys2Proof.Config

/-- The largest contiguous free extent of the PST for a number of free bytes (R239): placement is not contiguous (R230) and the
spec fixes no order. -/
opaque pstExtent : Nat → Nat

end Sys2Proof.Config

namespace Sys2Proof.Machine

/-! ### Where an offset leads (R54, R75 to R78) -/

/-- Channels of a page (R54). -/
def chanCount (p : Nat) : Nat :=
  match p with
  | 1 => 40 | 2 => 28 | 3 => 64 | 5 => 16384 | 6 => 64 | 7 => 64 | 8 => 48 | 9 => 48 | 10 => 48 | 11 => 48
  | 15 => 16 | 16 => 64 | 17 => 64 | 18 => 56 | 19 => 16 | 20 => 12 | 21 => 32 | 22 => 4 | _ => 0

/-- The indices under which a register covers a key, the accessor's part aside. -/
def Reg.hit (r : Reg) (k : Nat) : Option (Nat × Nat) :=
  if k < r.base then none
  else
    let d := k - r.base
    if r.sa = accStep then
      let j := if r.sb = 0 then 0 else d / r.sb
      if d = r.sb * j && j < r.nb then some (0, j) else none
    else if r.sb < r.sa then
      let i := d / r.sa
      let e := d - r.sa * i
      let j := if r.sb = 0 then 0 else e / r.sb
      if i < r.na && e = r.sb * j && j < r.nb then some (i, j) else none
    else
      let j := if r.sb = 0 then 0 else d / r.sb
      let e := d - r.sb * j
      let i := if r.sa = 0 then 0 else e / r.sa
      if j < r.nb && e = r.sa * i && i < r.na then some (i, j) else none

/-- The register that a key leads to, with its indices. -/
def findReg (k : Nat) : Option (Reg × Nat × Nat) :=
  regTable.findSome? fun r => (r.hit k).map fun x => (r, x.1, x.2)

/-- A register's indices for an accessor. -/
def Reg.idx (r : Reg) (a i : Nat) : Nat := if r.sa = accStep then a else i

/-- Key of a BAR0 offset for an accessor: in a channel window the channel of the accessor's _CHSEL is added; none where that
channel does not exist (R77). -/
def State.keyOf (s : State) (a off : Nat) : Option Nat :=
  let p := off / 0x10000
  let o := off % 0x10000
  if 0x100 ≤ o && o < 0x400 then
    let c := s.rd F.HEAD_CHSEL_CH a p
    if c < chanCount p then some (off + chanStep * c) else none
  else some off

/-! ### The common page head (R63 to R74) -/

/-- Block code of a page (R54). -/
def blockCode (p : Nat) : Nat :=
  [1, 2, 3, 4, 5, 6, 7, 7, 8, 8, 8, 8, 9, 9, 10, 11, 12, 13, 14, 15, 16, 17, 18, 19, 20, 21, 22, 23].getD p 0

/-- Instance of a page. -/
def pageInst (p : Nat) : Nat := match p with | 7 => 1 | 9 => 1 | 10 => 2 | 11 => 3 | 13 => 1 | _ => 0

/-- Whether _CTRL.BLK_RST is implemented (R66). -/
def hasBlkRst (p : Nat) : Bool := (decide (6 ≤ p) && decide (p ≤ 13)) || p == 22

/-- Block-specific capabilities of a page. -/
def capBlock (p : Nat) : Nat :=
  match p with
  | 1 => 40 * 2 ^ 16 + 8 * 2 ^ 22
  | 2 => 27 * 2 ^ 16 + 32 * 2 ^ 21
  | 5 => 16383 * 2 ^ 16
  | 6 | 7 => 16384 * 2 ^ 16
  | 8 | 9 | 10 | 11 => 128 * 2 ^ 16 + 32 * 2 ^ 24
  | 12 | 13 => 2048 * 2 ^ 16
  | 15 => 96 * 2 ^ 16 + 8 * 2 ^ 24
  | 16 => 1023 * 2 ^ 16 + 8 * 2 ^ 26
  | 17 => 64 * 2 ^ 16
  | 18 => 32 * 2 ^ 16 + 24 * 2 ^ 22 + 8 * 2 ^ 27
  | 19 => 1023 * 2 ^ 16
  | 21 => 32 * 2 ^ 16
  | 22 => 4 * 2 ^ 16 + 4 * 2 ^ 20
  | 24 => 32 * 2 ^ 16
  | 25 => 17 * 2 ^ 16
  | _ => 0

/-- _CAP of a page (R65). -/
def capWord (p : Nat) : Nat := nsrc p + 64 * b2n (p != 1) + 128 + 256 * b2n (hasBlkRst p) + capBlock p

/-- Bits of the sources of a page that satisfy a condition. -/
def srcMask (p : Nat) (f : Level → Bool) : Nat :=
  sumNat (((pageClasses p).zip (List.range 32)).map fun x => if f x.1 then 2 ^ x.2 else 0)

/-- Classes of 16 sources from number `n` (R72). -/
def clsWord (p n : Nat) : Nat :=
  sumNat ((((pageClasses p).drop n).take 16).zip (List.range 16) |>.map fun x => x.1.code * 4 ^ x.2)

/-- _FLTEN of a page (R70). -/
def State.fltEn (s : State) (p : Nat) : Nat :=
  sumNat (((pageClasses p).zip (List.range 32)).map fun x =>
    if x.1 = .c && bit x.2 (s.word R.HEAD_FLTDIS p) then 0 else 2 ^ x.2)

/-- Staging entries of a page (R74). -/
def State.pageStg (s : State) (p : Nat) : Nat := (s.txn.staging.filter fun e => keyPage e.key == p).length

/-- A head register that every page computes: _ID, _CAP, _FLTEN, _FLTCLS, _TXST, _CHCNT. -/
def State.headRead (s : State) (p o : Nat) : Option Nat :=
  match o with
  | 0x00 => some (blockCode p + 4096 * pageInst p + 0x10000)
  | 0x04 => some (capWord p)
  | 0x14 => some (s.fltEn p)
  | 0x18 => some (clsWord p 0)
  | 0x1C => some (clsWord p 16)
  | 0x24 => some (s.pageStg p + 0x10000 * b2n (s.pageStg p != 0))
  | 0x44 => some (chanCount p)
  | _ => none

/-! ### _STAT.STATE (R68) -/

/-- Whether a block without a rule of its own for _STAT.STATE works on something now. -/
def State.active (s : State) (p : Nat) : Bool :=
  match p with
  | 0 => s.rd F.GLB_TXN_STAT_STATE != 0
  | 1 => s.clk.testing
  | 2 => !s.inj.isEmpty
  | 3 => s.on F.SSC_STAT_RESTART
  | 4 => s.rd F.TBU_STAT_SSTATE != 0
  | 5 => !s.sem.waits.isEmpty
  | 12 | 13 => (s.sh (p - 12)).run.isSome
  | 14 => s.mnt.step.isSome || s.mnt.mstep.isSome
  | 15 => s.pst.cur.isSome || s.on F.PST_STAT_KEYUP_ANY
  | 16 => s.slots.any fun x => !x.left
  | 17 => s.joints.any fun j => !j.hist.isEmpty
  | 19 => s.rd F.ACB_STAT_STEP != 0 || !s.acb.table.isEmpty
  | 20 => (List.range 12).any s.ethUp
  | 21 => s.tsn.cvu.any (·.feeding)
  | 22 => (List.range 4).any s.rUp
  | 23 => s.kcu.sess.any fun x => x.st == 1
  | 24 => s.on F.MEM_STAT_TRAINED
  | 25 => !s.erc.queue.isEmpty
  | 26 => s.word R.MNA_GRANT != 0
  | 27 => s.boot.running
  | _ => false

/-- _STAT.STATE of a page: TAP, TE and SIO pages hold it; the others are OFF while disabled, OUT where a fault has taken them out of
service, ACTIVE while they work. -/
def State.pageState (s : State) (p : Nat) (stored en : Nat) : Nat :=
  if p = 6 || p = 7 || (8 ≤ p && p ≤ 11) || p = 18 then stored
  else if (p = 12 || p = 13) && (s.sh (p - 12)).out then 3
  else if (p = 12 || p = 13 || p = 14) && s.pair = 0 then 0
  else if en = 0 then 0
  else if s.active p then 2
  else 1

/-- STATE and STAGED of a page's _STAT, and NHOST of CVU_STAT (R644). -/
def State.statBits (s : State) (p w : Nat) : Nat :=
  let w := if p = 21 then setBits 15 8 8 w else w
  let en := match findReg (0x10000 * p + 8) with | some (r, i, j) => s.word r i j % 2 | none => 0
  setBits 3 3 (b2n (s.pageStg p != 0)) (setBits 1 0 (s.pageState p (bits 1 0 w) en) w)

/-! ### Registers that show other state -/

/-- A word with fields replaced. -/
def packW (w : Nat) (xs : List (Fld × Nat)) : Nat := xs.foldl (fun w x => setBits x.1.hi x.1.lo x.2 w) w

/-- A truth value of each index as a word. -/
def maskOf (n : Nat) (f : Nat → Bool) : Nat := sumNat ((List.range n).map fun i => if f i then 2 ^ i else 0)

/-- Context that SEM_CTXSEL shows, and its plan. -/
def State.semSel (s : State) : Nat := s.rd F.SEM_CTXSEL_CTX
def State.semPlan (s : State) : Option Plan :=
  if s.rd F.PST_CSTAT_STATE s.semSel = 0 then none else (s.ctx s.semSel).plan

/-- The largest gap between semaphore ranges (R421). -/
def maxGap (used : List (Nat × Nat)) : Nat :=
  let starts := 0 :: used.map fun x => x.1 + x.2
  let free (b : Nat) : Nat :=
    if used.any fun x => x.1 ≤ b && b < x.1 + x.2 then 0
    else (used.filter fun x => b ≤ x.1).foldl (fun m x => min m x.1) 16384 - b
  starts.foldl (fun m b => max m (free b)) 0

/-- Free bytes of the PST. -/
def State.pstFree (s : State) : Nat := 0x6000000 - sumNat ((List.range 16).map fun c => s.word R.PST_CRES c)

/-- Age in seconds of the oldest matrix of a context. -/
def State.matAge (s : State) (c : Nat) : Nat :=
  let ages := ((s.ctx c).mats.filter fun m => !m.vecs.isEmpty).map fun m => (s.cyc - m.doneAt) / secC 1
  min 65535 (ages.foldl max 0)

/-- Local flag `n` of an engine: its queue and index (R326). Flags are numbered along the engine's queues. -/
def State.flagAt (s : State) (e n : Nat) : Option (Nat × Nat) :=
  ((s.queuesOf e).flatMap fun q => (List.range (s.queueD q).flags).map fun i => (q, i))[n]?

/-- TE_QSLOT of a slot: the engine's queues lie in its slots in rising order, and slot 31 is the background slot. -/
def State.qslot (s : State) (e k : Nat) : Nat :=
  if k = 31 then packW 0 [(F.TE_QSLOT_BG, b2n (s.roleOf e != 0))]
  else match (s.queuesOf e)[k]? with
    | none => 0
    | some q =>
      let l := s.lq q
      let purge := match l.jobs with | j :: _ => j.purge | [] => false
      packW 0 [(F.TE_QSLOT_LQ, q), (F.TE_QSLOT_VALID, 1), (F.TE_QSLOT_CLASS, s.queueClass q), (F.TE_QSLOT_JOBS, l.jobs.length),
        (F.TE_QSLOT_WAITING, b2n l.inWai), (F.TE_QSLOT_PURGE, b2n purge), (F.TE_QSLOT_MOVING, b2n l.copying)]

/-- Step of a running self-test slot (R316, R325). The spec bounds each step's time from above, so the step is at least the one that
those bounds force; how far it is beyond is free (log 104). -/
def State.stPhase (s : State) (e : Nat) : Nat :=
  if !s.on F.TE_STAT_STPHASE e then 0
  else
    let us := (s.cyc - (s.te e).slotAt) / 800
    let least := if us < 400 then 1 else if us < 730 then 2 else if us < 770 then 3 else if us < 810 then 4 else 5
    max least (1 + Config.selfTestStep e (s.cyc - (s.te e).slotAt) % 5)

/-- The ledger entry that ACB_LEDIDX shows. -/
def State.ledSel (s : State) : Option AcbLedger := s.acb.ledger[s.rd F.ACB_LEDIDX_IDX]?

/-- Ledger entry `e` of the boot ledger, 0 the newest (R776). -/
def State.ledShown (s : State) (e : Nat) : LedEntry :=
  let c := s.boot.copyA
  c.entry ((c.next + (if s.boot.running then 16 else 15) + 16 - e) % 16)

/-- A region of the LPDDR5X (R50, R781): its base and size in MiB. -/
def State.region (s : State) (r : Nat) : Nat × Nat :=
  let sizes := [256, 64, s.rd F.MEM_PRJSIZE_MIB, s.rd F.MEM_KVCSIZE_MIB, 1024]
  (sumNat (sizes.take r), sizes.getD r 0)

/-- The snapshot entry that SEM_SNAPIDX shows. -/
def State.snapSel (s : State) : Option SnapE := s.sem.snap[s.rd F.SEM_SNAPIDX_IDX]?

/-- Nanoseconds of a port's running backpressure episode, and of all its episodes (R188). -/
def State.bpRunning (s : State) (p : Nat) : Nat := if (s.tap p).bpAt.isSome then (s.cyc - (s.tap p).bpFrom) * 5 / 4 else 0
def State.bpTotal (s : State) (p : Nat) : Nat :=
  min (2 ^ 64 - 1) (s.rd64 R.TAP_BPTIME_LO R.TAP_BPTIME_HI p + s.bpRunning p)

/-- An output is energised while both of its drive balls are at 1 (R489). -/
def State.energised (s : State) (k : Nat) : Bool := s.on F.SBO_STAT_DRVA k && s.on F.SBO_STAT_DRVB k

/-- The stored word of a register, and what is shown instead: by the register's first offset, with the accessor and the
register's indices. -/
def State.view (s : State) (r : Reg) (a i j w : Nat) : Nat :=
  if r.base % 0x10000 = 0x0C then
    let p := r.base / 0x10000 + (if r.sa = 0x10000 then i else 0)
    let w := s.statBits p w
    match p with
    | 5 => packW w [(F.SEM_STAT_NBLOCKED, (s.lqs.filter fun l => l.inWai).length), (F.SEM_STAT_DLRUN, b2n s.deadlocked)]
    | 8 | 9 | 10 | 11 =>
      let qs := s.queuesOf (p - 8)
      packW w [(F.TE_STAT_NQ, qs.length), (F.TE_STAT_GATED, b2n (s.gatedNow (p - 8))),
        (F.TE_STAT_STPHASE, s.stPhase (p - 8)),
        (F.TE_STAT_REPLAYING, b2n (qs.any fun q => match (s.lq q).jobs with | x :: _ => x.replay && x.started | [] => false))]
    | 16 => packW w [(F.VDU_STAT_FREESLOT, 1024 - (s.slots.filter fun x => !x.left).length)]
    | 17 => packW w [(F.AEU_STAT_WAITING, b2n (s.slots.any s.actWaits))]
    | 18 => packW w [(F.SIO_STAT_NON, ((List.range 24).filter s.energised).length)]
    | 22 => packW w [(F.REED_STAT_UP, maskOf 4 s.rUp), (F.REED_STAT_TLOCK, b2n (s.rd F.TBU_CTRL_SRC == 2 && s.rd F.TBU_STAT_SSTATE == 2))]
    | 23 => packW w [(F.KCU_STAT_BUSY, b2n (s.kcu.sess.any fun x => x.st == 1))]
    | 25 => packW w [(F.ERC_STAT_QFILL, s.erc.queue.length)]
    | _ => w
  else
    match r.base with
    | 0x1A0414 => packW w [(⟨R.MNA_GRANT, 5, 5⟩, b2n s.pst.cur.isSome), (⟨R.MNA_GRANT, 6, 6⟩, b2n (decide (2 ≤ s.rd F.SIO_BTSTAT_STATE)))]
    | 0x1A0418 => packW w [(⟨R.MNA_REQ, 5, 5⟩, b2n (!s.pst.queue.isEmpty)), (⟨R.MNA_REQ, 6, 6⟩, b2n (s.rd F.SIO_BTSTAT_STATE == 1))]
    | 0x160418 =>
      if s.rd F.TBU_CTRL_SRC = 2 then w else packW 0 [(F.REED_TROOT_ROOT, s.rd F.REED_GCFG_DEV), (F.REED_TROOT_DEPTH, 0)]
    | 0x120500 => sumNat (((List.range 24).filter s.energised).map fun k => 2 ^ k)
    | 0x404 => s.otp.serial % 2 ^ 32
    | 0x408 => s.otp.serial / 2 ^ 32
    | 0x454 => (match s.txn.staging[s.rd F.GLB_STG_IDX_IDX]? with | some e => e.key % chanStep + 2 ^ 31 | none => 0)
    | 0x458 => (match s.txn.staging[s.rd F.GLB_STG_IDX_IDX]? with | some e => e.key / chanStep % 65536 | none => 0)
    | 0x45C => (match s.txn.staging[s.rd F.GLB_STG_IDX_IDX]? with | some e => e.val.toNat | none => 0)
    | 0x10100 =>
      packW w [(F.CLK_DSTAT_DIV, domDiv i), (F.CLK_DSTAT_MHZ, domMhz i), (F.CLK_DSTAT_RUN, b2n (s.domRuns i)),
        (F.CLK_DSTAT_GATED, b2n (s.domGated i)), (F.CLK_DSTAT_PSTOP, b2n (s.domPstop i))]
    | 0x20100 => s.word R.HEAD_FLT i
    | 0x20400 => maskOf 28 fun p => s.word R.HEAD_FLT p != 0
    | 0x20404 => maskOf 28 fun p => (s.pageLevels p).any fun l => decide (2 ≤ l)
    | 0x20408 => maskOf 28 fun p => (s.pageLevels p).contains 3
    | 0x30104 => packW w [(F.SSC_SSTAT_OK, b2n (s.okLine i)), (F.SSC_SSTAT_EFFRST, b2n (s.effRestart i))]
    | 0x40400 => s.tbu / 2 ^ 40 % 65536
    | 0x40404 => subNs s.ns
    | 0x40408 => secOf s.ns % 2 ^ 32
    | 0x4040C => secOf s.ns / 2 ^ 32 % 65536
    | 0x50404 =>
      (match s.semPlan with
       | some p => let b := (s.ctx s.semSel).pwbase
                   packW 0 [(F.SEM_CTXBASE_PWBASE, b), (F.SEM_CTXBASE_BANKBASE, b + p.sem.planWide)]
       | none => 0)
    | 0x50408 =>
      (match s.semPlan with
       | some p => packW 0 [(F.SEM_CTXSIZE_NSEM, p.nSems), (F.SEM_CTXSIZE_BANKSIZE, p.sem.bank)]
       | none => 0)
    | 0x5040C =>
      (match s.semPlan with
       | some p => packW 0 [(F.SEM_CTXBANKS_NBANK, p.nBanks),
           (F.SEM_CTXBANKS_INUSE, sumNat ((s.ctxStreams s.semSel).map fun k => (s.st k).banks.length))]
       | none => 0)
    | 0x50410 => 16384 - sumNat ((s.semRanges []).map (·.2))
    | 0x50414 => maxGap (s.semRanges [])
    | 0x50444 =>
      (match s.snapSel with
       | some x => packW 0 [(F.SEM_WAITSNAP_SEM, x.sem), (F.SEM_WAITSNAP_ENG, x.eng), (F.SEM_WAITSNAP_LQ, x.lq),
           (F.SEM_WAITSNAP_FLAG, b2n x.flag), (F.SEM_WAITSNAP_VALID, 1)]
       | none => 0)
    | 0x50448 =>
      (match s.snapSel with | some x => packW 0 [(F.SEM_WAITSNAPN_N, x.n), (F.SEM_WAITSNAPN_COUNT, x.count)] | none => 0)
    | 0x60100 =>
      let here := (s.st j).admitted && s.portOf j == i
      let inc := match (s.st j).open_ with
        | some q => (match s.slotOf j q with | some x => x.incomplete || x.noRate | none => false)
        | none => false
      packW w [(F.TAP_SSTAT_BOUND, b2n here), (F.TAP_SSTAT_OPEN, b2n (here && (s.st j).open_.isSome)),
        (F.TAP_SSTAT_INCOMPLETE, b2n (here && inc))]
    | 0x6041C => s.bpTotal i % 2 ^ 32
    | 0x60420 => s.bpTotal i / 2 ^ 32
    | 0x60424 => min (allOnes 32) (max w (s.bpRunning i))
    | 0x60110 => if (s.st j).admitted && s.portOf j == i then (s.st j).c.ingressPeak else 0
    | 0x80100 =>
      (match s.flagAt i j with
       | some (q, k) => packW 0 [(F.TE_FLAG_COUNT, (s.lq q).flags.getD k 0), (F.TE_FLAG_LQ, q), (F.TE_FLAG_IDX, k), (F.TE_FLAG_ALLOC, 1)]
       | none => 0)
    | 0x80400 => s.qslot i j
    | 0x804AC =>
      let (p, f, b) := s.held i
      packW 0 [(F.TE_FREE_PAGES, 96 - p), (F.TE_FREE_STATE_KIB, (524288 - b) / 1024), (F.TE_FREE_FLAGS, 48 - f)]
    | 0x80500 => packW 0 ((List.range 8).map fun n => (F.TE_LQMAP_ENG n, (s.lq (8 * i + n)).eng.getD 15))
    | 0xF0118 => s.matAge i
    | 0xF0408 => s.pstFree
    | 0xF040C => if s.pstFree = 0x6000000 then 0x6000000 else min s.pstFree (Config.pstExtent s.pstFree)
    | 0x100100 => packW w [(F.VDU_SCTRL_ALERT_EN, b2n ((s.st i).admitted && (s.st i).classA || s.on F.VDU_SCTRL_ALERT_EN i))]
    | 0x100500 => packW w [(F.VDU_ALERT_EN, b2n s.alertEn)]
    | 0x100108 => packW w [(F.VDU_SSTAT_RSV, if (s.st i).admitted then (s.st i).c.rsv else 0), (F.VDU_SSTAT_INUSE, s.inUse i)]
    | 0x100814 => s.rd F.PST_CSTAT_STATE (s.rd F.VDU_PLD_CTRL_CTX i)
    | 0x110400 => maskOf 32 fun k => s.on F.AEU_JSTAT_AT_REST k
    | 0x110404 => maskOf 32 fun k => s.on F.AEU_JSTAT_AT_REST (32 + k)
    | 0x110408 => maskOf 32 fun k => s.on F.AEU_JSTAT_ENC_OK k
    | 0x11040C => maskOf 32 fun k => s.on F.AEU_JSTAT_ENC_OK (32 + k)
    | 0x2000120110 => secOf (s.boot.btLast.getD i 0) % 2 ^ 32
    | 0x2000120114 => secOf (s.boot.btLast.getD i 0) / 2 ^ 32
    | 0x130438 => (match s.ledSel with | some e => e.att | none => 0)
    | 0x13043C =>
      (match s.ledSel with
       | some e => packW 0 [(F.ACB_LED1_STEP, e.step), (F.ACB_LED1_OUTCOME, e.outcome), (F.ACB_LED1_VARIANT, e.variants),
           (F.ACB_LED1_CAUSE, e.cause), (F.ACB_LED1_STREAM, e.stream), (F.ACB_LED1_VALID, 1)]
       | none => 0)
    | 0x130440 => (match s.ledSel with | some e => subNs e.startNs | none => 0)
    | 0x130444 => (match s.ledSel with | some e => secOf e.startNs % 2 ^ 32 | none => 0)
    | 0x130448 => (match s.ledSel with | some e => min e.durUs (allOnes 32) | none => 0)
    | 0x150100 => setBits 8 8 (b2n (decide (i < 24))) w
    | 0x170400 => packW w [(F.KCU_LIFE_LC, s.otp.life)]
    | 0x170404 => packW 0 ((List.range 4).map fun n =>
        (F.KCU_OSLOT_SLOT n, b2n (s.owner n).valid + 2 * b2n (s.owner n).revoked + 4 * b2n (s.blob n).isSome))
    | 0x170408 => leNat ((List.range 4).map fun n => BitVec.ofNat 8 (s.otp.arb.getD n 0))
    | 0x17040C => s.otp.arb.getD 4 0
    | 0x170430 => packW 0 ((List.range 8).map fun n => (F.KCU_SESSST_STATE n, (s.sessOf n).st))
    | 0x170460 => if s.on F.KCU_HVSTAT_AVAIL then s.kcu.hvKey / 2 ^ (32 * i) % 2 ^ 32 else 0
    | 0x180410 => (s.region i).1
    | 0x180414 => (s.region i).2
    | 0x190400 => s.erc.head % 2 ^ 32
    | 0x190404 => s.erc.head / 2 ^ 32
    | 0x190410 =>
      let e := s.shown a
      let hit := match e with | some e => e.eseq == s.ercIdx a | none => false
      packW w [(F.ERC_RSTAT_MATCH, b2n hit), (F.ERC_RSTAT_SNAP, b2n s.erc.snap.isSome),
        (F.ERC_RSTAT_UE, b2n (match e with | some e => e.ue | none => false))]
    | 0x190440 => recWord (s.shown a) (s.ercIdx a) i
    | 0x1B0408 => s.boot.copyA.variant
    | 0x1B0410 => s.boot.copyA.attcnt % 2 ^ 32
    | 0x1B0414 => s.boot.copyA.attcnt / 2 ^ 32
    | 0x1B041C => (s.boot.repairs.filter fun x => bit 31 x).length
    | 0x1B0800 => le (4 * j) 4 (s.ledShown i).bytes
    | _ => w

/-- What a read of an implemented offset returns to an accessor: the live value, WO fields as 0 (R55, R61, R77, R88). -/
def State.readReg (s : State) (a off : Nat) : Nat :=
  let off := off / 4 * 4
  let p := off / 0x10000
  if pageCount ≤ p then 0
  else match s.headRead p (off % 0x10000) with
    | some w => w
    | none =>
      match s.keyOf a off with
      | none => 0
      | some k =>
        match findReg k with
        | none => 0
        | some (r, i, j) =>
          let w := s.view r a i j (s.word r (r.idx a i) j)
          r.fields.foldl (fun w f => if f.acc = .wo then setBits f.hi f.lo 0 w else w) w

/-! ### The status page of a tap port (R134, R255) -/

/-- The 32 bytes of a stream's entry. SEED_FOR and SEED of a stream that is not admitted on this port read 0, also after an UNLOAD and
while a restart holds the stream (DESIGN CHOICE, log 157), and while its seed key waits for its draw (R690; DESIGN CHOICE, log 174). -/
def State.statusEntry (s : State) (p i : Nat) : List Byte :=
  let x := s.st i
  let here := x.admitted && s.portOf i == p
  let nxt := x.seedFor
  natLe 4 (s.rd F.TAP_SNEXTSEQ_SEQ p i) ++
    natLe 4 (b2n here + 2 * b2n (here && x.open_.isSome) + 4 * s.rd F.TAP_SSTAT_BLOCKED p i) ++
    (if here && !x.seedDue then natLe 8 nxt ++ natLe 8 (x.seed nxt) else List.replicate 16 0) ++ List.replicate 8 0

/-- The 4 KiB status page as a read of the port's BAR2 returns it (R131, R134). -/
def State.statusPage (s : State) (p : Nat) : List Byte :=
  natLe 4 (s.rd F.TAP_STAT_PSTATE p + 256 * s.rd F.TAP_STAT_RSCAUSE p) ++ natLe 4 (s.word R.TAP_RSGEN p) ++
    natLe 4 (s.rd F.TAP_CONSPTR_PTR p) ++ natLe 4 (s.rd F.TAP_PNEXTSEQ_SEQ p) ++ List.replicate 240 0 ++
    ((List.range 64).flatMap fun i => s.statusEntry p i) ++ List.replicate 1792 0

end Sys2Proof.Machine
end

