-- ==== Sys2Proof/Machine/Txn.lean ====
section
/-!
DEFINITION. Configuration transactions (R79, R80, R83 to R97): staging, BEGIN, COMMIT and its checks, the boundary, the apply and
its acknowledgement.
-/
namespace Sys2Proof.Machine

/-- State of the transaction (R83): 0 IDLE, 1 OPEN, 2 CHECKING, 3 ARMED, 4 APPLYING. -/
def State.txnSt (s : State) : Nat := s.rd F.GLB_TXN_STAT_STATE

/-! ### Staging (R86, R87, R91) -/

/-- The bits of a register's RWT and ROL fields (R812); of _FLTEN those of the C-class sources (R70). -/
def stagedMask (r : Reg) (i : Nat) : Nat :=
  if r.base = R.HEAD_FLTDIS.base then srcMask i fun l => decide (l = .c)
  else sumNat ((r.fields.filter fun f => f.acc == .rwt || f.acc == .rol).map fun f => setBits f.hi f.lo (allOnes (f.hi + 1 - f.lo)) 0)

/-- A staged image load: the OP of a VDU_PLD_CTRL or MNT_IMG_CTRL entry is LOAD. -/
def loadEntry (key val : Nat) : Bool :=
  (List.range 4).any (fun d => key == R.VDU_PLD_CTRL.key d 0 && bits F.VDU_PLD_CTRL_OP.hi F.VDU_PLD_CTRL_OP.lo val == 1) ||
  (List.range 2).any (fun d => key == R.MNT_IMG_CTRL.key d 0 && bits F.MNT_IMG_CTRL_OP.hi F.MNT_IMG_CTRL_OP.lo val == 1)

/-- A write goes to staging (R86); one that would need entry 4,097, or be a fifth load, is discarded with OVF (R87, R91). -/
def State.stage (s : State) (key val : Nat) : State :=
  let others := s.txn.staging.filter fun e => e.key != key
  let again := s.txn.staging.any fun e => e.key == key
  let loads := (others.filter fun e => loadEntry e.key e.val.toNat).length
  if (!again && decide (4096 ≤ s.txn.staging.length)) || (loadEntry key val && decide (4 ≤ loads)) then
    (s.wr F.GLB_TXN_STAT_OVF 1).raise S.GLB_STG_OVF
  else
    let v := BitVec.ofNat 32 val
    let l := if again then s.txn.staging.map fun e => if e.key == key then { e with val := v } else e
      else s.txn.staging ++ [⟨key, v, 0⟩]
    let s : State := { s with txn := { s.txn with staging := l } }
    s.wr F.GLB_TXN_STAT_NSTG l.length

/-! ### From BEGIN to the checks (R84, R89, R90) -/

/-- TXN_BEGIN (R84). -/
def opTxnBegin (s : State) : State :=
  if s.txnSt ≠ 0 then s.raise S.GLB_TXN_BUSY
  else
    let s : State := { s with txn := { Txn.reset with openAt := s.cyc, timeoutMs := s.rd F.GLB_TXN_TIMEOUT_MS } }
    let s := ((s.wr F.GLB_TXN_STAT_STATE 1).wr F.GLB_TXN_STAT_NSTG 0).wr F.GLB_TXN_STAT_OVF 0
    s.wr F.GLB_TXN_ID_ID (s.rd F.GLB_TXN_ID_ID + 1)

/-- TXN_OPEN_TIMEOUT (R89): time passes to the expiry. -/
def opTxnOpenTimeout (s : State) : State :=
  if s.txnSt ≠ 1 then s
  else ((s.reachCyc s.openEnd).txnEnd 3).raise S.GLB_TXN_TIMEOUT

/-- The commit time that GLB_TXN_TIME holds. -/
def State.commitTime (s : State) : Nat := s.rdTime R.GLB_TXN_TIME_NS R.GLB_TXN_TIME_SEC_LO R.GLB_TXN_TIME_SEC_HI

/-- TXN_COMMIT (R89, R90 steps 1 to 3): `ecc` says that staging memory holds an uncorrectable error. -/
def opTxnCommit (ecc : Bool) (s : State) : State :=
  if s.txnSt = 0 then s.raise S.GLB_TXN_NOOPEN
  else if s.txnSt ≠ 1 then s.raise S.GLB_TXN_BUSY
  else if s.timedOut then (opTxnOpenTimeout s).raise S.GLB_TXN_NOOPEN
  else
    let m := s.rd F.GLB_TXN_BOUND_MODE
    let i := s.rd F.GLB_TXN_BOUND_STREAM
    let t := s.commitTime
    let bad := m == 3 || decide (999999999 < s.word R.GLB_TXN_TIME_NS)
    let keys := (List.range 4).map s.blob
    let s : State := { s with txn := { s.txn with mode := m, stream := i, commitNs := t, blobs := keys } }
    let s := s.wr F.GLB_TXN_STAT_STATE 2
    if s.on F.GLB_TXN_STAT_OVF then s.txnFail 4
    else if ecc then (s.raise S.GLB_STG_ECC).txnFail 13
    else if bad then s.txnFail 7
    else if m = 1 && !(s.st i).admitted then s.txnFail 10
    else s

/-- TXN_ABORT (R97): without a transaction, or with one that a timer has ended, TXN_NOOPEN; from the apply instant on no effect. -/
def opTxnAbort (s : State) : State :=
  if s.txnSt = 0 then s.raise S.GLB_TXN_NOOPEN
  else if s.expired || s.timedOut then (s.txnStop 2).raise S.GLB_TXN_NOOPEN
  else s.txnStop 2

/-- The failure of a check of R90 is recorded: LAST, the faults, and what the image's descriptor reads. -/
def State.checkFailed (s : State) (f : CheckFail) : State :=
  let s := s.when (f.last == 5) fun s => s.raise S.GLB_SIGFAIL
  let s := s.txnFail f.last
  match f.desc with
  | some d => s.descStat d f.result f.reason f.detail
  | none => s

/-! ### The apply (R92, R95) -/

/-- A staged entry reaches its register: only the RWT and ROL bits take the staged value (R812). -/
def State.applyEntry (s : State) (e : StgEntry) : State :=
  match findReg e.key with
  | none => s
  | some (r, i, j) =>
    let m := stagedMask r i
    let v := e.val.toNat
    if r.base = R.HEAD_FLTDIS.base then s.setWord R.HEAD_FLTDIS ((v ^^^ 0xFFFFFFFF) &&& m) i
    else
      let w := s.word r i j
      s.setWord r ((w &&& (m ^^^ 0xFFFFFFFF)) ||| (v &&& m)) i j

/-- What an entry's register holds before the apply. -/
def State.oldOf (s : State) (e : StgEntry) : Word :=
  match findReg e.key with
  | none => 0
  | some (r, i, j) => if r.base = R.HEAD_FLTDIS.base then BitVec.ofNat 32 (s.fltEn i) else BitVec.ofNat 32 (s.word r i j)

/-- Joints whose configuration differs from an earlier state. -/
def State.jointChanged (old s : State) (j : Nat) : Bool :=
  [R.AEU_JCFG, R.AEU_JENC, R.AEU_JPMIN, R.AEU_JPMAX, R.AEU_JVMAX, R.AEU_JAMAX, R.AEU_JJMAX, R.AEU_JABRK, R.AEU_JTIME, R.AEU_JDT,
    R.AEU_JTRK, R.AEU_JKA, R.AEU_JKV, R.AEU_JTQMAX, R.AEU_JREST, R.AEU_JRESTV].any fun r => s.word r j != old.word r j

/-- What each block does as its new values take effect, `old` being the state before; `tes` are the engines whose TE_CTRL was
staged. -/
def State.blocksApply (old s : State) (tes : List Nat) : State :=
  let s := s.when (old.holdT0 != s.holdT0) State.newGrid
  let s := s.when (old.rd F.MNT_STPER_MS != s.rd F.MNT_STPER_MS) State.newSlots
  let s := s.when (old.rd F.SSC_CICADA_HALF != s.rd F.SSC_CICADA_HALF) State.cicadaHalf
  let s := s.each tes fun e s => s.teApply e
  let s := s.upto (fun p s => s.tapEnable p (s.on F.TAP_CTRL_EN p)) 2
  let s := s.upto (fun j s => s.when (old.jointChanged s j) fun s => old.aeuJoint s j) 64
  let s := s.countJoints
  let s := s.when (!s.on F.ACB_CTRL_EN) fun s => s.acbDrop fun _ => true
  let s := (old.netApply s)
  let s := (old.reedApply s).peersResume
  s.pairView

/-- The image that a descriptor's fetch took in. -/
def State.imageOf (s : State) (d : Nat) : List Byte := match s.txn.images.find? fun x => x.1 == d with | some (_, b) => b | none => []

/-- Staged loads whose image was taken in: descriptor and plan. -/
def State.stagedPlans (s : State) : List (Nat × Plan) :=
  (s.descsOf 1).filterMap fun d =>
    match s.txn.images.find? fun x => x.1 == d with
    | some (_, b) => (parsePlan b).map fun p => (d, p)
    | none => none

/-- The apply instant (R92): GLB_TXN_APPLY_*, every staged register, then the unloads, resets and loads (R342 to R344, R813), the
sentinel images, and what the blocks do with their new values. -/
def State.applyTxn (s : State) : State :=
  let at_ := s.cyc
  let old := s
  let s := s.wrTime R.GLB_TXN_APPLY_NS R.GLB_TXN_APPLY_SEC_LO R.GLB_TXN_APPLY_SEC_HI s.ns
  let s := s.wr F.GLB_TXN_STAT_STATE 4
  let s : State := { s with
    txn := { s.txn with applyAt := at_, staging := s.txn.staging.map fun e => { e with old := old.oldOf e } },
    before := some ⟨old.heldNow, old.heldNow⟩ }
  let s := s.each s.txn.staging fun e s => s.applyEntry e
  let unl := (s.descsOf 2).map s.descCtx
  let rst := (s.descsOf 3).map s.descCtx
  let plans := s.stagedPlans
  let s := s.each unl fun c s => s.unloadCtx c
  let s := s.each rst fun c s => s.resetCtx c
  let s := s.each plans fun x s =>
    (s.loadCtx (s.descCtx x.1) (s.descBase x.1) x.2 unl).authImage false (s.descCtx x.1) (s.imageOf x.1)
  let s := (s.sentApply 4).sentApply 5
  let s := (old.blocksApply s ((List.range 4).filter fun e => s.stages R.TE_CTRL e)).settle
  { s with before := s.before.map fun b => { b with post := s.heldNow } }

/-- TXN_CHECKS_DONE (R90 steps 4 to 6, R91): the images that the fetches returned are judged. -/
def opTxnChecksDone (images : List (Nat × List Byte)) (s : State) : State :=
  if s.txnSt ≠ 2 then s
  else
    let ds := (List.range 6).filter fun d => s.descOp d == 1
    match ds.findSome? fun d => s.intake images d with
    | some f => s.checkFailed f
    | none =>
      match s.admission images with
      | some f => s.checkFailed f
      | none =>
        if s.timeReached then s.txnFail 8
        else
          let now := s.cyc
          let s : State := { s with txn := { s.txn with images := images.filter (fun x => ds.contains x.1), armedAt := now } }
          if s.txn.mode = 0 || (s.txn.mode == 1 && (s.st s.txn.stream).open_.isNone) then s.applyTxn
          else s.wr F.GLB_TXN_STAT_STATE 3

/-- The state at the apply instant of MODE TIME: the first cycle that is not before the commit time, or after the step that passed it
(R92, R96). -/
def State.atCommit (s : State) : State :=
  match s.txn.dueAt with
  | some d => s.reachCyc d
  | none => s.reachNs s.txn.commitNs

/-- The commit time comes no later than the armed limit. -/
def State.timeFirst (s : State) : Bool :=
  s.txn.mode == 2 && decide ((if s.timeReached then s.reachedCyc else s.atCommit.cyc) ≤ s.armedEnd)

/-- TXN_ARMED_EXPIRY (R97): time passes to the armed limit; a commit time that comes before it applies instead. -/
def opTxnArmedExpiry (s : State) : State :=
  if s.txnSt ≠ 3 then s
  else if s.timeFirst then s.atCommit.applyTxn
  else (s.reachCyc s.armedEnd).txnFail 9

/-- TXN_APPLY (R92, R96, R97): the boundary is reached. With MODE STREAM no result of the stream is open: that, and no particular
record, is taken as the boundary, so the RETRACT of an earlier result gives none while another is open, and a result that an overrun
closed gives one (DESIGN CHOICE, log 127). With MODE TIME time passes to the commit time, or to the armed limit where that comes first.
A commit whose limit has passed is EXPIRED. -/
def opTxnApply (s : State) : State :=
  if s.expired then s.txnFail 9
  else if s.txnSt = 3 && s.txn.mode == 1 then
    if (s.st s.txn.stream).open_.isNone then s.applyTxn else s
  else opTxnArmedExpiry s

/-- The parser has dispatched END_RESULT or RETRACT of the stream that an ARMED commit waits for, or is about to dispatch its
next BEGIN_RESULT: the commit applies (R92). -/
def State.streamBoundary (s : State) (i : Nat) : State :=
  if s.txnSt = 3 && s.txn.mode = 1 && s.txn.stream = i then opTxnApply s else s

/-- A register of a page that did not acknowledge holds its old or its new value: a free value (R95). -/
def State.undoFree (s : State) (e : StgEntry) : State :=
  let b := s.fresh 1
  let s := s.drew
  if b = 1 then s.applyEntry { e with val := e.old } else s

/-- Pages of blocks that act together on what they hold (R95): a tap port, the tally engines, the action envelope, the time base with
bridge and check values, and the Reed block. -/
def actsWith (p : Nat) : List Nat :=
  if p = 6 || p = 7 || p = 17 || p = 22 then [p]
  else if 8 ≤ p && p ≤ 11 then [8, 9, 10, 11]
  else if p = 4 || p = 20 || p = 21 then [4, 20, 21]
  else []

/-- What the blocks of a page hold has not moved since the apply instant (R95). -/
def State.unmoved (b : Before) (s : State) (p : Nat) : Bool :=
  if p = 6 || p = 7 then s.tap p == b.post.taps.getD (p - 6) TapPort.reset
  else if p = 17 then s.joints == b.post.joints
  else if p = 22 then s.reed == b.post.reed
  else if (actsWith p).contains 8 then s.tes == b.post.tes && s.lqs == b.post.lqs
  else (actsWith p).contains 20 && s.tsn == b.post.tsn

/-- The blocks of the listed pages have not acted: they hold what they held before the apply instant (R92, R95), and so do the read-only
registers of their pages that nothing has written since. -/
def State.notActed (b : Before) (ps : List Nat) (s : State) : State :=
  let has := ps.contains
  let old : State := { s with regs := b.pre.regs }
  let s : State := { s with
    taps := s.taps.mapIdx fun k x => if has (6 + k) then b.pre.taps.getD k x else x,
    joints := if has 17 then b.pre.joints else s.joints, reed := if has 22 then b.pre.reed else s.reed,
    tes := if has 8 then b.pre.tes else s.tes, lqs := if has 8 then b.pre.lqs else s.lqs,
    tsn := if has 20 then b.pre.tsn else s.tsn }
  s.each (((b.pre.regs ++ b.post.regs).map (·.1)).filter fun k =>
      has (keyPage k) && decide (Store.look s.regs k = Store.look b.post.regs k)).eraseDups fun k s =>
    match findReg k with
    | some (r, i, j) => s.when (r.fields.all fun f => f.acc == .ro) fun s => s.setWord r (old.word r i j) i j
    | none => s

/-- APPLY_INCOMPLETE (R95): the pages named did not acknowledge within 2 µs of the apply instant. Each block acts on what its registers
turn out to hold: what it has not done since is taken back, and done on those values. Where it has taken something in since, it only
acts on the values that differ; the loads of images stay as the apply left them, for other blocks, which acknowledged, have acted on
them too (DESIGN CHOICE, log 93). -/
def opApplyIncomplete (late : List Nat) (s : State) : State :=
  if s.txnSt ≠ 4 then s
  else
    let s := s.reachCyc (s.txn.applyAt + usC 2)
    let es := s.txn.staging.filter fun e => late.contains (keyPage e.key)
    let back := match s.before with
      | some b => ((es.map fun (e : StgEntry) => actsWith (keyPage e.key)).flatten.eraseDups).filter fun p => s.unmoved b p
      | none => []
    let s := match s.before with
      | some b => s.notActed b back
      | none => s
    let was := s.each (s.txn.staging.filter fun e => back.contains (keyPage e.key)) fun e s => s.applyEntry ({ e with val := e.old } : StgEntry)
    let s := s.each es fun e s => s.undoFree e
    let s := was.blocksApply s ((List.range 4).filter fun e => back.contains 8 && s.stages R.TE_CTRL e)
    (s.raise S.GLB_APPLY_INCOMPLETE).txnFail 14

/-- TXN_APPLY_ACKED (R83, R92): LAST is DONE and staging is empty. One that comes after the bound of R92 finds the transaction
INCOMPLETE (R95): any page that it staged may have been late (DESIGN CHOICE, log 93). -/
def opTxnApplyAcked (s : State) : State :=
  if s.txnSt ≠ 4 then s
  else if s.cyc ≤ s.txn.applyAt + usC 2 then s.txnEnd 1
  else opApplyIncomplete (s.txn.staging.map fun e => keyPage e.key) s

/-- GLB_LOCK (R79, R80): the lock takes effect now, or when the running transaction ends. -/
def opGlbLock (s : State) : State :=
  if s.txnSt = 0 then s.wr F.GLB_LOCK_LOCKED 1
  else if s.on F.GLB_LOCK_LOCKED then s
  else s.wr F.GLB_LOCK_PENDING 1

end Sys2Proof.Machine
end

