-- ==== Sys2Proof/Machine/Fault.lean ====
section
/-!
DEFINITION. Fault reports as the environment brings them: what the affected unit does (the tables of sources of every page, R46,
R529), acknowledgement (R526), and block resets (R67).
-/
namespace Sys2Proof.Machine

/-- A fault report with what it names beside its source (R523, R549). Which unit `unit` and `ref` are follows from the source: a
reader of `poisonRead` for a check, a matrix's site for the PST, an ACB entry's identifier, an egress queue, a retention
entry, a record's ESEQ, a ledger copy or repair record, or an address of the LPDDR5X. -/
structure Occ where
  page : Nat
  src : Nat
  chan : Nat
  stream : Option Nat
  unit : Nat
  ref : Nat
  inj : Bool
deriving DecidableEq, Repr

/-! ### Affected units -/

/-- The running head job of a queue read a poisoned word (R46): it is replayed once, and ends NOT DONE the second time. -/
def State.poisonJob (s : State) (q : Nat) : State :=
  match (s.lq q).jobs with
  | j :: _ =>
    if !j.started then s else if j.replay || j.again then s.jobNd q else s.restartHead q fun j => { j with again := true }
  | [] => s

/-- The running SAR job of an engine read a poisoned word (R46): it runs once more, then ends NOT DONE. -/
def State.poisonSar (s : State) (e : Nat) : State :=
  match (s.sh e).run with
  | none => s
  | some j =>
    if j.again then
      let s := (s.updSh e fun x => { x with run := none }).inc F.SH_SARJOBS_N e
      ((s.chkReport j.stream j.resseq j.chk 7 2 0 0 false).sarSignal e j).freeBanks j.stream
    else s.updSh e fun x => { x with run := some { j with again := true } }

/-- Judgements of a joint that still wait end NOT DONE (R487). -/
def State.dropJudge (s : State) (j : Nat) : State :=
  let waits := s.slots.filter fun r => !r.formed && !r.out.any (fun o => o.1 == actKey) &&
    r.acts.any fun a => !a.judged && a.ents.any fun e => e.1 == j
  s.each waits fun r s => s.chkReport r.stream r.resseq actKey 10 2 0 j false

/-- A result's record is formed UNVERIFIED with cause INTERNAL (R360, R391). -/
def State.internalErr (s : State) (i q : Nat) : State := s.updSlot i q fun r => { r with internal := true }

/-- A key is lost and zeroised (R692), by kind: 0 a sign key or 7 a residue key of a matrix, whose checks end NOT DONE until the re-key that is
queued; 1 a session's; 2 a link's; 3 the host verdict key; 4 KS; 5 KA; 6 a stream's seed key; 8 the transfer keys of a site; 9 the audit keys;
else the root and identity keys. R692 names what follows for the first of them only (DESIGN CHOICE, log 175). -/
def State.keyLost (s : State) (kind chan unit : Nat) : State :=
  match kind with
  | 0 | 7 => (s.updMat chan unit fun m => { m with keys := m.keys.map fun _ => 0, vecs := m.vecs.map fun v => { v with key := 0 } }).poisonMat chan unit
  | 1 => s.sessNone (chan % 8)
  | 2 => s.when (s.rUp (chan % 4)) fun s => (s.portLost (chan % 4) 1).inc F.REED_PRETRAIN_N (chan % 4)
  | 3 => s.drawHv
  | 4 => s.updKcu fun k => { k with ks := 0 }
  | 5 => s.updKcu fun k => { k with ka := 0 }
  | 6 => s.updSt (chan % 64) fun x => { x with seedKey := 0 }
  | 8 =>
    let keep (k : XKey) : Bool := k.purpose != 1 || k.site != unit
    s.updReed fun r => { r with sent := r.sent.filter keep, recv := r.recv.filter keep }
  | 9 =>
    let keep (k : XKey) : Bool := k.purpose != 2
    s.updReed fun r => { r with sent := r.sent.filter keep, recv := r.recv.filter keep }
  | _ => s.updKcu fun k => { k with drk := 0, idEc := 0, idPq := 0 }

/-- The check that a reader makes of a result ends NOT DONE, where it has been issued and has no outcome yet. -/
def State.endCheck (s : State) (i q key kind : Nat) : State :=
  match s.slotOf i q with
  | some r => s.when (!r.formed && r.issued.contains key && !r.out.any fun o => o.1 == key) fun s => s.chkReport i q key kind 2 0 0 false
  | none => s

/-- A reader meets a word that is lost (R46, R190, R709, R784): a job of a queue (0 to 47) or the SAR job that a Mantis engine runs
(48, 49), replayed once; or the BIND (64) or ACT (65) check of a result, which is judged only once. -/
def State.poisonRead (s : State) (unit : Nat) (stream : Option Nat) (ref : Nat) : State :=
  if unit < 48 then s.poisonJob unit
  else if unit = 48 || unit = 49 then s.poisonSar (unit - 48)
  else
    match stream with
    | some i => if unit = 64 then s.endCheck i ref bindKey 9 else if unit = 65 then s.endCheck i ref actKey 10 else s
    | none => s

/-- An uncorrectable word of the LPDDR5X (R784): in KVC and AUD the reading check is treated as R46 says; elsewhere the reader's
authentication fails. -/
def State.dramUe (s : State) (addr unit : Nat) : State :=
  let s := (s.inc F.MEM_NUE_N).wr64 R.MEM_LASTUE_LO R.MEM_LASTUE_HI addr
  let kv := (s.region 3).1 * 2 ^ 20
  s.when (decide (kv ≤ addr)) fun s => s.poisonRead unit none 0

/-- A word of the local buffer is lost (R46, R324): a program-cache word (`ref` 1) only ends the check NOT DONE. -/
def State.lbufUe (s : State) (q ref : Nat) : State := if ref = 1 then s.jobNd q else s.poisonJob q

/-- The first frame of an egress queue is discarded (R643). -/
def State.dropFrame (s : State) (p q : Nat) : State :=
  match (s.ethSt p).queues.getD q [] with
  | [] => s
  | f :: _ =>
    let s := s.eth p fun x => { x with queues := updAt (fun (l : List QFrame) => l.drop 1) q x.queues }
    (s.inc F.TSN_PDROP_N p).tsnDrop f.verdict

/-- An uncorrectable word of the ledger bank (R777): of ledger copy A (0) or B (1), for which the other copy stands; or of repair
record `ref`, which is ignored: its VALID reads 0 (DEDUCED, log 122). -/
def State.ledgerUe (s : State) (unit ref : Nat) : State :=
  match unit with
  | 0 => { s with boot := { s.boot with copyA := s.boot.copyB } }
  | 1 => { s with boot := { s.boot with copyB := s.boot.copyA } }
  | _ => { s with boot := { s.boot with repairs := updAt (fun r => r % 2 ^ 31) ref s.boot.repairs } }

/-- The affected unit of a source takes the reaction that the table of its page states; a source that a command of its own raises
takes the part of it that needs no more than the report. -/
def State.unitReaction (s : State) (o : Occ) : State :=
  match o.page, o.src with
  | 6, 17 | 7, 17 => s.poisonRead o.unit o.stream o.ref
  | 15, 1 => s.poisonMat o.chan o.unit
  | 15, 2 => ((s.rekeyQueue o.chan o.unit true).1).jobNd o.ref
  | 15, 6 => s.updMat o.chan o.unit fun m => { m with expired := true }
  | 15, 9 => s.updMat o.chan o.unit fun m => { m with range := true }
  | 8, 0 | 9, 0 | 10, 0 | 11, 0 => s.teOut (o.page - 8) 0
  | 8, 2 | 9, 2 | 10, 2 | 11, 2 => s.lbufUe o.unit o.ref
  | 8, 3 | 9, 3 | 10, 3 | 11, 3 | 8, 4 | 9, 4 | 10, 4 | 11, 4 | 8, 5 | 9, 5 | 10, 5 | 11, 5 => s.jobNd o.unit
  | 8, 6 | 9, 6 | 10, 6 | 11, 6 => s.teOut (o.page - 8) 6
  | 8, 7 | 9, 7 | 10, 7 | 11, 7 => s.loseQueue o.unit
  | 16, 4 | 16, 6 => (match o.stream with | some i => s.internalErr i o.ref | none => s)
  | 16, 5 => (match o.stream with | some i => s.updSt i fun x => { x with retBad := o.ref :: x.retBad } | none => s)
  | 5, 0 => s.wr F.SEM_SSTAT_OVF 1 o.chan
  | 5, 3 | 5, 6 => s.when (s.rd F.SEM_SSTAT_STATE o.chan == 1) fun s => (s.semAbandon o.chan).freeAll
  | 12, 1 | 13, 1 => s.poisonSar (o.page - 12)
  | 12, 2 | 13, 2 => s.cksumSeen (o.page - 12)
  | 12, 3 | 13, 3 => s.shOutBy (o.page - 12) 3
  | 14, 0 | 14, 1 | 14, 2 | 14, 4 => s.when (decide (2 ≤ s.pair) && decide (s.pair ≤ 4)) fun s => s.toProbe
  | 14, 9 => s.when s.mnt.step.isSome fun s => s.updMnt fun m => { m with reload := true }
  | 17, 3 => (s.reseed o.chan).dropJudge o.chan
  | 18, 0 => s.when (decide (o.chan < 32)) fun s => s.dciState o.chan 4
  | 18, 5 => s.when (decide (32 ≤ o.chan)) fun s => s.wr F.SBO_STAT_BTFAILED 1 (o.chan - 32)
  | 18, 7 => s.when (decide (32 ≤ o.chan)) fun s =>
    (s.wr F.SBO_STAT_OVERDUE 1 (o.chan - 32)).updSbo (o.chan - 32) fun x => { x with overdue := true }
  | 19, 3 => s.acbFail 3
  | 19, 4 => s.acbFail 4
  | 19, 5 => s.acbFail 5
  | 19, 9 =>
    (match s.acb.table.find? fun e => e.cmdid == o.unit with
     | some e => (s.markOpen e.stream).acbDrop fun x => x == e
     | none => s)
  | 20, 6 => s.dropFrame o.chan o.unit
  | 22, 3 => s.portLost o.chan 0 |>.rport o.chan fun r => { r with keyFail := true }
  | 22, 11 =>
    (match s.reed.ports[o.chan]? with
     | some r => if r.nak then s else (s.rport o.chan fun r => { r with nak := true }).rplain o.chan 1
     | none => s)
  | 23, 0 => s.wr F.KCU_STAT_DRBG 2
  | 23, 1 => s.wr F.KCU_STAT_DRBG 3
  | 23, 9 => s.keyLost o.ref o.chan o.unit
  | 1, 3 =>
    if 2 ≤ o.chan && o.chan ≤ 5 then s.freqOut (o.chan - 2)
    else if o.chan = 6 || o.chan = 7 then s.shOutBy (o.chan - 6) 16
    else s
  | 1, 6 => { s with clk := { s.clk with stopped := true } }
  | 1, 7 => s.wr F.CLK_TS_EXCL 1 o.chan
  | 25, 1 => { s with erc := { s.erc with mram := mapIf (fun r => r.eseq == o.ref) (fun r => { r with ue := true }) s.erc.mram } }
  | 24, 0 => s.inc F.MEM_NCE_N
  | 23, 7 => s.poisonRead o.unit o.stream o.ref
  | 24, 1 => s.dramUe o.ref o.unit
  | 24, 2 => s.wr F.MEM_STAT_DERATE 1
  | 27, 1 => s.ledgerUe o.unit o.ref
  | _, _ => s

/-- Whether a report of an output's fault, which takes the output to FAULT as it is raised (R499 to R501). -/
def Occ.sboCause (o : Occ) : Option Nat :=
  if o.page = 18 && 32 ≤ o.chan then (match o.src with | 2 => some 1 | 3 => some 2 | 4 => some 3 | _ => none) else none

/-- Whether the report marks its stream's open results incomplete (R529): a U-class source whose table names a stream and states no
other reaction for it. Sources of another class leave it to the FCU. -/
def Occ.marks (o : Occ) : Bool :=
  decide ((⟨o.page, o.src⟩ : Src).cls ≠ .u) ||
  match o.page, o.src with
  | 6, 6 | 7, 6 | 6, 8 | 7, 8 | 6, 9 | 7, 9 | 5, 2 | 19, 0 | 19, 1 | 19, 9 | 22, 8 => true
  | _, _ => false

/-- The source of a mismatch of the Mantis comparator is the one that the pair's state gives (R432). -/
def State.mismatch (s : State) (o : Occ) : Occ :=
  if !o.inj && o.page = 14 && o.src ≤ 1 && decide (2 ≤ s.pair) && decide (s.pair ≤ 4) then { o with src := s.cmpSrc.num } else o

/-- FAULT_OCCURRENCE (R523 to R530, R550): a report is consumed by its expected injection, or reacted to. A report of one of the
additional checkers of R548 reaches only the FCU. A report with INJ set comes from the injected check, with which the window of
its entry opens. -/
def opFaultOccurrence (o : Occ) (s : State) : State :=
  let o := s.mismatch o
  let s := s.when o.inj fun s => s.injected o.page o.src o.chan
  let r : Report :=
    { src := ⟨o.page, o.src⟩, chan := o.chan, stream := o.stream, unit := o.unit, ref := o.ref, inj := o.inj, mark := o.marks }
  let used := o.inj && (s.consumer r).isSome
  if used then s.report r
  else if nsrc o.page ≤ o.src then s
  else
    match o.sboCause with
    | some c => (s.sboLater (o.chan - 32) c).settle
    | none =>
      let s := ((s.report r).unitReaction o).settle
      s.when (decide (8 ≤ o.page) && decide (o.page ≤ 13)) fun s => s.watch

/-! ### Acknowledgement (R526) -/

/-- Any index below `n` satisfies a condition. -/
def anyBelow (n : Nat) (f : Nat → Bool) : Bool := (List.range n).any f

/-- Whether the cause of a source persists (R428, R487, R503, R510, R522, R526). -/
def State.causeHolds (s : State) (x : Src) : Bool :=
  if x.cls = .f then !(x == S.MNT_HOLD_FAIL || x == S.SSC_RESTART_TO)
  else
    match x.page, x.num with
    | 8, n | 9, n | 10, n | 11, n =>
      s.roleOf (x.page - 8) == 6 &&
        ((n == 0 || n == 6) && s.rd F.TE_OUTCAUSE_SRC (x.page - 8) == n ||
          n == 6 && s.rd F.TE_OUTCAUSE_SRC (x.page - 8) == 3 && s.rd F.TE_STLAST_PHASE (x.page - 8) != 0)
    | 12, n | 13, n => (s.sh (x.page - 12)).causes.contains n
    | 14, 10 => decide (5 ≤ s.pair)
    | 15, 6 => anyBelow 16 fun c => (s.ctx c).mats.any (·.expired)
    | 17, 0 => anyBelow 64 fun j => s.on F.AEU_JSTAT_CFGBAD j
    | 18, 0 => anyBelow 32 fun n => s.rd F.DCI_STAT_STATE n == 4
    | 18, 2 => anyBelow 24 fun k => (s.sbo k).pend == some 1 || s.rd F.SBO_STAT_STATE k == 2 && (s.sbo k).cause == 1
    | 18, 3 => anyBelow 24 fun k => (s.sbo k).pend == some 2 || s.rd F.SBO_STAT_STATE k == 2 && (s.sbo k).cause == 2
    | 18, 4 => anyBelow 24 fun k => (s.rd F.SBO_STAT_STATE k == 2 && (s.sbo k).cause == 3) || (s.sbo k).raised
    | 18, 5 => anyBelow 24 fun k => s.on F.SBO_STAT_BTFAILED k
    | 18, 6 => anyBelow 24 fun k => s.on F.SBO_STAT_DUE k
    | 18, 7 => anyBelow 24 fun k => s.on F.SBO_STAT_OVERDUE k
    | 18, 9 => (anyBelow 32 fun n => (s.dci n).bad) || anyBelow 24 fun k => (s.sbo k).bad
    | 22, 3 => anyBelow 4 fun p => match s.reed.ports[p]? with | some r => r.keyFail | none => false
    | 1, 3 =>
      anyBelow 4 (fun e => s.roleOf e == 6 && s.rd F.TE_OUTCAUSE_SRC e == 3) || anyBelow 2 fun e => (s.sh e).causes.contains 16
    | 1, 7 => anyBelow 8 fun k => s.on F.CLK_TS_EXCL k
    | _, _ => false

/-- The level of a source after `n` occurrences that find its bit clear (R524). -/
def Src.levelAfter (x : Src) : Nat → Level
  | 0 => .none
  | 1 => x.cls
  | n + 1 => (x.levelAfter n).above

/-- One source is acknowledged: its bit clears and its level is none; where its cause persists the bit sets again at the class
level, without a reaction, a record or an interrupt. MANTIS_DEGRADED alone is raised again. Occurrences of the same cycle come after the
W1C and stay, at the levels that they then take (R524); what an occurrence that stood before it in the queue has set off already stays
done (log 145). -/
def State.ack (s : State) (x : Src) : State :=
  if !s.flt x then s
  else
    let n := s.countNow x
    let s := ((s.setFlt x false).setLevel x .none).noteAck x
    if n ≠ 0 then (s.setFlt x true).setLevel x (x.levelAfter n)
    else if !s.causeHolds x then s
    else if x = S.MNT_MANTIS_DEGRADED then s.raise x
    else (s.setFlt x true).setLevel x x.cls

/-- FAULT_ACK (R61, R69, R526): a W1C of a page's _FLT. -/
def opFaultAck (p mask : Nat) (s : State) : State :=
  s.upto (fun n s => s.when (bit n mask) fun s => s.ack ⟨p, n⟩) (nsrc p)

/-! ### Block resets (R67) -/

/-- BLK_RST (R40, R67, R153, R459, R680): on the pages that implement it. It completes at once; _CTRL.BLK_RST and _STAT.RST_BUSY
read 0 again after it. -/
def opBlkRst (p : Nat) (s : State) : State :=
  match p with
  | 6 | 7 => ((s.setWord R.TAP_LASTBAD 0 (p - 6)).tapRestart (p - 6) 0).watch
  | 8 | 9 | 10 | 11 => (s.teReset (p - 8)).settle.watch
  | 12 | 13 => (s.shReset (p - 12)).settle.watch
  | 22 => s.reedReset.settle.watch
  | _ => s

end Sys2Proof.Machine
end

