-- ==== Sys2Proof/Machine/Host.lean ====
section
/-!
DEFINITION. Register writes as an accessor makes them (R55 to R62, R73, R76 to R80, R85 to R87, R724, R812): field by field, each
action field leading to the operation of the command that names it.
-/
namespace Sys2Proof.Machine

/-- The clock domain of a page (R718). -/
def pageDomain (p : Nat) : Nat :=
  [1, 0, 0, 0, 0, 14, 12, 13, 2, 3, 4, 5, 6, 7, 8, 9, 11, 36, 0, 37, 18, 19, 32, 15, 16, 38, 1, 38].getD p 1

/-- A write to a page whose domain a power state has stopped is discarded with ACCESS (R724). -/
def State.onPage (s : State) (p : Nat) (f : State → State) : State := if s.domPstop (pageDomain p) then s.access else f s

/-- The fields of a register with the given access types take the bits of a written word, each held within its stated limits. -/
def Reg.store (r : Reg) (as : List Acc) (v w : Nat) : Nat :=
  (r.fields.filter fun f => as.contains f.acc).foldl (fun w f =>
    let x := bits f.hi f.lo v
    let x := match f.min with | some m => max m x | none => x
    let x := match f.max with | some m => min m x | none => x
    setBits f.hi f.lo x w) w

/-! ### RWT and ROL bits (R79, R85 to R87, R812) -/

/-- The ROL bits of a register. -/
def rolMask (r : Reg) : Nat :=
  sumNat ((r.fields.filter fun f => f.acc == .rol).map fun f => setBits f.hi f.lo (allOnes (f.hi + 1 - f.lo)) 0)

/-- The RWT and ROL bits of a write. -/
def State.stagedWrite (s : State) (r : Reg) (i j v : Nat) : State :=
  let m := stagedMask r i
  let head := r.base == R.HEAD_FLTDIS.base
  let key := r.key i j
  let live := if head then s.fltEn i else if r.base = 0x100100 || r.base = 0x100500 then s.view r 0 i j (s.word r i j) else s.word r i j
  let ref := match (if s.txnSt = 1 then s.txn.staging.find? fun e => e.key == key else none) with
    | some e => e.val.toNat
    | none => live
  let rol := if s.on F.GLB_LOCK_LOCKED then rolMask r else 0
  let s := if (v ^^^ live) &&& rol = 0 then s else s.raise S.GLB_LOCKWR
  let v := (v &&& (rol ^^^ 0xFFFFFFFF)) ||| (ref &&& rol)
  if (v ^^^ ref) &&& m = 0 then s
  else
    match s.txnSt with
    | 0 => s.raise S.GLB_TXN_NOOPEN
    | 1 => s.stage key ((if head then v else r.store [.rwt, .rol] v 0) &&& m)
    | _ => s.raise S.GLB_TXN_BUSY

/-! ### Action fields -/

/-- An action where a bit of the written word is 1. -/
def State.bitAct (s : State) (v n : Nat) (f : State → State) : State := s.when (bit n v) f

/-- The RW fields with an effect of their own, and the W1S and WO fields, of a written register: `a` is the accessor, `mem` what a
read of host memory that the action makes returns. -/
def State.regAct (s : State) (a : Nat) (r : Reg) (i j v : Nat) (mem : List Byte) : State :=
  match r.base with
  | 0x10 => opFaultAck i v s
  | 0x20 => s.bitAct v 31 (opInjArm i (bits 4 0 v) (bits 23 8 v))
  | 0x41C => s.bitAct v 0 opGlbLock
  | 0x420 => (match v % 4 with | 1 => opTxnBegin s | 2 => opTxnCommit false s | 3 => opTxnAbort s | _ => s)
  | 0x10400 => opPwrRequest (v % 4) s
  | 0x10438 => s.bitAct v 0 opClkClr
  | 0x20438 => (s.bitAct v 0 opFcuClr).bitAct v 1 opClrfirst
  | 0x30408 => opSscRel (v % 256) s
  | 0x3041C => s.bitAct v 0 opSscClr
  | 0x40410 => s.writeRate v
  | 0x40414 => s.writeStepNs v
  | 0x4041C => s.bitAct v 0 opTbuStep
  | 0x40438 => s.bitAct v 0 opTbuClr
  | 0x50104 => (s.bitAct v 0 (opSemInit i)).bitAct v 1 (opSemAbandon i)
  | 0x5045C => s.bitAct v 0 opSemClr
  | 0x60008 =>
    let q := bit 8 v
    let held := s.on F.TAP_CTRL_QUIESCE i
    let s := if q && !held then (opQuiesceSet i s).watch else if !q && (held || s.on F.TAP_STAT_ACB_Q i) then opQuiesceClear i s else s
    (s.bitAct v 1 (opBlkRst (6 + i))).bitAct v 9 fun s => (opFlush i s).watch
  | 0x6013C => s.bitAct v 0 (opTapSclr i j)
  | 0x60440 => s.bitAct v 0 (opTapClr i)
  | 0x80008 => s.bitAct v 1 (opBlkRst (8 + i))
  | 0x804B0 => s.bitAct v 0 (opTeClr i)
  | 0xC0008 => (s.bitAct v 1 (opBlkRst (12 + i))).bitAct v 8 (opShReturn i)
  | 0xC041C => s.bitAct v 0 (opShClr i)
  | 0xE0008 => ((s.bitAct v 9 opHoldRelease).bitAct v 8 opHoldReq).bitAct v 10 opSplitReq
  | 0xE0438 => s.bitAct v 0 opMntClr
  | 0xF0128 => (s.bitAct v 0 (opRekeyAll i)).bitAct v 1 fun s => (opAbortKeyup i s).watch
  | 0xF0428 => s.bitAct v 0 opPstClr
  | 0x100100 => s.bitAct v 0 (opCtxrst i)
  | 0x100130 => s.bitAct v 0 (opVduSclr i)
  | 0x10050C => s.bitAct v 0 opVduClr
  | 0x110154 => s.bitAct v 0 (opReseed i)
  | 0x11041C => s.bitAct v 0 opAeuClr
  | 0x120114 => s.bitAct v 0 (opDciSclr i)
  | 0x2000120118 => s.bitAct v 0 (opRelatch i)
  | 0x120414 => (s.bitAct v 0 (opGroupOn i)).bitAct v 1 (opGroupOff i)
  | 0x120508 =>
    if bit 8 v && s.btRefused (v % 32) then s.access
    else ((s.wr F.SIO_BTCMD_OUT (v % 32)).bitAct v 8 (opBtStart (v % 32))).bitAct v 9 opBtAbort
  | 0x130008 => opAccRun (bit 8 v) s
  | 0x130110 => s.bitAct v 0 (opAcbCclr i)
  | 0x13042C => ((s.bitAct v 0 opReplayDone).bitAct v 1 opClrskip).bitAct v 2 opClrreload
  | 0x130450 => s.bitAct v 0 opAcbClr
  | 0x140150 => s.bitAct v 0 (opTsnPclr i)
  | 0x140410 => s.bitAct v 0 opTsnClr
  | 0x14600C => s.bitAct v 0 (opUnblock i)
  | 0x15010C => (s.bitAct v 0 (opCvuStart i)).bitAct v 1 (opCvuFinish i)
  | 0x150110 => opCvuData i (BitVec.ofNat 32 v) s
  | 0x150114 => opCvuDatab i (BitVec.ofNat 8 v) s
  | 0x150118 => opCvuRun i false (BitVec.ofNat 32 v) s
  | 0x15011C => opCvuRun i true (BitVec.ofNat 32 v) s
  | 0x160008 => s.bitAct v 1 (opBlkRst 22)
  | 0x160128 => s.bitAct v 0 (opReedPclr i)
  | 0x160438 => s.bitAct v 0 opReedClr
  | 0x170410 =>
    if bit 31 v then opArbadv (v % 8) (bits 15 8 v) s
    else (s.wr F.KCU_ARBADV_CTR (v % 8)).wr F.KCU_ARBADV_VALUE (bits 15 8 v)
  | 0x17041C =>
    (match v % 8 with
     | 1 => opLoadkey (bits 5 4 v) mem s
     | 2 => opLoadendo (bits 10 8 v) mem s
     | 3 => opRevoke mem s
     | 4 => opProgslot (bits 5 4 v) mem s
     | _ => s)
  | 0x17042C => ((s.bitAct v 8 (opHsStart (v % 8))).bitAct v 9 (opHsResp (v % 8) mem)).bitAct v 10 (opHsDrop (v % 8))
  | 0x1704B0 => s.bitAct v 0 opQuote
  | 0x1704C0 => s.bitAct v 0 opKcuClr
  | 0x180450 => s.bitAct v 0 opMemClr
  | 0x190408 => s.writeIdx a false v
  | 0x19040C => s.writeIdx a true v
  | 0x190498 => (s.bitAct v 0 (opAppend a false)).bitAct v 1 (opReplace a false)
  | 0x1904E0 => s.bitAct v 0 opErcClr
  | 0x1A044C => s.bitAct v 0 opMnaClr
  | 0x1B0404 => opBootWrst (v % 256) s
  | 0x1B040C => s.bitAct v 0 opClrvar
  | _ => s

/-- Registers whose RW fields take their value in `regAct` alone. -/
def ownWrite (b : Nat) : Bool :=
  [0x10400, 0x40410, 0x40414, 0x60008, 0x120508, 0x130008, 0x150118, 0x15011C, 0x170410, 0x190408, 0x19040C].contains b

/-! ### A write (R55, R56, R60, R76 to R78, R812) -/

/-- Head registers without a writable field (R63). -/
def headRo (o : Nat) : Bool := [0x00, 0x04, 0x0C, 0x18, 0x1C, 0x24, 0x44].contains o

/-- Whether an accessor may write an offset (R60): 0 PF0, 1 the service port, 2 JTAG. -/
def mayWrite (a off : Nat) : Bool :=
  match a with
  | 0 => true
  | 1 => off == 0x190408 || off == 0x19040C || (decide (0x190480 ≤ off) && decide (off < 0x19049C))
  | _ => off != 0x420 && off != 0x41C

/-- A register is written. -/
def State.writeFound (s : State) (a : Nat) (r : Reg) (i j v : Nat) (mem : List Byte) : State :=
  if r.base / 0x10000 = 0x15 && 0x100 ≤ r.base % 0x10000 && r.base % 0x10000 < 0x400 && i < 24 then s.access
  else
    let s := if ownWrite r.base then s else s.setWord r (r.store [.rw] v (s.word r (r.idx a i) j)) (r.idx a i) j
    let s := s.stagedWrite r i j v
    s.regAct a r i j v mem

/-- A write of one whole word by an accessor. -/
def State.regWrite (s : State) (a off v : Nat) (mem : List Byte) : State :=
  let off := off / 4 * 4
  let p := off / 0x10000
  if !mayWrite a off then s.access
  else if pageCount ≤ p then s.raise S.GLB_UNMAPPED
  else
    s.onPage p fun s =>
      if headRo (off % 0x10000) then s
      else
        match s.keyOf a off with
        | none => s.access
        | some k =>
          match findReg k with
          | none => s.raise S.GLB_UNMAPPED
          | some (r, i, j) => s.writeFound a r i j v mem

/-- Whether a memory request reaches PF0's BAR0 (R789, R790). -/
def State.pf0Open (s : State) : Bool := s.host.linkUp && s.host.d0.getD 0 false && s.on F.BOOT_STAT_READY

/-- REG_WRITE (R56, R812): a write of PF0. `full` says that its byte enables cover every byte of each word. -/
def opRegWrite (off v : Nat) (full : Bool) (mem : List Byte) (s : State) : State :=
  if !s.pf0Open then s
  else if !full then s.access
  else s.regWrite 0 off v mem

end Sys2Proof.Machine
end

