-- ==== Sys2Proof/Machine/Svc.lean ====
section
/-!
DEFINITION. The service SPI port (R794, R795) and the test port (R710, R796, R797).
-/
namespace Sys2Proof.Config

/-- Lengths of the boundary-scan chain and of the internal scan chains, whose layouts the spec leaves to others (R796). -/
opaque boundaryLen : Nat
opaque scanLen : Nat

end Sys2Proof.Config

namespace Sys2Proof.Machine

/-! ### Service frames -/

/-- The first eight bytes of a frame (R794); CH is big-endian, as ADDR is. -/
def svcHead (op addr ch nw b7 : Nat) : List Byte := natBe 1 op ++ natBe 3 addr ++ natBe 2 ch ++ natBe 1 nw ++ natBe 1 b7

/-- Pages that the service port may read (R60). -/
def svcPage (p : Nat) : Bool := [0, 2, 3, 27, 25].contains p

/-- CH reaches the service port's own _CHSEL of the page; 0xFFFF leaves it unchanged. -/
def State.svcChsel (s : State) (addr ch : Nat) : State :=
  if ch = 0xFFFF || pageCount ≤ addr / 0x10000 then s else s.wr F.HEAD_CHSEL_CH ch 1 (addr / 0x10000)

/-- A word that a READ returns: 0 where the service port has no right (R60). -/
def State.svcWord (s : State) (off : Nat) : Nat := if svcPage (off / 0x10000) then s.readReg 1 off else 0

/-- The service port is open: from B9 on, and in STUCK (R755, R758). A frame before that finds no target. -/
def State.svcOpen (s : State) : Bool := s.on F.BOOT_STAT_READY || s.on F.BOOT_STAT_STUCK

/-- SVC_READ (R795): data, CRC and STATUS leave. -/
def opSvcRead (addr ch nw b7 : Nat) (s : State) : State :=
  if !s.svcOpen then s
  else if nw = 0 || 64 < nw then s.emit (.spi [4])
  else
    let s := s.svcChsel addr ch
    let offs := (List.range nw).map fun k => addr / 4 * 4 + 4 * k
    let data := offs.flatMap fun o => natLe 4 (s.svcWord o)
    let crc := crcOf crc16 (svcHead 0x0B addr ch nw b7 ++ data)
    let st : Byte := if offs.all fun o => svcPage (o / 0x10000) then 0 else 2
    s.emit (.spi (data ++ natBe 2 crc ++ [st]))

/-- One permitted word of a service WRITE; `clash` as for APPEND and REPLACE. -/
def State.svcPut (s : State) (clash : Bool) (off v : Nat) : State :=
  if off = 0x190498 then (s.bitAct v 0 (opAppend 1 clash)).bitAct v 1 (opReplace 1 clash) else s.regWrite 1 off v []

/-- SVC_WRITE (R60, R772, R795): nothing is applied before the CRC has been checked, and all words or none. -/
def opSvcWrite (op addr ch b7 : Nat) (data : List Word) (crc : Nat) (clash : Bool) (s : State) : State :=
  let nw := data.length
  if !s.svcOpen then s
  else if op ≠ 2 || nw = 0 || 64 < nw then s.emit (.spi [4])
  else if crcOf crc16 (svcHead op addr ch nw b7 ++ data.flatMap fun w => natLe 4 w.toNat) ≠ crc then s.emit (.spi [1])
  else
    let offs := (List.range nw).map fun k => addr / 4 * 4 + 4 * k
    if !offs.all fun o => mayWrite 1 o then (s.access).emit (.spi [2])
    else
      let s := s.svcChsel addr ch
      let s := (offs.zip data).foldl (fun s x => s.svcPut clash x.1 x.2.toNat) s
      let busy := offs.contains 0x190498 && s.on F.ERC_RSTAT_BUSY 1
      s.emit (.spi [if busy then 3 else 0])

/-- SVC_FRAME_ABORT (R795): SVC_CS_N rises before STATUS; the frame is discarded. -/
def opSvcFrameAbort (s : State) : State := s

/-! ### The test port -/

/-- The instruction register takes a code. -/
def State.jtagIr (s : State) (code : Nat) : State := { s with jtag := { s.jtag with ir := code } }

/-- BYPASS (R796): the one-bit register, which captures 0. -/
def opBypass (s : State) : State := (s.jtagIr 0xFF).emit (.jtag 1 0)

/-- IDCODE (R796). -/
def opIdcode (s : State) : State :=
  (s.jtagIr 1).emit (.jtag 32 (s.rd F.GLB_DEVID_STEP % 16 * 2 ^ 28 + 0x064005AF))

/-- LIFECYCLE is RAW or TEST (R710). -/
def State.lifeOpen (s : State) : Bool := decide (s.otp.life ≤ 1)

/-- REGACC and SCANDUMP are available: without a token in RAW and TEST, otherwise in the scope of an open debug session. -/
def State.debugMay (s : State) (scan : Bool) : Bool :=
  s.lifeOpen || (s.on F.KCU_LIFE_DBGOPEN && (s.kcu.scope == 3 || (s.kcu.scope == 1 && !scan)))

/-- CHALLENGE (R710): SERIAL and a fresh nonce. Before B1 has passed the code selects BYPASS. While no draw is served there is no nonce: its
bits read 0 and no token fits (R690; DESIGN CHOICE, log 174). -/
def opChallenge (s : State) : State :=
  if !s.on F.KCU_LIFE_PUFOK then opBypass s
  else
    let out := s.noDraws
    let (n, s) := if out then (0, s) else s.drbg 256
    let t := s.cyc
    let s := s.updKcu fun k => { k with nonce := if out then none else some (n, t) }
    (s.jtagIr 0x20).emit (.jtag 320 (s.otp.serial % 2 ^ 64 + 2 ^ 64 * n))

/-- A debug token that verifies and names this device and its current nonce (R693, R710). -/
def State.tokenOk (s : State) (b : List Byte) : Bool :=
  let fresh := match s.kcu.nonce with | some (n, t) => n == le 16 32 b && decide (s.cyc ≤ t + secC 60) | none => false
  let scope := le 5 1 b
  b.length == 64 + sigLen && sigPad b && decide (le 4 1 b < 4) && le 0 4 b == 0x3142444B && (scope == 1 || scope == 3) && le 8 8 b == s.otp.serial && fresh &&
    s.verify (le 4 1 b) "KIFEN-DBG" none b == 0

/-- TOKEN (R710, R711): debug opens, or DBG_BAD is raised. While debug is open a token has no effect; in DECOMMISSIONED none opens
it. -/
def opToken (b : List Byte) (s : State) : State :=
  if !s.on F.KCU_LIFE_PUFOK then opBypass s
  else
    let s := s.jtagIr 0x21
    if s.on F.KCU_LIFE_DBGOPEN then s
    else if s.otp.life ≠ 3 && s.tokenOk b then s.debugOpen (le 5 1 b)
    else s.raise S.KCU_DBG_BAD

/-- REGACC (R60, R796): the word captured by the last access leaves, and this access runs at Update-DR. The data of a write's
capture is a free value, and so is what host memory answers a fetch that the write starts (DESIGN CHOICE, log 154). -/
def opRegacc (woff : Nat) (wr : Bool) (data : Nat) (s : State) : State :=
  if !s.debugMay false then opBypass s
  else
    let off := 4 * woff
    let j := s.jtag
    let s := (s.jtagIr 0x30).emit (.jtag 64 (j.data * 2 ^ 32 + 2 * b2n j.refused + b2n j.done))
    if wr then
      let refused := !mayWrite 2 off
      let d := (s.fresh 32).toNat
      let s := s.drew.regWrite 2 off data (Config.testPortFetch s.freeCtr)
      { s with jtag := { s.jtag with data := d, done := true, refused := refused } }
    else
      let d := s.readReg 2 off
      { s with jtag := { s.jtag with data := d, done := true, refused := false } }

/-- SCANDUMP (R796): the internal scan chains leave, as a free value of their length. -/
def opScandump (s : State) : State :=
  if !s.debugMay true then opBypass s
  else (s.drew.jtagIr 0x40).emit (.jtag Config.scanLen (s.fresh Config.scanLen).toNat)

/-- What the boundary-scan cells capture: the levels at the balls, a free value of the chain's length. -/
def State.capture (s : State) : State := s.drew.emit (.jtag Config.boundaryLen (s.fresh Config.boundaryLen).toNat)

/-- SAMPLE_PRELOAD (R796): the balls are captured, and the cells take what is shifted in. -/
def opSamplePreload (v : List Bool) (s : State) : State :=
  let s := (s.jtagIr 2).capture
  { s with jtag := { s.jtag with cells := v } }

/-- EXTEST (R796, R797): in RAW and TEST the cells drive the balls of the chain, which holds none of the safety outputs. -/
def opExtest (v : List Bool) (s : State) : State :=
  if !s.lifeOpen then opBypass s
  else
    let s := (s.jtagIr 0).capture
    { s with jtag := { s.jtag with cells := v } }

end Sys2Proof.Machine
end

