-- ==== Sys2Proof/Machine/ActionCmds.lean ====
section
/-!
DEFINITION. The commands of action judgement and command envelopes.
-/
namespace Sys2Proof.Machine

/-- ACTION_JUDGE (R474): At its judgement instant the AEU judges an ACTION record's entries against the limits and the stopping envelope. -/
def execActionJudge (i : Fin 64) (q : BitVec 64) (s : State) : Host.Outcome State Fault Refusal :=
  .next (opActionJudge i.val q.toNat s)

/-- ENC_STALE (R470): An enabled joint's measured state becomes stale after ENCAGE. -/
def execEncStale (j : Fin 64) (s : State) : Host.Outcome State Fault Refusal :=
  .next (opEncStale (fun i => (s.st i).admitted) j.val s)

/-- AT_REST_REACHED (R481): A joint's rest interval reaches REST_T and AT_REST sets. -/
def execAtRestReached (j : Fin 64) (s : State) : Host.Outcome State Fault Refusal :=
  .next (opAtRestReached j.val s)

/-- RESEED (R473): AEU_JCMD.RESEED empties the joint's command history. -/
def execReseed (j : Fin 64) (s : State) : Host.Outcome State Fault Refusal :=
  .next (s.onPage 17 (opReseed j.val))

/-- AEU_CLR (R486): AEU_CLR.CLR clears the judgement and rejection counters. -/
def execAeuClr (s : State) : Host.Outcome State Fault Refusal :=
  .next (s.onPage 17 (opAeuClr))

end Sys2Proof.Machine
end

