-- ==== Sys2Proof/Machine/ControlCmds.lean ====
section
/-!
DEFINITION. The commands of register writes and configuration transactions.
-/
namespace Sys2Proof.Machine

/-- REG_WRITE (R812): A write to a register with no row of its own acts field by field: RW at once, RWT and ROL by transaction state, unmapped or refused writes set faults. -/
def execRegWrite (off : BitVec 26) (v : BitVec 32) (full : Bool) (mem : List Byte) (s : State) : Host.Outcome State Fault Refusal :=
  .next (opRegWrite off.toNat v.toNat full mem s)

/-- TXN_BEGIN (R84): GLB_TXN_CTRL BEGIN opens a transaction, clears staging, increments GLB_TXN_ID and starts the open timer. -/
def execTxnBegin (s : State) : Host.Outcome State Fault Refusal :=
  .next (s.onPage 0 (opTxnBegin))

/-- TXN_COMMIT (R90): GLB_TXN_CTRL COMMIT samples the boundary and enters CHECKING. -/
def execTxnCommit (ecc : Bool) (s : State) : Host.Outcome State Fault Refusal :=
  .next (s.onPage 0 (opTxnCommit ecc))

/-- TXN_ABORT (R97): GLB_TXN_CTRL ABORT discards staging with LAST ABORTED. -/
def execTxnAbort (s : State) : Host.Outcome State Fault Refusal :=
  .next (s.onPage 0 (opTxnAbort))

/-- TXN_OPEN_TIMEOUT (R89): The open timer expires before COMMIT; staging is discarded with LAST TIMEOUT. -/
def execTxnOpenTimeout (s : State) : Host.Outcome State Fault Refusal :=
  .next (opTxnOpenTimeout s)

/-- TXN_CHECKS_DONE (R90): CHECKING ends: on a failure staging is discarded; otherwise the transaction goes to ARMED or APPLYING. -/
def execTxnChecksDone (images : List (Fin 6 × List Byte)) (s : State) : Host.Outcome State Fault Refusal :=
  .next ((opTxnChecksDone (images.map fun x => (x.1.val, x.2)) s).watch)

/-- TXN_ARMED_EXPIRY (R97): The armed limit expires before the boundary; staging is discarded with LAST EXPIRED. -/
def execTxnArmedExpiry (s : State) : Host.Outcome State Fault Refusal :=
  .next (opTxnArmedExpiry s)

/-- TXN_APPLY (R92): At the apply instant every block applies its staged entries before its next work item. -/
def execTxnApply (s : State) : Host.Outcome State Fault Refusal :=
  .next ((opTxnApply s).watch)

/-- TXN_APPLY_ACKED (R92): The last block acknowledges; the transaction returns to IDLE with LAST DONE. -/
def execTxnApplyAcked (s : State) : Host.Outcome State Fault Refusal :=
  .next (opTxnApplyAcked s)

/-- APPLY_INCOMPLETE (R95): The acknowledgement bound expires; APPLY_INCOMPLETE forces the safe state and the transaction ends INCOMPLETE. -/
def execApplyIncomplete (late : List (Fin 28)) (s : State) : Host.Outcome State Fault Refusal :=
  .next ((opApplyIncomplete (late.map fun p => p.val) s).watch)

/-- CONTEXT_EMPTY (R343): An unloading context holds no job any more, reaches EMPTY and frees its remaining space. -/
def execContextEmpty (c : Fin 16) (s : State) : Host.Outcome State Fault Refusal :=
  .next (opContextEmpty c.val s)

/-- GLB_LOCK (R79): A write of GLB_LOCK.LOCKED locks ROL fields now, or once the running transaction ends. -/
def execGlbLock (s : State) : Host.Outcome State Fault Refusal :=
  .next (s.onPage 0 (opGlbLock))

/-- BLK_RST (R67): _CTRL.BLK_RST resets a block's engine or port state; on TE pages it also clears EN. -/
def execBlkRst (p : Fin 28) (s : State) : Host.Outcome State Fault Refusal :=
  .next (s.onPage p.val (opBlkRst p.val))

end Sys2Proof.Machine
end

