-- ==== Sys2Proof/Machine/EngineCmds.lean ====
section
/-!
DEFINITION. The commands of Trace Engine job commands and the engines themselves.
-/
namespace Sys2Proof.Machine

/-- JOB_START (R290): A queued job starts after its predecessor's DONE and LDPs, clearing windows, flags and status. -/
def execJobStart (q : Fin 48) (s : State) : Host.Outcome State Fault Refusal :=
  .next ((opJobStart q.val s).watch)

/-- LDP (R298): LDP starts a copy of projection data into scratch. -/
def execLdp (q : Fin 48) (s : State) : Host.Outcome State Fault Refusal :=
  .next (opLdp q.val s)

/-- LDP_LAND (R298): LDP data has landed and been authenticated; its local flag increments. -/
def execLdpLand (q : Fin 48) (fails : Fin 3) (site : BitVec 16) (s : State) : Host.Outcome State Fault Refusal :=
  .next ((opLdpLand q.val fails.val site.toNat s).watch)

/-- PRY (R299): PRY adds signed outputs to the windows and sets NOTDONE on a saturated element. -/
def execPry (q : Fin 48) (s : State) : Host.Outcome State Fault Refusal :=
  .next (opPry q.val s)

/-- DTX_PROJ (R300): DTX PROJ subtracts p·x with spill remainders from the windows. -/
def execDtxProj (q : Fin 48) (s : State) : Host.Outcome State Fault Refusal :=
  .next (opDtxProj q.val s)

/-- DTX_SQSUM (R300): DTX SQSUM adds Σa² to a window. -/
def execDtxSqsum (q : Fin 48) (s : State) : Host.Outcome State Fault Refusal :=
  .next (opDtxSqsum q.val s)

/-- DTX_SUM (R300): DTX SUM adds Σa to a window. -/
def execDtxSum (q : Fin 48) (s : State) : Host.Outcome State Fault Refusal :=
  .next (opDtxSum q.val s)

/-- DTX_DOT (R300): DTX DOT adds Σab to a window. -/
def execDtxDot (q : Fin 48) (s : State) : Host.Outcome State Fault Refusal :=
  .next (opDtxDot q.val s)

/-- CMPB (R301): CMPB evaluates B̂ for each window and sets FAILED on an excess. -/
def execCmpb (q : Fin 48) (s : State) : Host.Outcome State Fault Refusal :=
  .next (opCmpb q.val s)

/-- RESX_ACC (R302): RESX ACC adds the weighted accumulators modulo both Mersenne primes. -/
def execResxAcc (q : Fin 48) (s : State) : Host.Outcome State Fault Refusal :=
  .next (opResxAcc q.val s)

/-- RESX_INPUT (R302): RESX INPUT subtracts Σq·x modulo both primes. -/
def execResxInput (q : Fin 48) (s : State) : Host.Outcome State Fault Refusal :=
  .next (opResxInput q.val s)

/-- RESX_CMP (R302): RESX CMP sets FAILED unless both residues are 0. -/
def execResxCmp (q : Fin 48) (s : State) : Host.Outcome State Fault Refusal :=
  .next (opResxCmp q.val s)

/-- ELM (R303): ELM recomputes an elementwise function and judges every output element. -/
def execElm (q : Fin 48) (s : State) : Host.Outcome State Fault Refusal :=
  .next (opElm q.val s)

/-- RTE_SELECT (R304): RTE SELECT judges the router selection and registers it for R253. -/
def execRteSelect (q : Fin 48) (s : State) : Host.Outcome State Fault Refusal :=
  .next (opRteSelect q.val s)

/-- RTE_GATE (R304): RTE GATE judges the gates under the gate rule. -/
def execRteGate (q : Fin 48) (s : State) : Host.Outcome State Fault Refusal :=
  .next (opRteGate q.val s)

/-- TOKSLICE (R304): RTE TOKSLICE scores a slice of logits into a partial. -/
def execTokslice (q : Fin 48) (s : State) : Host.Outcome State Fault Refusal :=
  .next (opTokslice q.val s)

/-- TOKJOIN (R304): RTE TOKJOIN joins the partials and judges the delivered token. -/
def execTokjoin (q : Fin 48) (s : State) : Host.Outcome State Fault Refusal :=
  .next (opTokjoin q.val s)

/-- ENV_CHECK (R305): ENV CHECK judges an attention output against the hull. -/
def execEnvCheck (q : Fin 48) (s : State) : Host.Outcome State Fault Refusal :=
  .next (opEnvCheck q.val s)

/-- ENV_ADDROW (R305): ENV ADDROW folds V rows into the pending hull. -/
def execEnvAddrow (q : Fin 48) (s : State) : Host.Outcome State Fault Refusal :=
  .next (opEnvAddrow q.val s)

/-- ENV_COMMIT (R305): ENV COMMIT folds V rows into the committed hull. -/
def execEnvCommit (q : Fin 48) (s : State) : Host.Outcome State Fault Refusal :=
  .next (opEnvCommit q.val s)

/-- ENV_REBUILD (R305): ENV REBUILD rebuilds the pending hull after a retraction. -/
def execEnvRebuild (q : Fin 48) (s : State) : Host.Outcome State Fault Refusal :=
  .next (opEnvRebuild q.val s)

/-- ENV_RECOMP (R305): ENV RECOMP runs SAR fallback over up to 64 positions and judges the head on LASTP. -/
def execEnvRecomp (q : Fin 48) (s : State) : Host.Outcome State Fault Refusal :=
  .next (opEnvRecomp q.val s)

/-- XFS (R306): XFS projects a moved vector under the transfer key and sends XVAL to the peer. -/
def execXfs (q : Fin 48) (s : State) : Host.Outcome State Fault Refusal :=
  .next (opXfs q.val s)

/-- XFC (R668): XFC projects the received vector and compares it with the peer's windows. -/
def execXfc (q : Fin 48) (s : State) : Host.Outcome State Fault Refusal :=
  .next (opXfc q.val s)

/-- XFER_TO (R306): An XFC's wait for the peer's XVAL passes the site timeout; NOTDONE is set. -/
def execXferTo (q : Fin 48) (s : State) : Host.Outcome State Fault Refusal :=
  .next ((opXferTo q.val s).watch)

/-- SIG (R307): SIG adds CNT to a local flag, or sends a signal to a local or remote semaphore. -/
def execSig (q : Fin 48) (s : State) : Host.Outcome State Fault Refusal :=
  .next ((opSig q.val s).watch)

/-- WAI (R308): WAI registers the queue as a waiter on a semaphore or flag. -/
def execWai (q : Fin 48) (s : State) : Host.Outcome State Fault Refusal :=
  .next ((opWai q.val s).watch)

/-- DONE (R309): DONE ends the job, reports its outcome to the VDU slot and signals the join semaphore. -/
def execJobDone (q : Fin 48) (s : State) : Host.Outcome State Fault Refusal :=
  .next ((opJobDone q.val s).watch)

/-- TE_CLOCK_GATE (R322): After 16 idle cycles the engine's domain is gated. -/
def execTeClockGate (e : Fin 4) (s : State) : Host.Outcome State Fault Refusal :=
  .next (opTeClockGate e.val s)

/-- SPARE_HANDOVER_DONE (R34): Every queue of a handing engine has moved; it enters SPARE_TEST, or OFF. -/
def execSpareHandoverDone (e : Fin 4) (s : State) : Host.Outcome State Fault Refusal :=
  .next ((opSpareHandoverDone e.val s).watch)

/-- TE_SELFTEST_DONE (R316): A tally self-test slot ends in pass or in STEST_FAIL and OUT. -/
def execTeSelftestDone (e : Fin 4) (pass : Bool) (phase : BitVec 3) (us : Nat) (s : State) : Host.Outcome State Fault Refusal :=
  .next ((opTeSelftestDone e.val pass phase.toNat us s).watch)

/-- TAKEOVER_COPY_DONE (R320): The faulted engine's state has been copied; the taking engine becomes ACTIVE. -/
def execTakeoverCopyDone (e : Fin 4) (lostQ : List (Fin 48)) (lostSt : List (Fin 64)) (s : State) : Host.Outcome State Fault Refusal :=
  .next ((opTakeoverCopyDone e.val (lostQ.map fun x => x.val) (lostSt.map fun x => x.val) s).watch)

/-- TE_CLR (R327): TE_CLR.CLR clears the engine's counters. -/
def execTeClr (e : Fin 4) (s : State) : Host.Outcome State Fault Refusal :=
  .next (s.onPage (8 + e.val) (opTeClr e.val))

end Sys2Proof.Machine
end

