-- ==== Sys2Proof/Machine/FaultCmds.lean ====
section
/-!
DEFINITION. The commands of fault injection and acknowledgement, fault occurrences, the safe state controller and the control unit.
-/
namespace Sys2Proof.Machine

/-- INJ_ARM (R547): _INJ.ARM creates an expected-injection entry, or is refused. -/
def execInjArm (p : Fin 28) (src : BitVec 5) (chan : BitVec 16) (s : State) : Host.Outcome State Fault Refusal :=
  .next (s.onPage p.val (opInjArm p.val src.toNat chan.toNat))

/-- FAULT_ACK (R526): A W1C of a _FLT bit acknowledges the source and sets its level to none. -/
def execFaultAck (p : Fin 28) (mask : BitVec 32) (s : State) : Host.Outcome State Fault Refusal :=
  .next (s.onPage p.val (opFaultAck p.val mask.toNat))

/-- FAULT_OCCURRENCE (R523): A fault report arrives at the FCU and is suppressed, consumed, or given a level and its reaction. -/
def execFaultOccurrence (p : Fin 28) (src : Fin 32) (chan : BitVec 16) (stream : Option (Fin 64)) (unit : BitVec 16) (ref : BitVec 64) (inj : Bool) (s : State) : Host.Outcome State Fault Refusal :=
  .next (opFaultOccurrence ⟨p.val, src.val, chan.toNat, stream.map fun i => i.val, unit.toNat, ref.toNat, inj⟩ s)

/-- INJ_WINDOW_EXPIRY (R550): An injection window ends with no consumed report; CHECKER_SILENT is raised. -/
def execInjWindowExpiry (p : Fin 28) (src : BitVec 5) (chan : BitVec 16) (s : State) : Host.Outcome State Fault Refusal :=
  .next (opInjWindowExpiry p.val src.toNat chan.toNat s)

/-- INJ_NOTXN (R548): An armed checker checks no transaction within 100 ms; its entry is removed. -/
def execInjNotxn (p : Fin 28) (src : BitVec 5) (chan : BitVec 16) (s : State) : Host.Outcome State Fault Refusal :=
  .next (opInjNotxn p.val src.toNat chan.toNat s)

/-- SSC_REL (R538): A write to SSC_REL advances or cancels the 0xA5-then-0x5A release; the second key releases the safe state when R537 holds. -/
def execSscRel (key : BitVec 8) (s : State) : Host.Outcome State Fault Refusal :=
  .next (s.onPage 3 (opSscRel key.toNat))

/-- SAFEN_RB (R534): The SAFE_N ball differs from its driven level for more than 20 ns. -/
def execSafenRb (s : State) : Host.Outcome State Fault Refusal :=
  .next (opSafenRb s)

/-- CICADA_RB (R536): A CICADA ball differs from its driven level for more than 20 ns. -/
def execCicadaRb (level : Bool) (s : State) : Host.Outcome State Fault Refusal :=
  .next (opCicadaRb level s)

/-- RESTART_LINE_TIMEOUT (R545): 10 µs after a RESTART demand, the stream-OK line falls if HOLD has not yet been entered. -/
def execRestartLineTimeout (s : State) : Host.Outcome State Fault Refusal :=
  .next (opRestartLineTimeout s)

/-- RESTART_TO (R546): The restart timer expires before the restart is reported complete; RESTART_TO forces the safe state. -/
def execRestartTo (s : State) : Host.Outcome State Fault Refusal :=
  .next (opRestartTo s)

/-- FCU_CLR (R556): FCU_CLR.CLR clears the occurrence, escalation and injection counters. -/
def execFcuClr (s : State) : Host.Outcome State Fault Refusal :=
  .next (s.onPage 2 (opFcuClr))

/-- CLRFIRST (R556): FCU_CLR.CLRFIRST clears FCU_FIRSTF.VALID. -/
def execClrfirst (s : State) : Host.Outcome State Fault Refusal :=
  .next (s.onPage 2 (opClrfirst))

/-- SSC_CLR (R560): SSC_CLR.CLR clears the restart, release and trigger counters. -/
def execSscClr (s : State) : Host.Outcome State Fault Refusal :=
  .next (s.onPage 3 (opSscClr))

/-- RELEASE_SEQUENCE_EXPIRY (R538): The 1 ms window after the first SSC_REL key lapses without the second key, ending the pending release (RELPEND). -/
def execReleaseSequenceExpiry (s : State) : Host.Outcome State Fault Refusal :=
  .next (opReleaseSequenceExpiry s)

end Sys2Proof.Machine
end

