-- ==== Sys2Proof/Machine/IngressCmds.lean ====
section
/-!
DEFINITION. The commands of tap rings, records in stream order, and the tap registers.
-/
namespace Sys2Proof.Machine

/-- TAP_RING_WRITE (R133): A Memory Write TLP to a tap ring is applied at the cursor, starts or continues a candidate, or is a framing failure. -/
def execTapRingWrite (p : Fin 2) (off : BitVec 24) (d : List Byte) (ok : Bool) (s : State) : Host.Outcome State Fault Refusal :=
  .next (State.watch (opTapRingWrite p.val off.toNat d ok s) true)

/-- TAP_RING_READ (R132): A Memory Read to BAR0 completes with UR and sets RING_RD. -/
def execTapRingRead (p : Fin 2) (s : State) : Host.Outcome State Fault Refusal :=
  .next (opTapRingRead p.val s)

/-- TAP_STATUS_WRITE (R132): A Memory Write to the status page is discarded and sets RING_RD. -/
def execTapStatusWrite (p : Fin 2) (s : State) : Host.Outcome State Fault Refusal :=
  .next (opTapStatusWrite p.val s)

/-- PART_TO (R159): A record stays partial for 200 µs outside backpressure and is dropped as a framing failure. -/
def execPartTo (p : Fin 2) (s : State) : Host.Outcome State Fault Refusal :=
  .next ((opPartTo p.val s).watch)

/-- BP_LONG (R180): A backpressure episode exceeds BPLIM × 10 µs. -/
def execBpLong (p : Fin 2) (s : State) : Host.Outcome State Fault Refusal :=
  .next (opBpLong p.val s)

/-- TAP_LINK_DOWN (R153): The tap link goes down; a partial record is dropped and a port in RUN enters RESYNC. -/
def execTapLinkDown (p : Fin 2) (s : State) : Host.Outcome State Fault Refusal :=
  .next ((opTapLinkDown p.val s).watch)

/-- TAP_LINK_UP (R153): The tap link comes up; LINKUP sets and no state changes. -/
def execTapLinkUp (p : Fin 2) (s : State) : Host.Outcome State Fault Refusal :=
  .next (opTapLinkUp p.val s)

/-- TAP_FLR (R790): A tap function reset drops the partial record and enters RESYNC, keeping held records. -/
def execTapFlr (p : Fin 2) (s : State) : Host.Outcome State Fault Refusal :=
  .next ((opTapFlr p.val s).watch)

/-- FLUSH (R157): TAP_CTRL.FLUSH drops a partial record and enters RESYNC. -/
def execFlush (p : Fin 2) (s : State) : Host.Outcome State Fault Refusal :=
  .next (s.onPage (6 + p.val) fun s => (opFlush p.val s).watch)

/-- QUIESCE_SET (R158): Setting TAP_CTRL.QUIESCE drops any partial record and enters QUIESCED. -/
def execQuiesceSet (p : Fin 2) (s : State) : Host.Outcome State Fault Refusal :=
  .next (s.onPage (6 + p.val) fun s => (opQuiesceSet p.val s).watch)

/-- QUIESCE_CLEAR (R153): Once both quiesce requests are clear, the port enters RESYNC. -/
def execQuiesceClear (p : Fin 2) (s : State) : Host.Outcome State Fault Refusal :=
  .next (s.onPage (6 + p.val) (opQuiesceClear p.val))

/-- BEGIN_RESULT (R168): Dispatch of BEGIN_RESULT opens a result with slot, bank, bucket token, seed and SAR draw, or is refused. -/
def execBeginResult (i : Fin 64) (s : State) : Host.Outcome State Fault Refusal :=
  .next (((opBeginResultAll i.val (s.streamBoundary i.val)).regained i.val (s.st i.val).maxUsed).watch)

/-- BANK_WAIT_TIMEOUT (R398): A BEGIN_RESULT held for a bank for 100 µs is handled as an ingress overrun. -/
def execBankWaitTimeout (i : Fin 64) (s : State) : Host.Outcome State Fault Refusal :=
  .next ((opBankWaitTimeout i.val s).watch)

/-- END_RESULT (R169): Dispatch of END_RESULT closes the result and checks NREC. -/
def execEndResult (i : Fin 64) (s : State) : Host.Outcome State Fault Refusal :=
  .next ((opEndResult i.val (fun s => s.streamBoundary i.val) s).watch)

/-- TENSOR (R171): Dispatch of a TENSOR part fills its tensor and may trigger job groups. -/
def execTensor (i : Fin 64) (s : State) : Host.Outcome State Fault Refusal :=
  .next ((opTensor i.val s).watch)

/-- KV_APPEND (R145): Dispatch of KV_APPEND copies the position's key and value segments into the KV copy. -/
def execKvAppend (i : Fin 64) (s : State) : Host.Outcome State Fault Refusal :=
  .next ((opKvAppend i.val s).watch)

/-- ACC32 (R146): Dispatch of an ACC32 part fills the accumulator tensor of an exact-class site. -/
def execAcc32 (i : Fin 64) (s : State) : Host.Outcome State Fault Refusal :=
  .next ((opAcc32 i.val s).watch)

/-- INPUT_BIND (R147): Dispatch of INPUT_BIND hands the origin entries to the VDU. -/
def execInputBind (i : Fin 64) (s : State) : Host.Outcome State Fault Refusal :=
  .next ((opInputBind i.val s).watch)

/-- ACTION (R148): Dispatch of an ACTION record hands its setpoints to the AEU and adds an ACT check. -/
def execActionRec (i : Fin 64) (s : State) : Host.Outcome State Fault Refusal :=
  .next ((opAction i.val s).watch)

/-- RETRACT (R173): Dispatch of RETRACT closes the result, forms RETRACTED, aborts checks, abandons semaphores and removes KV positions. -/
def execRetract (i : Fin 64) (s : State) : Host.Outcome State Fault Refusal :=
  .next ((opRetract i.val (fun s => s.streamBoundary i.val) s).watch)

/-- CMD_BEGIN (R563): Dispatch of CMD_BEGIN opens a command entry, or raises CMD_PROTO. -/
def execCmdBegin (i : Fin 64) (s : State) : Host.Outcome State Fault Refusal :=
  .next ((opCmdBegin i.val s).watch)

/-- CMD_END (R563): Dispatch of CMD_END closes a command entry, or raises CMD_PROTO or CMD_ERR. -/
def execCmdEnd (i : Fin 64) (s : State) : Host.Outcome State Fault Refusal :=
  .next ((opCmdEnd i.val s).watch)

/-- READY (R574): Dispatch of READY in WAIT_READY is checked against count, re-hash kind, chunk count and digest; otherwise it is discarded. -/
def execReadyRec (p : Fin 2) (s : State) : Host.Outcome State Fault Refusal :=
  .next ((opReady p.val s).watch)

/-- WEIGHT_CHUNK (R181): Dispatch of WEIGHT_CHUNK hashes the chunk against the manifest and passes it to the PST, or rejects it. -/
def execWeightChunk (p : Fin 2) (s : State) : Host.Outcome State Fault Refusal :=
  .next ((opWeightChunk p.val s).watch)

/-- PAD (R149): Dispatch of a PAD record is ignored. -/
def execPad (p : Fin 2) (s : State) : Host.Outcome State Fault Refusal :=
  .next ((opPad p.val s).watch)

/-- TAP_SCLR (R187): TAP_SCLR.CLR clears the selected stream's counters and TAP_SPEAK. -/
def execTapSclr (p : Fin 2) (i : Fin 64) (s : State) : Host.Outcome State Fault Refusal :=
  .next (s.onPage (6 + p.val) (opTapSclr p.val i.val))

/-- TAP_CLR (R188): TAP_CLR.CLR clears the port counters and TAP_BPMAX. -/
def execTapClr (p : Fin 2) (s : State) : Host.Outcome State Fault Refusal :=
  .next (s.onPage (6 + p.val) (opTapClr p.val))

end Sys2Proof.Machine
end

