-- ==== Sys2Proof/Machine/KeyCmds.lean ====
section
/-!
DEFINITION. The commands of keys, sessions and quotes.
-/
namespace Sys2Proof.Machine

/-- LOADKEY (R697): KCU_KCMD LOADKEY fetches and caches an owner key blob, or raises OKEY_BAD. -/
def execLoadkey (slot : Fin 4) (b : List Byte) (s : State) : Host.Outcome State Fault Refusal :=
  .next (s.onPage 23 (opLoadkey slot.val b))

/-- LOADENDO (R698): KCU_KCMD LOADENDO verifies an endorsement and binds CTRLPUB to a session. -/
def execLoadendo (n : Fin 8) (b : List Byte) (s : State) : Host.Outcome State Fault Refusal :=
  .next (s.onPage 23 (opLoadendo n.val b))

/-- REVOKE (R688): KCU_KCMD REVOKE applies a signed revocation record, or raises ARB_REFUSED. -/
def execRevoke (b : List Byte) (s : State) : Host.Outcome State Fault Refusal :=
  .next (s.onPage 23 (opRevoke b))

/-- PROGSLOT (R687): KCU_KCMD PROGSLOT programs an empty owner slot's hash. -/
def execProgslot (slot : Fin 4) (b : List Byte) (s : State) : Host.Outcome State Fault Refusal :=
  .next (s.onPage 23 (opProgslot slot.val b))

/-- ARBADV (R696): KCU_ARBADV.GO advances an anti-rollback counter, or raises ARB_REFUSED. -/
def execArbadv (ctr : BitVec 3) (value : BitVec 8) (s : State) : Host.Outcome State Fault Refusal :=
  .next (s.onPage 23 (opArbadv ctr.toNat value.toNat))

/-- HS_START (R699): KCU_HSCMD.START writes a HELLO and enters HELLO for the session. -/
def execHsStart (n : Fin 8) (s : State) : Host.Outcome State Fault Refusal :=
  .next (s.onPage 23 (opHsStart n.val))

/-- HS_RESP (R701): KCU_HSCMD.RESP verifies RESPONSE, derives keys and writes CONFIRM with TACT. -/
def execHsResp (n : Fin 8) (b : List Byte) (s : State) : Host.Outcome State Fault Refusal :=
  .next (s.onPage 23 (opHsResp n.val b))

/-- HS_DROP (R699): KCU_HSCMD.DROP returns the session to NONE, or fails an open handshake. -/
def execHsDrop (n : Fin 8) (s : State) : Host.Outcome State Fault Refusal :=
  .next (s.onPage 23 (opHsDrop n.val))

/-- HS_TIMEOUT (R702): No RESP within 1 s of HELLO; HS_FAIL is raised. -/
def execHsTimeout (n : Fin 8) (s : State) : Host.Outcome State Fault Refusal :=
  .next (opHsTimeout n.val s)

/-- SESSION_ACTIVATE (R703): TBU time reaches TACT; the session enters ACTIVE under the new key, and waiting copies are tagged. -/
def execSessionActivate (n : Fin 8) (s : State) : Host.Outcome State Fault Refusal :=
  .next (opSessionActivate n.val s)

/-- QUOTE (R706): KCU_QCMD.GO samples, signs and writes an attestation quote. -/
def execQuote (s : State) : Host.Outcome State Fault Refusal :=
  .next (s.onPage 23 (opQuote))

/-- HVKEY_READ (R704): The first read of KCU_HVKEY7 ends the availability of the host verdict key. -/
def execHvkeyRead (s : State) : Host.Outcome State Fault Refusal :=
  .next (opHvkeyRead s)

/-- ENT_HEALTH (R690): A continuous entropy health test fails; the DRBG re-instantiates, and a third failure raises ENT_FAIL. -/
def execEntHealth (s : State) : Host.Outcome State Fault Refusal :=
  .next (opEntHealth s)

/-- DRBG_READY (R690): DRBG re-instantiation completes and draws are served again. -/
def execDrbgReady (s : State) : Host.Outcome State Fault Refusal :=
  .next (opDrbgReady s)

/-- DRBG_RESEED (R192): The DRBG reseeds at plan load, after PST_EPOCH, or after 2^20 requests. -/
def execDrbgReseed (s : State) : Host.Outcome State Fault Refusal :=
  .next (opDrbgReseed s)

/-- KCU_CLR (R715): KCU_CLR.CLR clears the reseed and tag counters. -/
def execKcuClr (s : State) : Host.Outcome State Fault Refusal :=
  .next (s.onPage 23 (opKcuClr))

end Sys2Proof.Machine
end

