-- ==== Sys2Proof/Machine/MantisCmds.lean ====
section
/-!
DEFINITION. The commands of the Mantis pair, HOLD, and sampled re-execution.
-/
namespace Sys2Proof.Machine

/-- HOLD_REQ (R27): MNT_CTRL.HOLD_REQ demands a hold, starting a handover or raising HOLD_REFUSED. -/
def execHoldReq (s : State) : Host.Outcome State Fault Refusal :=
  .next (s.onPage 14 (opHoldReq))

/-- HANDOVER_DONE (R441): The first compared cycle enters HOLD or LOCK_IDLE, or raises HOLD_FAIL. -/
def execHandoverDone (bad : Fin 3) (s : State) : Host.Outcome State Fault Refusal :=
  .next (opHandoverDone bad.val s)

/-- HOLD_RELEASE (R443): MNT_CTRL.HOLD_RELEASE ends a hold at the next launch, or is discarded with ACCESS. -/
def execHoldRelease (s : State) : Host.Outcome State Fault Refusal :=
  .next (s.onPage 14 (opHoldRelease))

/-- SPLIT_REQ (R444): MNT_CTRL.SPLIT_REQ in LOCK_IDLE requests a switch to SPLIT at the end of the next warm step. -/
def execSplitReq (s : State) : Host.Outcome State Fault Refusal :=
  .next (s.onPage 14 (opSplitReq))

/-- POLICY_STEP_START (R449): At t_k the hold policy step takes its inputs and runs as a warm or hold step. -/
def execPolicyStepStart (poison : Bool) (s : State) : Host.Outcome State Fault Refusal :=
  .next (opPolicyStepStart poison s)

/-- POLICY_STEP_DONE (R451): A policy step completes; the AEU judges hold setpoints and failures raise HOLD_STEP or WARM_MISS. -/
def execPolicyStepDone (ck : Fin 3) (s : State) : Host.Outcome State Fault Refusal :=
  .next (opPolicyStepDone ck.val s)

/-- HOLD_STEP_DEADLINE (R451): L_k − 5 µs passes before the hold frame enters its queue, and the step fails. -/
def execHoldStepDeadline (s : State) : Host.Outcome State Fault Refusal :=
  .next (opHoldStepDeadline s)

/-- HOLD_FRAME_LAUNCH (R452): At L_k the hold command frame launches and its setpoints become the AEU's c₀. -/
def execHoldFrameLaunch (s : State) : Host.Outcome State Fault Refusal :=
  .next (opHoldFrameLaunch s)

/-- MONITOR_STEP_START (R456): A sentinel monitor step starts at its period, pre-empting SAR. -/
def execMonitorStepStart (s : State) : Host.Outcome State Fault Refusal :=
  .next (opMonitorStepStart s)

/-- MONITOR_STEP_DONE (R456): A monitor step completes and sets the alarm lines, raising SENT_ALARM on assertion edges. -/
def execMonitorStepDone (ck : Fin 3) (s : State) : Host.Outcome State Fault Refusal :=
  .next (opMonitorStepDone ck.val s)

/-- SAR_JOB_START (R437): A free Mantis engine takes a queued SAR job whose start condition holds. -/
def execSarJobStart (e : Fin 2) (s : State) : Host.Outcome State Fault Refusal :=
  .next ((opSarJobStart e.val s).watch)

/-- SAR_JOB_DONE (R437): A SAR job ends, reports its outcome and signals. -/
def execSarJobDone (e : Fin 2) (ck : Bool) (s : State) : Host.Outcome State Fault Refusal :=
  .next ((opSarJobDone e.val ck s).watch)

/-- MANTIS_SELFTEST_START (R458): A Mantis self-test slot starts every MNT_STPER ms, or after its deferral limit. -/
def execMantisSelftestStart (e : Fin 2) (s : State) : Host.Outcome State Fault Refusal :=
  .next ((opMantisSelftestStart e.val s).watch)

/-- MANTIS_SELFTEST_DONE (R458): A Mantis self-test slot ends in pass or in STEST_FAIL and OUT. -/
def execMantisSelftestDone (e : Fin 2) (pass : Bool) (s : State) : Host.Outcome State Fault Refusal :=
  .next (opMantisSelftestDone e.val pass s)

/-- SH_RETURN (R459): SH_CTRL.RETURN returns a probed engine to service. -/
def execShReturn (e : Fin 2) (s : State) : Host.Outcome State Fault Refusal :=
  .next (s.onPage (12 + e.val) (opShReturn e.val))

/-- SH_CLR (R463): SH_CLR.CLR clears the Mantis engine's counters. -/
def execShClr (e : Fin 2) (s : State) : Host.Outcome State Fault Refusal :=
  .next (s.onPage (12 + e.val) (opShClr e.val))

/-- MNT_CLR (R466): MNT_CLR.CLR clears the MNT counters. -/
def execMntClr (s : State) : Host.Outcome State Fault Refusal :=
  .next (s.onPage 14 (opMntClr))

/-- ROW_RELOAD_DONE (R46): A poisoned sentinel-store row finishes reloading from LPDDR5X, and the hold-policy step that read it is repeated. -/
def execRowReloadDone (s : State) : Host.Outcome State Fault Refusal :=
  .next (opRowReloadDone s)

end Sys2Proof.Machine
end

