-- ==== Sys2Proof/Machine/NetCmds.lean ====
section
/-!
DEFINITION. The commands of time base, time-sensitive network ports and CRC units.
-/
namespace Sys2Proof.Machine

/-- A frame received at an Ethernet port also advances the brake test record where that port has a measuring encoder (R507 step 5). -/
def opEthFrameRxAll (p : Nat) (b : List Byte) (ok : Bool) (s : State) : State := (opEthFrameRx p b ok s).btTrack

/-- TBU_STEP (R594): TBU_CMD.STEP adds the signed offset to the time and shifts running intervals, or is refused. -/
def execTbuStep (s : State) : Host.Outcome State Fault Refusal :=
  .next (s.onPage 4 (opTbuStep))

/-- TBU_CLR (R638): TBU_CLR.CLR clears TBU_NSTEP. -/
def execTbuClr (s : State) : Host.Outcome State Fault Refusal :=
  .next (s.onPage 4 (opTbuClr))

/-- SYNC_LOST (R597): No Sync for 3 sync intervals; the servo enters HOLDOVER. -/
def execSyncLost (s : State) : Host.Outcome State Fault Refusal :=
  .next (opSyncLost s)

/-- SYNC (R598): A Sync on the slave port updates the servo's offset and rate, or steps the time, and is relayed to masters. -/
def execPtpSync (p : Fin 12) (seq : BitVec 16) (twoStep : Bool) (origin : Int) (corr : Int) (s : State) : Host.Outcome State Fault Refusal :=
  .next (opPtpSync p.val seq.toNat twoStep origin corr s)

/-- FOLLOW_UP (R621): A received Follow_Up supplies the origin time for two-step Sync handling. -/
def execFollowUp (p : Fin 12) (seq : BitVec 16) (origin : Int) (corr : Int) (s : State) : Host.Outcome State Fault Refusal :=
  .next (opFollowUp p.val seq.toNat origin corr s)

/-- PDELAY_REQ (R620): A received Pdelay_Req is answered with Pdelay_Resp. -/
def execPdelayReq (p : Fin 12) (seq : BitVec 16) (s : State) : Host.Outcome State Fault Refusal :=
  .next (opPdelayReq p.val seq.toNat s)

/-- PDELAY_RESP (R620): A received Pdelay_Resp completes a link-delay exchange and updates asCapable. -/
def execPdelayResp (p : Fin 12) (seq : BitVec 16) (t2 : Int) (t3 : Int) (s : State) : Host.Outcome State Fault Refusal :=
  .next (opPdelayResp p.val seq.toNat t2 t3 s)

/-- PDELAY_REQ_SEND (R620): Every 2^LOGPDELAY s a port sends Pdelay_Req; lost responses may clear asCapable. -/
def execPdelayReqSend (p : Fin 12) (s : State) : Host.Outcome State Fault Refusal :=
  .next (opPdelayReqSend p.val s)

/-- GM_SYNC_SEND (R621): As grandmaster, each master port sends Sync every 2^LOGSYNC s. -/
def execGmSyncSend (p : Fin 12) (s : State) : Host.Outcome State Fault Refusal :=
  .next (opGmSyncSend p.val s)

/-- ANNOUNCE_RX (R619): A received Announce or Signaling message is counted and discarded. -/
def execAnnounceRx (p : Fin 12) (s : State) : Host.Outcome State Fault Refusal :=
  .next (opAnnounceRx p.val s)

/-- ETH_FRAME_RX (R628): A received Ethernet frame passes FCS, stream filter, forwarding and the guard path. -/
def execEthFrameRx (p : Fin 12) (b : List Byte) (fcsOk : Bool) (s : State) : Host.Outcome State Fault Refusal :=
  .next (opEthFrameRxAll p.val b fcsOk s)

/-- ETH_FRAME_TX (R618): A queued frame starts transmission when its gate is open and its launch time is due. -/
def execEthFrameTx (p : Fin 12) (s : State) : Host.Outcome State Fault Refusal :=
  .next (opEthFrameTx p.val s)

/-- LT_DROP (R627): A launch-time frame has not started within TSN_PLTLIM of its launch time and is dropped. -/
def execLtDrop (p : Fin 12) (s : State) : Host.Outcome State Fault Refusal :=
  .next (opLtDrop p.val s)

/-- GATE_ENTRY_CHANGE (R623): A port's gate list moves to its next entry or cycle. -/
def execGateEntryChange (p : Fin 12) (s : State) : Host.Outcome State Fault Refusal :=
  .next (opGateEntryChange p.val s)

/-- STREAM_GATE_CHANGE (R629): A Qci stream gate moves to its next entry or cycle. -/
def execStreamGateChange (g : Fin 16) (s : State) : Host.Outcome State Fault Refusal :=
  .next (opStreamGateChange g.val s)

/-- CB_RESET_TIMEOUT (R631): The 802.1CB recovery reset timeout CBRST expires for an IN entry. -/
def execCbResetTimeout (e : Fin 256) (s : State) : Host.Outcome State Fault Refusal :=
  .next (opCbResetTimeout e.val s)

/-- ETH_LINK_DOWN (R814): An Ethernet link goes down; queued frames are dropped and LINK_DOWN is raised. -/
def execEthLinkDown (p : Fin 12) (s : State) : Host.Outcome State Fault Refusal :=
  .next (opEthLinkDown p.val s)

/-- ETH_LINK_UP (R640): An Ethernet link comes up. -/
def execEthLinkUp (p : Fin 12) (s : State) : Host.Outcome State Fault Refusal :=
  .next (opEthLinkUp p.val s)

/-- UNBLOCK (R629): TSN_SFs_CMD.UNBLOCK unblocks a stream filter. -/
def execUnblock (f : Fin 128) (s : State) : Host.Outcome State Fault Refusal :=
  .next (s.onPage 20 (opUnblock f.val))

/-- TSN_PCLR (R641): TSN_PCLR.CLR clears the port's counters. -/
def execTsnPclr (p : Fin 12) (s : State) : Host.Outcome State Fault Refusal :=
  .next (s.onPage 20 (opTsnPclr p.val))

/-- TSN_CLR (R642): TSN_CLR.CLR clears the bridge counters. -/
def execTsnClr (s : State) : Host.Outcome State Fault Refusal :=
  .next (s.onPage 20 (opTsnClr))

/-- CVU_START (R611): CVU_CMD.START initialises a host unit and folds in the tag. -/
def execCvuStart (u : Fin 32) (s : State) : Host.Outcome State Fault Refusal :=
  .next (s.onPage 21 (opCvuStart u.val))

/-- CVU_FINISH (R612): CVU_CMD.FINISH forms the final value and MATCH. -/
def execCvuFinish (u : Fin 32) (s : State) : Host.Outcome State Fault Refusal :=
  .next (s.onPage 21 (opCvuFinish u.val))

/-- CVU_DATA (R612): A CVU_DATA write feeds 4 bytes to a host unit. -/
def execCvuData (u : Fin 32) (v : BitVec 32) (s : State) : Host.Outcome State Fault Refusal :=
  .next (s.onPage 21 (opCvuData u.val v))

/-- CVU_DATAB (R612): A CVU_DATAB write feeds 1 byte to a host unit. -/
def execCvuDatab (u : Fin 32) (v : BitVec 8) (s : State) : Host.Outcome State Fault Refusal :=
  .next (s.onPage 21 (opCvuDatab u.val v))

/-- CVU_RUN (R613): A CVU_RUN write sets the running value, or is discarded while data is fed. -/
def execCvuRun (u : Fin 32) (hi : Bool) (v : BitVec 32) (s : State) : Host.Outcome State Fault Refusal :=
  .next (s.onPage 21 (opCvuRun u.val hi v))

end Sys2Proof.Machine
end

