-- ==== Sys2Proof/Machine/PowerCmds.lean ====
section
/-!
DEFINITION. The commands of power states, clocks, temperature and the monitor.
-/
namespace Sys2Proof.Machine

/-- PWR_REQUEST (R723): CLK_PWR.REQ requests a power state, accepted or refused with PWR_REFUSED. -/
def execPwrRequest (req : BitVec 2) (s : State) : Host.Outcome State Fault Refusal :=
  .next (s.onPage 1 (opPwrRequest req.toNat))

/-- P0_EXIT_TEST_DONE (R725): The exit self-tests end and P0 is entered with rotation restarted. -/
def execP0ExitTestDone (te : BitVec 4) (sh : BitVec 2) (s : State) : Host.Outcome State Fault Refusal :=
  .next (opP0ExitTestDone te.toNat sh.toNat s)

/-- POWER_CAP_EVAL (R728): Each millisecond power and burst credit are assessed and capping measures are added or lifted. -/
def execPowerCapEval (mean : Nat) (pest : Nat) (s : State) : Host.Outcome State Fault Refusal :=
  .next (opPowerCapEval mean pest s)

/-- TEMP_CONVERSION (R729): Every 20 µs the sensor sites convert and Tj_max is compared with the thresholds. -/
def execTempConversion (ds : List (BitVec 12 × BitVec 12)) (s : State) : Host.Outcome State Fault Refusal :=
  .next (opTempConversion (ds.map fun x => (x.1.toNat, x.2.toNat)) s)

/-- THERMAL_FACTOR_STEP (R731): F_th steps down every 10 ms at 115 °C or up every 100 ms at 110 °C. -/
def execThermalFactorStep (s : State) : Host.Outcome State Fault Refusal :=
  .next (opThermalFactorStep s)

/-- TH_BURST_END (R730): Tj_max has stayed at or below 100 °C for 1 s and bursts are permitted again. -/
def execThBurstEnd (s : State) : Host.Outcome State Fault Refusal :=
  .next (opThBurstEnd s)

/-- REF_LOSS (R720): The reference clock leaves its window or stops. -/
def execRefLoss (stops : Bool) (s : State) : Host.Outcome State Fault Refusal :=
  .next (opRefLoss stops s)

/-- PLL_UNLOCK (R720): The root PLL loses lock. -/
def execPllUnlock (s : State) : Host.Outcome State Fault Refusal :=
  .next (opPllUnlock s)

/-- DOMAIN_FREQ_FAULT (R720): A running domain's count leaves its window, raising ENG_FREQ or DOM_FREQ. -/
def execDomainFreqFault (d : Fin 40) (count : Nat) (s : State) : Host.Outcome State Fault Refusal :=
  .next (opDomainFreqFault d.val count s)

/-- CLK_CLR (R746): CLK_CLR.CLR clears CLK_THMAX and CLK_NCAP. -/
def execClkClr (s : State) : Host.Outcome State Fault Refusal :=
  .next (s.onPage 1 (opClkClr))

/-- MNA_SLOT (R737): Every 1 ms the MNA grants or defers maintenance requests in priority order. -/
def execMnaSlot (rows : List ScrubRow) (s : State) : Host.Outcome State Fault Refusal :=
  .next (opMnaSlot rows s)

/-- SCRUB_LATE (R741): A scrub pass is not complete within 1.25 times its period. -/
def execScrubLate (dram : Bool) (s : State) : Host.Outcome State Fault Refusal :=
  .next (opScrubLate dram s)

/-- CMP_LATE (R741): A comparator group's injection is more than 1 ms late. -/
def execCmpLate (s : State) : Host.Outcome State Fault Refusal :=
  .next (opCmpLate s)

/-- ROT_LATE (R741): A tally engine has not passed a self-test within three rotation periods. -/
def execRotLate (e : Fin 4) (s : State) : Host.Outcome State Fault Refusal :=
  .next (opRotLate e.val s)

/-- MNA_CLR (R749): MNA_CLR.CLR clears every MNA_DEFERa. -/
def execMnaClr (s : State) : Host.Outcome State Fault Refusal :=
  .next (s.onPage 26 (opMnaClr))

end Sys2Proof.Machine
end

