-- ==== Sys2Proof/Machine/RecordCmds.lean ====
section
/-!
DEFINITION. The commands of event records and the recorder.
-/
namespace Sys2Proof.Machine

/-- ERC_IDX (R772): A service write of ERC_IDX copies the record into the service snapshot. -/
def execErcIdx (hi : Bool) (v : BitVec 32) (s : State) : Host.Outcome State Fault Refusal :=
  .next (opErcIdx hi v.toNat s)

/-- APPEND (R772): ERC_ANNCMD.APPEND writes a new annotation record. -/
def execAnnAppend (a : Fin 3) (clash : Bool) (s : State) : Host.Outcome State Fault Refusal :=
  .next (opAppend a.val clash s)

/-- REPLACE (R772): ERC_ANNCMD.REPLACE rewrites an annotation record, or is refused. -/
def execAnnReplace (a : Fin 3) (clash : Bool) (s : State) : Host.Outcome State Fault Refusal :=
  .next (opReplace a.val clash s)

/-- ERC_CLR (R779): ERC_CLR.CLR clears ERC_DROP and ERC_RLOST. -/
def execErcClr (s : State) : Host.Outcome State Fault Refusal :=
  .next (s.onPage 25 (opErcClr))

/-- MEM_CLR (R783): MEM_CLR.CLR clears MEM_NCE and MEM_NUE. -/
def execMemClr (s : State) : Host.Outcome State Fault Refusal :=
  .next (s.onPage 24 (opMemClr))

/-- RECORD_WRITE_DONE (R769): A queued event record reaches MRAM, freeing recorder queue space; the pending overflow record and the ring write follow. -/
def execRecordWriteDone (s : State) : Host.Outcome State Fault Refusal :=
  .next (opRecordWriteDone s)

end Sys2Proof.Machine
end

