-- ==== Sys2Proof/Machine/ReedCmds.lean ====
section
/-!
DEFINITION. The commands of reed links.
-/
namespace Sys2Proof.Machine

/-- REED_IDLE (R652): A received IDLE flit updates ACKSEQ. -/
def execReedIdle (h : FlitHdr) (s : State) : Host.Outcome State Fault Refusal :=
  .next (opReedIdle h s)

/-- REED_NAK (R653): A received NAK causes a replay from ACKSEQ + 1. -/
def execReedNak (h : FlitHdr) (s : State) : Host.Outcome State Fault Refusal :=
  .next (opReedNak h s)

/-- REED_REPLAY_TIMEOUT (R653): An unacknowledged flit older than 1 µs is replayed; eight replays cause a retrain. -/
def execReedReplayTimeout (p : Fin 4) (s : State) : Host.Outcome State Fault Refusal :=
  .next (opReedReplayTimeout p.val s)

/-- REED_TIME (R661): A TIME flit is answered, or completes an exchange that steers the servo. -/
def execReedTime (h : FlitHdr) (resp : Bool) (t1 : Int) (t2 : Int) (root : BitVec 6) (depth : BitVec 8) (s : State) : Host.Outcome State Fault Refusal :=
  .next (opReedTime h resp t1 t2 root.toNat depth.toNat s)

/-- REED_TIME_REQUEST (R661): Every REED_TPER µs a TIME request is sent upstream. -/
def execReedTimeRequest (s : State) : Host.Outcome State Fault Refusal :=
  .next (opReedTimeRequest s)

/-- REED_KEY (R665): A KEY flit delivers a transfer or audit key and is acknowledged, or is forwarded. -/
def execReedKey (h : FlitHdr) (auth : Bool) (purpose : BitVec 8) (site : BitVec 16) (stream : Fin 64) (kgen : BitVec 32) (fromRes : BitVec 64) (key : BitVec 256) (s : State) : Host.Outcome State Fault Refusal :=
  .next (opReedKey h auth purpose.toNat site.toNat stream.val kgen.toNat fromRes.toNat key.toNat s)

/-- REED_KEYACK (R665): A KEYACK confirms a sent KEY. -/
def execReedKeyack (h : FlitHdr) (purpose : BitVec 8) (site : BitVec 16) (stream : Fin 64) (kgen : BitVec 32) (s : State) : Host.Outcome State Fault Refusal :=
  .next (opReedKeyack h purpose.toNat site.toNat stream.val kgen.toNat s)

/-- REED_SIG (R671): A SIG flit is applied to the destination result's semaphore, waits, or is discarded. -/
def execReedSig (h : FlitHdr) (stream : Fin 64) (cnt : BitVec 8) (n : BitVec 14) (resseq : BitVec 64) (s : State) : Host.Outcome State Fault Refusal :=
  .next (State.watch (opReedSig h stream.val cnt.toNat n.toNat resseq.toNat s) true)

/-- REED_XVAL (R667): An XVAL flit enters the pending table, or is discarded. -/
def execReedXval (h : FlitHdr) (xid : BitVec 32) (resseq : BitVec 64) (token : BitVec 16) (prod : BitVec 2) (stream : Fin 64) (kgen : BitVec 32) (wins : List (BitVec 160 × BitVec 16)) (s : State) : Host.Outcome State Fault Refusal :=
  .next ((opReedXval h xid.toNat resseq.toNat token.toNat prod.toNat stream.val kgen.toNat (wins.map fun w => (w.1.toNat, w.2.toNat)) s).watch)

/-- ACC_DOWN (R659): A DOWN broadcast is acted on once, releasing waiters PEERDOWN and ending XFC checks, and is forwarded. -/
def execAccDown (h : FlitHdr) (reason : BitVec 8) (attempt : BitVec 32) (tevent : BitVec 64) (s : State) : Host.Outcome State Fault Refusal :=
  .next ((opAccDown h reason.toNat attempt.toNat tevent.toNat s).watch)

/-- ACC_UP (R659): An UP broadcast is acted on once and forwarded. -/
def execAccUp (h : FlitHdr) (reason : BitVec 8) (attempt : BitVec 32) (tevent : BitVec 64) (s : State) : Host.Outcome State Fault Refusal :=
  .next (opAccUp h reason.toNat attempt.toNat tevent.toNat s)

/-- AUDDATA (R675): AUDDATA flits deliver an audited check's operands, and the auditor runs the check. -/
def execAuddata (h : FlitHdr) (stream : Fin 64) (resseq : BitVec 64) (chk : BitVec 16) (site : BitVec 16) (res : Fin 3) (data : List Byte) (s : State) : Host.Outcome State Fault Refusal :=
  .next (opAuddata h stream.val resseq.toNat chk.toNat site.toNat res.val data s)

/-- AUDRES (R676): An AUDRES flit returns the auditor's outcome and may raise PEER_DIFF or PEER_MISS. -/
def execAudres (h : FlitHdr) (stream : Fin 64) (resseq : BitVec 64) (chk : BitVec 16) (own : Fin 3) (s : State) : Host.Outcome State Fault Refusal :=
  .next (opAudres h stream.val resseq.toNat chk.toNat own.val s)

/-- XVAL_EXPIRY (R667): A pending XVAL entry passes its site timeout and is counted as orphaned. -/
def execXvalExpiry (s : State) : Host.Outcome State Fault Refusal :=
  .next (opXvalExpiry s)

/-- REMOTE_SIG_EXPIRY (R671): A pending remote SIG waits 10 ms and is discarded. -/
def execRemoteSigExpiry (s : State) : Host.Outcome State Fault Refusal :=
  .next ((opRemoteSigExpiry s).watch)

/-- XFER_KEY_ROLLOVER (R664): Every PST_EPOCH a sending companion draws and sends a new transfer key. -/
def execXferKeyRollover (c : Fin 16) (site : BitVec 16) (s : State) : Host.Outcome State Fault Refusal :=
  .next (opXferKeyRollover c.val site.toNat s)

/-- AUDIT_KEY_ROLLOVER (R674): Every PST_EPOCH the auditor draws and sends a new audit key. -/
def execAuditKeyRollover (s : State) : Host.Outcome State Fault Refusal :=
  .next (opAuditKeyRollover s)

/-- REED_TRAIN_DONE (R649): Port training ends and the neighbour's device number is checked. -/
def execReedTrainDone (p : Fin 4) (res : Fin 3) (nbr : BitVec 6) (s : State) : Host.Outcome State Fault Refusal :=
  .next (opReedTrainDone p.val res.val nbr.toNat s)

/-- REED_KEY_AGREED (R705): Link key agreement completes and the port enters UP, or fails with KEY_FAIL. -/
def execReedKeyAgreed (p : Fin 4) (ok : Bool) (s : State) : Host.Outcome State Fault Refusal :=
  .next (opReedKeyAgreed p.val ok s)

/-- REED_PORT_DOWN (R660): A port leaves UP; peers behind it become unreachable and are treated as down. -/
def execReedPortDown (p : Fin 4) (s : State) : Host.Outcome State Fault Refusal :=
  .next ((opReedPortDown p.val s).watch)

/-- REED_PCLR (R681): REED_PCLR.CLR clears the port's counters. -/
def execReedPclr (p : Fin 4) (s : State) : Host.Outcome State Fault Refusal :=
  .next (s.onPage 22 (opReedPclr p.val))

/-- REED_CLR (R682): REED_CLR.CLR clears the REED counters. -/
def execReedClr (s : State) : Host.Outcome State Fault Refusal :=
  .next (s.onPage 22 (opReedClr))

end Sys2Proof.Machine
end

