-- ==== Sys2Proof/Machine/ResetCmds.lean ====
section
/-!
DEFINITION. The commands of resets, boot steps, link and function events.
-/
namespace Sys2Proof.Machine

/-- POWER_ON_RESET (R751): PORST_N low or VDD_AON below range resets every block, including the always-on domain, and sets the fatal latch. -/
def execPowerOnReset (s : State) : Host.Outcome State Fault Refusal :=
  .next (opPowerOnReset s)

/-- WRST_N_ASSERT (R751): WRST_N held low for at least 1 µs starts a warm reset of the core domain, every register and every key. -/
def execWrstNAssert (s : State) : Host.Outcome State Fault Refusal :=
  .next (opWrstNAssert s)

/-- BOOT_WRST (R752): A PF0 write to BOOT_WRST advances or cancels the 0xC3-then-0x3C sequence; the second key starts a warm reset. -/
def execBootWrst (key : BitVec 8) (s : State) : Host.Outcome State Fault Refusal :=
  .next (s.onPage 27 (opBootWrst key.toNat))

/-- SUPPLY_MONITOR_TRIP (R803): A monitored rail falls below its threshold and causes a power-on reset, a core power-good fall or a PLL unlock. -/
def execSupplyMonitorTrip (rail : Fin 5) (s : State) : Host.Outcome State Fault Refusal :=
  .next (opSupplyMonitorTrip rail.val s)

/-- CORE_LOSS (R18): Core power-good, reset or clock monitor reports loss of the core domain; the always-on domain forces the safe state. -/
def execCoreLoss (s : State) : Host.Outcome State Fault Refusal :=
  .next (opCoreLoss s)

/-- BOOT_STEP_DONE (R755): A boot step completes; the sequencer updates the ledger and starts the next step. -/
def execBootStepDone (b : BootStep) (s : State) : Host.Outcome State Fault Refusal :=
  .next (opBootStepDone b s)

/-- BOOT_STEP_TIMEOUT (R755): A boot step passes its Max and fails. -/
def execBootStepTimeout (s : State) : Host.Outcome State Fault Refusal :=
  .next (opBootStepTimeout s)

/-- CLRVAR (R757): BOOT_CMD.CLRVAR clears the boot variants from the next attempt onwards. -/
def execClrvar (s : State) : Host.Outcome State Fault Refusal :=
  .next (s.onPage 27 (opClrvar))

/-- HOST_PERST (R790): HOST_PERST_N low, hot reset or link down resets host configuration space and discards open transactions. -/
def execHostPerst (s : State) : Host.Outcome State Fault Refusal :=
  .next (opHostPerst s)

/-- PF0_FLR (R790): A function-level reset of PF0 resets its configuration and MSI-X state and discards open transactions. -/
def execPf0Flr (s : State) : Host.Outcome State Fault Refusal :=
  .next (opPf0Flr s)

/-- PF1_FLR (R790): A function-level reset of PF1 resets its configuration and MSI-X state and stops ring writes. -/
def execPf1Flr (s : State) : Host.Outcome State Fault Refusal :=
  .next (opPf1Flr s)

/-- D3HOT_ENTRY (R790): A function entering D3hot stops BAR decode and bus mastering. -/
def execD3hotEntry (f : Fin 4) (s : State) : Host.Outcome State Fault Refusal :=
  .next (opD3hotEntry f.val s)

/-- RESET_RELEASE (R755): Release of a power-on or warm reset (PORST_N or WRST_N rising with rails in range) starts a boot attempt at B0. -/
def execResetRelease (s : State) : Host.Outcome State Fault Refusal :=
  .next (opResetRelease s)

/-- HOST_LINK_UP (R789): The host port link trains up again after PERST_N, hot reset or link down, so PF1 ring writes and held records can resume. -/
def execHostLinkUp (s : State) : Host.Outcome State Fault Refusal :=
  .next (opHostLinkUp s)

/-- D0_ENTRY (R790): A function returns from D3hot to D0, resuming BAR decode and mastering; for a tap port, RESYNC follows. -/
def execD0Entry (f : Fin 4) (s : State) : Host.Outcome State Fault Refusal :=
  .next (opD0Entry f.val s)

/-- BUS_MASTER_ENABLE (R790): A configuration write of a function's Bus Master Enable starts or stops its mastering of ring writes, image fetches, handshakes and quotes. -/
def execBusMasterEnable (f : Fin 2) (on : Bool) (s : State) : Host.Outcome State Fault Refusal :=
  .next (opBusMasterEnable f.val on s)

end Sys2Proof.Machine
end

