-- ==== Sys2Proof/Machine/RestartCmds.lean ====
section
/-!
DEFINITION. The commands of accelerator hang and restart.
-/
namespace Sys2Proof.Machine

/-- HANG (R564): An open command entry reaches its class timeout and raises HANG, triggering the stream's reaction. -/
def execHang (id : BitVec 10) (s : State) : Host.Outcome State Fault Refusal :=
  .next (opHang id.toNat s)

/-- RESTART_QUIESCED (R571): Both ports are quiesced; the reset balls go low and the table is cleared. -/
def execRestartQuiesced (s : State) : Host.Outcome State Fault Refusal :=
  .next (opRestartQuiesced s)

/-- RESTART_RESET_LOW (R571): Both reset readbacks show low and the reset hold starts. -/
def execRestartResetLow (s : State) : Host.Outcome State Fault Refusal :=
  .next (opRestartResetLow s)

/-- RESTART_HOLD_EXPIRY (R571): RSTHOLD or RSTLONG passes; the balls are released and RDYPORT is unquiesced. -/
def execRestartHoldExpiry (s : State) : Host.Outcome State Fault Refusal :=
  .next (opRestartHoldExpiry s)

/-- RESTART_RESET_HIGH (R573): Both reset readbacks show high and WAIT_READY begins. -/
def execRestartResetHigh (s : State) : Host.Outcome State Fault Refusal :=
  .next (opRestartResetHigh s)

/-- READY_TO (R574): No valid READY arrives within RDYTO or RDYTOF; the attempt fails. -/
def execReadyTo (s : State) : Host.Outcome State Fault Refusal :=
  .next (opReadyTo s)

/-- REPLAY_DONE (R576): ACB_RCMD.REPLAY_DONE ends step 6 and starts re-admission. -/
def execReplayDone (s : State) : Host.Outcome State Fault Refusal :=
  .next (s.onPage 19 (opReplayDone))

/-- REPLAY_TO (R577): RPLTO passes in step 6; the streams are re-admitted in RESET mode. -/
def execReplayTo (s : State) : Host.Outcome State Fault Refusal :=
  .next (opReplayTo s)

/-- RST_RB (R569): A compute-reset ball differs from its driven level for more than 20 ns. -/
def execRstRb (ball : Fin 2) (s : State) : Host.Outcome State Fault Refusal :=
  .next (opRstRb ball.val s)

/-- ACC_RUN (R568): A write of ACB_CTRL.ACC_RUN drives the compute-reset balls, or is refused during a restart. -/
def execAccRun (v : Bool) (s : State) : Host.Outcome State Fault Refusal :=
  .next (s.onPage 19 (opAccRun v))

/-- CLRSKIP (R581): ACB_RCMD.CLRSKIP clears the SKIPRPL variant. -/
def execClrskip (s : State) : Host.Outcome State Fault Refusal :=
  .next (s.onPage 19 (opClrskip))

/-- CLRRELOAD (R581): ACB_RCMD.CLRRELOAD clears the RELOAD variant. -/
def execClrreload (s : State) : Host.Outcome State Fault Refusal :=
  .next (s.onPage 19 (opClrreload))

/-- ACB_CCLR (R589): ACB_CCLR.CLR clears the class's counters and ACB_CMAX. -/
def execAcbCclr (c : Fin 16) (s : State) : Host.Outcome State Fault Refusal :=
  .next (s.onPage 19 (opAcbCclr c.val))

/-- ACB_CLR (R590): ACB_CLR.CLR clears ACB_NDISC and every class's counters. -/
def execAcbClr (s : State) : Host.Outcome State Fault Refusal :=
  .next (s.onPage 19 (opAcbClr))

end Sys2Proof.Machine
end

