-- ==== Sys2Proof/Machine/SafetyCmds.lean ====
section
/-!
DEFINITION. The commands of safety inputs and outputs, and the brake test.
-/
namespace Sys2Proof.Machine

/-- SIO_TICK (R491): Every 10 µs the SIO samples inputs, updates pairs and the function table, and drives the balls. -/
def execSioTick (dciA : BitVec 32) (dciB : BitVec 32) (fbkA : BitVec 24) (fbkB : BitVec 24) (edges : List (BitVec 7 × BitVec 64)) (s : State) : Host.Outcome State Fault Refusal :=
  .next (opSioTick dciA dciB fbkA fbkB (edges.map fun x => (x.1.toNat, x.2.toNat)) s)

/-- FILTER_CHANGE (R492): A differing sample persists for the filter time and the filtered level changes. -/
def execFilterChange (fbk : Bool) (n : Fin 32) (chB : Bool) (s : State) : Host.Outcome State Fault Refusal :=
  .next (opFilterChange fbk n.val chB s)

/-- DISCREP (R495): A disagreement lasts D + 1 ticks; DISCREP is raised and the pair latches. -/
def execDiscrep (n : Fin 32) (s : State) : Host.Outcome State Fault Refusal :=
  .next (opDiscrep n.val s)

/-- FEEDBACK (R500): A feedback input differs from its expected level beyond T_fb, and the output faults or stays OFF. -/
def execFeedback (k : Fin 24) (s : State) : Host.Outcome State Fault Refusal :=
  .next (opFeedback k.val s)

/-- READBACK (R499): A drive ball's readback differs from its driven level more than 2 µs after a tick; the output faults. -/
def execReadback (k : Fin 24) (a : Bool) (b : Bool) (s : State) : Host.Outcome State Fault Refusal :=
  .next (opReadback k.val a b s)

/-- TEST_PULSE_START (R501): At the pulse period a drive ball is pulsed to 0 for TPW. -/
def execTestPulseStart (k : Fin 24) (s : State) : Host.Outcome State Fault Refusal :=
  .next (opTestPulseStart k.val s)

/-- TEST_PULSE_END (R501): TPW ends and the ball returns to 1; a readback mismatch raises TESTPULSE. -/
def execTestPulseEnd (k : Fin 24) (a : Bool) (b : Bool) (s : State) : Host.Outcome State Fault Refusal :=
  .next (opTestPulseEnd k.val a b s)

/-- GROUP_ON (R505): SIO_Gg_CMD.ON sets the group's ONREQ. -/
def execGroupOn (g : Fin 8) (s : State) : Host.Outcome State Fault Refusal :=
  .next (s.onPage 18 (opGroupOn g.val))

/-- GROUP_OFF (R505): SIO_Gg_CMD.OFF clears the group's ONREQ. -/
def execGroupOff (g : Fin 8) (s : State) : Host.Outcome State Fault Refusal :=
  .next (s.onPage 18 (opGroupOff g.val))

/-- RELATCH (R503): SBO_SCMD.RELATCH releases a FAULT output to OFF once its cause is gone. -/
def execRelatch (k : Fin 24) (s : State) : Host.Outcome State Fault Refusal :=
  .next (s.onPage 18 (opRelatch k.val))

/-- BT_START (R507): SIO_BTCMD.START requests a brake test of an output. -/
def execBtStart (k : BitVec 5) (s : State) : Host.Outcome State Fault Refusal :=
  .next (s.onPage 18 (opBtStart k.toNat))

/-- BT_ABORT (R516): SIO_BTCMD.ABORT ends the running brake test ABORTED with reason HOST. -/
def execBtAbort (s : State) : Host.Outcome State Fault Refusal :=
  .next (s.onPage 18 (opBtAbort))

/-- BT_NOGRANT (R507): No grant arrives within 1 s; the test ends ABORTED NOGRANT. -/
def execBtNogrant (s : State) : Host.Outcome State Fault Refusal :=
  .next (opBtNogrant s)

/-- BT_ENGAGE (R507): At t_g + 1 ms the output goes to TEST with both balls at 0. -/
def execBtEngage (s : State) : Host.Outcome State Fault Refusal :=
  .next (opBtEngage s)

/-- BT_FBK_DEADLINE (R507): Feedback has not read released by t_g + 1 ms + T_fb; the test ends FAIL_FBK. -/
def execBtFbkDeadline (s : State) : Host.Outcome State Fault Refusal :=
  .next (opBtFbkDeadline s)

/-- BT_TORQUE (R507): At TON the reference position is taken and deviation checking begins. -/
def execBtTorque (s : State) : Host.Outcome State Fault Refusal :=
  .next (opBtTorque s)

/-- BT_RELEASE (R507): At TOFF + SETTLE the test ends with its result and the output leaves TEST. -/
def execBtRelease (s : State) : Host.Outcome State Fault Refusal :=
  .next (opBtRelease s)

/-- BT_DUE (R510): The elapsed time since the last pass reaches BTINT. -/
def execBtDue (k : Fin 24) (s : State) : Host.Outcome State Fault Refusal :=
  .next (opBtDue k.val s)

/-- BT_OVERDUE (R510): The elapsed time reaches 2 × BTINT and the output is held OFF. -/
def execBtOverdue (k : Fin 24) (s : State) : Host.Outcome State Fault Refusal :=
  .next (opBtOverdue k.val s)

/-- DCI_SCLR (R518): DCI_SCLR.CLR clears the channel's counters. -/
def execDciSclr (n : Fin 32) (s : State) : Host.Outcome State Fault Refusal :=
  .next (s.onPage 18 (opDciSclr n.val))

end Sys2Proof.Machine
end

