-- ==== Sys2Proof/Machine/ServiceCmds.lean ====
section
/-!
DEFINITION. The commands of the service port and the boundary scan port.
-/
namespace Sys2Proof.Machine

/-- SVC_READ (R795): A service SPI READ frame returns words with CRC and STATUS. -/
def execSvcRead (addr : BitVec 24) (ch : BitVec 16) (nw : BitVec 8) (b7 : BitVec 8) (s : State) : Host.Outcome State Fault Refusal :=
  .next (opSvcRead addr.toNat ch.toNat nw.toNat b7.toNat s)

/-- SVC_WRITE (R795): A service SPI WRITE frame applies permitted words after its CRC check. -/
def execSvcWrite (op : BitVec 8) (addr : BitVec 24) (ch : BitVec 16) (b7 : BitVec 8) (data : List (BitVec 32)) (crc : BitVec 16) (clash : Bool) (s : State) : Host.Outcome State Fault Refusal :=
  .next (opSvcWrite op.toNat addr.toNat ch.toNat b7.toNat data crc.toNat clash s)

/-- SVC_FRAME_ABORT (R795): SVC_CS_N rises before STATUS and the frame applies nothing. -/
def execSvcFrameAbort (s : State) : Host.Outcome State Fault Refusal :=
  .next (opSvcFrameAbort s)

/-- IDCODE (R796): The JTAG IDCODE instruction returns the device ID. -/
def execIdcode (s : State) : Host.Outcome State Fault Refusal :=
  .next (opIdcode s)

/-- BYPASS (R796): The JTAG BYPASS instruction selects the 1-bit register. -/
def execBypass (s : State) : Host.Outcome State Fault Refusal :=
  .next (opBypass s)

/-- CHALLENGE (R710): The JTAG CHALLENGE read returns SERIAL and a fresh nonce. -/
def execChallenge (s : State) : Host.Outcome State Fault Refusal :=
  .next (opChallenge s)

/-- TOKEN (R710): A JTAG TOKEN is verified and opens debug, or raises DBG_BAD. -/
def execToken (b : List Byte) (s : State) : Host.Outcome State Fault Refusal :=
  .next (opToken b s)

/-- REGACC (R796): JTAG REGACC performs one register access under R60. -/
def execRegacc (woff : BitVec 22) (wr : Bool) (data : BitVec 32) (s : State) : Host.Outcome State Fault Refusal :=
  .next (opRegacc woff.toNat wr data.toNat s)

/-- SCANDUMP (R796): JTAG SCANDUMP shifts the internal scan chains. -/
def execScandump (s : State) : Host.Outcome State Fault Refusal :=
  .next (opScandump s)

/-- SAMPLE_PRELOAD (R796): JTAG SAMPLE/PRELOAD captures the boundary scan chain. -/
def execSamplePreload (v : List Bool) (s : State) : Host.Outcome State Fault Refusal :=
  .next (opSamplePreload v s)

/-- EXTEST (R797): JTAG EXTEST drives boundary-scan balls, excluding the safety outputs. -/
def execExtest (v : List Bool) (s : State) : Host.Outcome State Fault Refusal :=
  .next (opExtest v s)

end Sys2Proof.Machine
end

