-- ==== Sys2Proof/Machine/StoreCmds.lean ====
section
/-!
DEFINITION. The commands of Plan Store keys and sites.
-/
namespace Sys2Proof.Machine

/-- KEYUP_COMPLETE (R226): Every matrix of a context has its vectors installed; the context's streams are admitted. -/
def execKeyupComplete (c : Fin 16) (s : State) : Host.Outcome State Fault Refusal :=
  .next (opKeyupComplete c.val s)

/-- KEYUP_TO (R227): Key-up has not completed PST_KUPTO seconds after apply. -/
def execKeyupTo (c : Fin 16) (s : State) : Host.Outcome State Fault Refusal :=
  .next (opKeyupTo c.val s)

/-- ABORT_KEYUP (R227): PST_CCMD.ABORT_KEYUP unloads a context that is in key-up. -/
def execAbortKeyup (c : Fin 16) (s : State) : Host.Outcome State Fault Refusal :=
  .next (s.onPage 15 fun s => (opAbortKeyup c.val s).watch)

/-- REKEY_ALL (R234): PST_CCMD.REKEY_ALL queues every matrix of the context for priority re-key. -/
def execRekeyAll (c : Fin 16) (s : State) : Host.Outcome State Fault Refusal :=
  .next (s.onPage 15 (opRekeyAll c.val))

/-- REKEY_REQUEST (R232): A matrix reaches 0.9 × PST_EPOCH and requests a re-key from the MNA. -/
def execRekeyRequest (c : Fin 16) (site : BitVec 16) (s : State) : Host.Outcome State Fault Refusal :=
  .next (opRekeyRequest c.val site.toNat s)

/-- REKEY_LATE (R232): A matrix reaches PST_EPOCH uninstalled; its request becomes an epoch-limit request. -/
def execRekeyLate (c : Fin 16) (site : BitVec 16) (s : State) : Host.Outcome State Fault Refusal :=
  .next (opRekeyLate c.val site.toNat s)

/-- REKEY_EXPIRED (R232): A matrix reaches 2 × PST_EPOCH; its checks end NOT DONE. -/
def execRekeyExpired (c : Fin 16) (site : BitVec 16) (s : State) : Host.Outcome State Fault Refusal :=
  .next (opRekeyExpired c.val site.toNat s)

/-- MATRIX_INSTALL (R230): New vectors are encoded and installed, and GEN increments. -/
def execMatrixInstall (c : Fin 16) (site : BitVec 16) (s : State) : Host.Outcome State Fault Refusal :=
  .next ((opMatrixInstall c.val site.toNat s).watch)

/-- PST_CLR (R239): PST_CLR.CLR clears the re-key, window-loss and saturation counters. -/
def execPstClr (s : State) : Host.Outcome State Fault Refusal :=
  .next (s.onPage 15 (opPstClr))

end Sys2Proof.Machine
end

