-- ==== Sys2Proof/Machine/SyncCmds.lean ====
section
/-!
DEFINITION. The commands of semaphores and deadlock.
-/
namespace Sys2Proof.Machine

/-- SEM_SIGNAL (R400): A signal arrives at a semaphore and is applied, saturated, or discarded by ownership. -/
def execSemSignal (src : BitVec 4) (dev : BitVec 6) (c : Fin 16) (n : BitVec 14) (cnt : BitVec 8) (s : State) : Host.Outcome State Fault Refusal :=
  .next (State.watch (opSemSignal src.toNat dev.toNat c.val n.toNat cnt.toNat s) true)

/-- DEADLOCK (R416): The deadlock timer reaches 65,536 fabric cycles; heads are snapshotted and released. -/
def execDeadlock (s : State) : Host.Outcome State Fault Refusal :=
  .next ((opDeadlock s).watch)

/-- SEM_INIT (R411): SEM_SCMD.INIT returns an ABANDONED semaphore to ACTIVE with count 0. -/
def execSemInit (n : BitVec 14) (s : State) : Host.Outcome State Fault Refusal :=
  .next ((s.onPage 5 (opSemInit n.toNat)).watch)

/-- SEM_ABANDON (R409): SEM_SCMD.ABANDON makes an ACTIVE semaphore ABANDONED. -/
def execSemAbandon (n : BitVec 14) (s : State) : Host.Outcome State Fault Refusal :=
  .next ((s.onPage 5 (opSemAbandon n.toNat)).watch)

/-- SEM_CLR (R421): SEM_CLR.CLR clears the SEM counters and the snapshot. -/
def execSemClr (s : State) : Host.Outcome State Fault Refusal :=
  .next (s.onPage 5 (opSemClr))

end Sys2Proof.Machine
end

