-- ==== Sys2Proof/Machine/VerdictCmds.lean ====
section
/-!
DEFINITION. The commands of verdicts, output gate, rings and modes.
-/
namespace Sys2Proof.Machine

/-- VERDICT_DEADLINE (R362): TBU time reaches a result's deadline; the record is formed and the remaining jobs purge. -/
def execVerdictDeadline (i : Fin 64) (q : BitVec 64) (s : State) : Host.Outcome State Fault Refusal :=
  .next ((opVerdictDeadline i.val q.toNat s).watch)

/-- BIND_JUDGE (R276): The VDU judges the INPUT_BIND entries once digests, earlier verdicts and tensors are available. -/
def execBindJudge (i : Fin 64) (q : BitVec 64) (s : State) : Host.Outcome State Fault Refusal :=
  .next (opBindJudge i.val q.toNat s)

/-- OUTPUT_GATE_PASS (R372): A tagged record passes the output gate in sequence order, goes to the host ring and TSN queue, and may be forced. -/
def execOutputGatePass (i : Fin 64) (s : State) : Host.Outcome State Fault Refusal :=
  .next (opOutputGatePass i.val s)

/-- CIDX_WRITE (R376): A host write of a ring's CIDX frees space, or is discarded with ACCESS when invalid. -/
def execCidxWrite (r : Fin 9) (v : BitVec 32) (s : State) : Host.Outcome State Fault Refusal :=
  .next (opCidxWriteAll r.val v.toNat s)

/-- RING_MOD_TIMER (R378): MOD_US passes since the first unsignalled record, and the ring's MSI-X vector fires. -/
def execRingModTimer (r : Fin 9) (s : State) : Host.Outcome State Fault Refusal :=
  .next (opRingModTimerAll r.val s)

/-- CTXRST (R263): VDU_SCTRL.CTXRST requests a context reset of a stream at its next result boundary. -/
def execCtxrst (i : Fin 64) (s : State) : Host.Outcome State Fault Refusal :=
  .next (s.onPage 16 (opCtxrst i.val))

/-- CTX_RESET_APPLY (R263): At the result boundary the stream's count, KV copy and hulls are emptied. -/
def execCtxResetApply (i : Fin 64) (s : State) : Host.Outcome State Fault Refusal :=
  .next (opCtxResetApply i.val s)

/-- SHED_EVAL (R350): After a capacity change the shed controller sheds entries or suspends streams until no deficit remains. -/
def execShedEval (s : State) : Host.Outcome State Fault Refusal :=
  .next (opShedEval s)

/-- SHED_RESTORE (R356): An item has been restorable for 100 ms and is restored, with any following items. -/
def execShedRestore (s : State) : Host.Outcome State Fault Refusal :=
  .next (opShedRestore s)

/-- VDU_SCLR (R389): VDU_SCLR.CLR clears the stream's counters and SMINMARG. -/
def execVduSclr (i : Fin 64) (s : State) : Host.Outcome State Fault Refusal :=
  .next (s.onPage 16 (opVduSclr i.val))

/-- VDU_CLR (R390): VDU_CLR.CLR clears VDU_HOLD and VDU_TSNLATE. -/
def execVduClr (s : State) : Host.Outcome State Fault Refusal :=
  .next (s.onPage 16 (opVduClr))

end Sys2Proof.Machine
end

