-- ==== Sys2Proof/Machine/Dispatch.lean ====
section
/-!
DEFINITION. One arm for each command: a direct call of its meaning, or its refusal by name.
-/
namespace Sys2Proof.Machine

def exec (cmd : Instr) (s : State) : Host.Outcome State Fault Refusal :=
  match cmd with
  | .powerOnReset => Sys2Proof.Machine.execPowerOnReset s
  | .wrstNAssert => Sys2Proof.Machine.execWrstNAssert s
  | .bootWrst key => Sys2Proof.Machine.execBootWrst key s
  | .supplyMonitorTrip rail => Sys2Proof.Machine.execSupplyMonitorTrip rail s
  | .coreLoss => Sys2Proof.Machine.execCoreLoss s
  | .bootStepDone b => Sys2Proof.Machine.execBootStepDone b s
  | .bootStepTimeout => Sys2Proof.Machine.execBootStepTimeout s
  | .clrvar => Sys2Proof.Machine.execClrvar s
  | .hostPerst => Sys2Proof.Machine.execHostPerst s
  | .pf0Flr => Sys2Proof.Machine.execPf0Flr s
  | .pf1Flr => Sys2Proof.Machine.execPf1Flr s
  | .d3hotEntry f => Sys2Proof.Machine.execD3hotEntry f s
  | .regWrite off v full mem => Sys2Proof.Machine.execRegWrite off v full mem s
  | .txnBegin => Sys2Proof.Machine.execTxnBegin s
  | .txnCommit ecc => Sys2Proof.Machine.execTxnCommit ecc s
  | .txnAbort => Sys2Proof.Machine.execTxnAbort s
  | .txnOpenTimeout => Sys2Proof.Machine.execTxnOpenTimeout s
  | .txnChecksDone images => Sys2Proof.Machine.execTxnChecksDone images s
  | .txnArmedExpiry => Sys2Proof.Machine.execTxnArmedExpiry s
  | .txnApply => Sys2Proof.Machine.execTxnApply s
  | .txnApplyAcked => Sys2Proof.Machine.execTxnApplyAcked s
  | .applyIncomplete late => Sys2Proof.Machine.execApplyIncomplete late s
  | .contextEmpty c => Sys2Proof.Machine.execContextEmpty c s
  | .glbLock => Sys2Proof.Machine.execGlbLock s
  | .blkRst p => Sys2Proof.Machine.execBlkRst p s
  | .injArm p src chan => Sys2Proof.Machine.execInjArm p src chan s
  | .faultAck p mask => Sys2Proof.Machine.execFaultAck p mask s
  | .faultOccurrence p src chan stream unit ref inj => Sys2Proof.Machine.execFaultOccurrence p src chan stream unit ref inj s
  | .injWindowExpiry p src chan => Sys2Proof.Machine.execInjWindowExpiry p src chan s
  | .injNotxn p src chan => Sys2Proof.Machine.execInjNotxn p src chan s
  | .sscRel key => Sys2Proof.Machine.execSscRel key s
  | .safenRb => Sys2Proof.Machine.execSafenRb s
  | .cicadaRb level => Sys2Proof.Machine.execCicadaRb level s
  | .restartLineTimeout => Sys2Proof.Machine.execRestartLineTimeout s
  | .restartTo => Sys2Proof.Machine.execRestartTo s
  | .tapRingWrite p off d ok => Sys2Proof.Machine.execTapRingWrite p off d ok s
  | .tapRingRead p => Sys2Proof.Machine.execTapRingRead p s
  | .tapStatusWrite p => Sys2Proof.Machine.execTapStatusWrite p s
  | .partTo p => Sys2Proof.Machine.execPartTo p s
  | .bpLong p => Sys2Proof.Machine.execBpLong p s
  | .tapLinkDown p => Sys2Proof.Machine.execTapLinkDown p s
  | .tapLinkUp p => Sys2Proof.Machine.execTapLinkUp p s
  | .tapFlr p => Sys2Proof.Machine.execTapFlr p s
  | .flush p => Sys2Proof.Machine.execFlush p s
  | .quiesceSet p => Sys2Proof.Machine.execQuiesceSet p s
  | .quiesceClear p => Sys2Proof.Machine.execQuiesceClear p s
  | .beginResult i => Sys2Proof.Machine.execBeginResult i s
  | .bankWaitTimeout i => Sys2Proof.Machine.execBankWaitTimeout i s
  | .endResult i => Sys2Proof.Machine.execEndResult i s
  | .tensor i => Sys2Proof.Machine.execTensor i s
  | .kvAppend i => Sys2Proof.Machine.execKvAppend i s
  | .acc32 i => Sys2Proof.Machine.execAcc32 i s
  | .inputBind i => Sys2Proof.Machine.execInputBind i s
  | .actionRec i => Sys2Proof.Machine.execActionRec i s
  | .retract i => Sys2Proof.Machine.execRetract i s
  | .cmdBegin i => Sys2Proof.Machine.execCmdBegin i s
  | .cmdEnd i => Sys2Proof.Machine.execCmdEnd i s
  | .readyRec p => Sys2Proof.Machine.execReadyRec p s
  | .weightChunk p => Sys2Proof.Machine.execWeightChunk p s
  | .pad p => Sys2Proof.Machine.execPad p s
  | .tapSclr p i => Sys2Proof.Machine.execTapSclr p i s
  | .tapClr p => Sys2Proof.Machine.execTapClr p s
  | .keyupComplete c => Sys2Proof.Machine.execKeyupComplete c s
  | .keyupTo c => Sys2Proof.Machine.execKeyupTo c s
  | .abortKeyup c => Sys2Proof.Machine.execAbortKeyup c s
  | .rekeyAll c => Sys2Proof.Machine.execRekeyAll c s
  | .rekeyRequest c site => Sys2Proof.Machine.execRekeyRequest c site s
  | .rekeyLate c site => Sys2Proof.Machine.execRekeyLate c site s
  | .rekeyExpired c site => Sys2Proof.Machine.execRekeyExpired c site s
  | .matrixInstall c site => Sys2Proof.Machine.execMatrixInstall c site s
  | .pstClr => Sys2Proof.Machine.execPstClr s
  | .jobStart q => Sys2Proof.Machine.execJobStart q s
  | .ldp q => Sys2Proof.Machine.execLdp q s
  | .ldpLand q fails site => Sys2Proof.Machine.execLdpLand q fails site s
  | .pry q => Sys2Proof.Machine.execPry q s
  | .dtxProj q => Sys2Proof.Machine.execDtxProj q s
  | .dtxSqsum q => Sys2Proof.Machine.execDtxSqsum q s
  | .dtxSum q => Sys2Proof.Machine.execDtxSum q s
  | .dtxDot q => Sys2Proof.Machine.execDtxDot q s
  | .cmpb q => Sys2Proof.Machine.execCmpb q s
  | .resxAcc q => Sys2Proof.Machine.execResxAcc q s
  | .resxInput q => Sys2Proof.Machine.execResxInput q s
  | .resxCmp q => Sys2Proof.Machine.execResxCmp q s
  | .elm q => Sys2Proof.Machine.execElm q s
  | .rteSelect q => Sys2Proof.Machine.execRteSelect q s
  | .rteGate q => Sys2Proof.Machine.execRteGate q s
  | .tokslice q => Sys2Proof.Machine.execTokslice q s
  | .tokjoin q => Sys2Proof.Machine.execTokjoin q s
  | .envCheck q => Sys2Proof.Machine.execEnvCheck q s
  | .envAddrow q => Sys2Proof.Machine.execEnvAddrow q s
  | .envCommit q => Sys2Proof.Machine.execEnvCommit q s
  | .envRebuild q => Sys2Proof.Machine.execEnvRebuild q s
  | .envRecomp q => Sys2Proof.Machine.execEnvRecomp q s
  | .xfs q => Sys2Proof.Machine.execXfs q s
  | .xfc q => Sys2Proof.Machine.execXfc q s
  | .xferTo q => Sys2Proof.Machine.execXferTo q s
  | .sig q => Sys2Proof.Machine.execSig q s
  | .wai q => Sys2Proof.Machine.execWai q s
  | .jobDone q => Sys2Proof.Machine.execJobDone q s
  | .teClockGate e => Sys2Proof.Machine.execTeClockGate e s
  | .spareHandoverDone e => Sys2Proof.Machine.execSpareHandoverDone e s
  | .teSelftestDone e pass phase us => Sys2Proof.Machine.execTeSelftestDone e pass phase us s
  | .takeoverCopyDone e lostQ lostSt => Sys2Proof.Machine.execTakeoverCopyDone e lostQ lostSt s
  | .teClr e => Sys2Proof.Machine.execTeClr e s
  | .semSignal src dev c n cnt => Sys2Proof.Machine.execSemSignal src dev c n cnt s
  | .deadlock => Sys2Proof.Machine.execDeadlock s
  | .semInit n => Sys2Proof.Machine.execSemInit n s
  | .semAbandon n => Sys2Proof.Machine.execSemAbandon n s
  | .semClr => Sys2Proof.Machine.execSemClr s
  | .verdictDeadline i q => Sys2Proof.Machine.execVerdictDeadline i q s
  | .bindJudge i q => Sys2Proof.Machine.execBindJudge i q s
  | .outputGatePass i => Sys2Proof.Machine.execOutputGatePass i s
  | .cidxWrite r v => Sys2Proof.Machine.execCidxWrite r v s
  | .ringModTimer r => Sys2Proof.Machine.execRingModTimer r s
  | .ctxrst i => Sys2Proof.Machine.execCtxrst i s
  | .ctxResetApply i => Sys2Proof.Machine.execCtxResetApply i s
  | .shedEval => Sys2Proof.Machine.execShedEval s
  | .shedRestore => Sys2Proof.Machine.execShedRestore s
  | .vduSclr i => Sys2Proof.Machine.execVduSclr i s
  | .vduClr => Sys2Proof.Machine.execVduClr s
  | .holdReq => Sys2Proof.Machine.execHoldReq s
  | .handoverDone bad => Sys2Proof.Machine.execHandoverDone bad s
  | .holdRelease => Sys2Proof.Machine.execHoldRelease s
  | .splitReq => Sys2Proof.Machine.execSplitReq s
  | .policyStepStart poison => Sys2Proof.Machine.execPolicyStepStart poison s
  | .policyStepDone ck => Sys2Proof.Machine.execPolicyStepDone ck s
  | .holdStepDeadline => Sys2Proof.Machine.execHoldStepDeadline s
  | .holdFrameLaunch => Sys2Proof.Machine.execHoldFrameLaunch s
  | .monitorStepStart => Sys2Proof.Machine.execMonitorStepStart s
  | .monitorStepDone ck => Sys2Proof.Machine.execMonitorStepDone ck s
  | .sarJobStart e => Sys2Proof.Machine.execSarJobStart e s
  | .sarJobDone e ck => Sys2Proof.Machine.execSarJobDone e ck s
  | .mantisSelftestStart e => Sys2Proof.Machine.execMantisSelftestStart e s
  | .mantisSelftestDone e pass => Sys2Proof.Machine.execMantisSelftestDone e pass s
  | .shReturn e => Sys2Proof.Machine.execShReturn e s
  | .shClr e => Sys2Proof.Machine.execShClr e s
  | .mntClr => Sys2Proof.Machine.execMntClr s
  | .actionJudge i q => Sys2Proof.Machine.execActionJudge i q s
  | .encStale j => Sys2Proof.Machine.execEncStale j s
  | .atRestReached j => Sys2Proof.Machine.execAtRestReached j s
  | .reseed j => Sys2Proof.Machine.execReseed j s
  | .aeuClr => Sys2Proof.Machine.execAeuClr s
  | .sioTick dciA dciB fbkA fbkB edges => Sys2Proof.Machine.execSioTick dciA dciB fbkA fbkB edges s
  | .filterChange fbk n chB => Sys2Proof.Machine.execFilterChange fbk n chB s
  | .discrep n => Sys2Proof.Machine.execDiscrep n s
  | .feedback k => Sys2Proof.Machine.execFeedback k s
  | .readback k a b => Sys2Proof.Machine.execReadback k a b s
  | .testPulseStart k => Sys2Proof.Machine.execTestPulseStart k s
  | .testPulseEnd k a b => Sys2Proof.Machine.execTestPulseEnd k a b s
  | .groupOn g => Sys2Proof.Machine.execGroupOn g s
  | .groupOff g => Sys2Proof.Machine.execGroupOff g s
  | .relatch k => Sys2Proof.Machine.execRelatch k s
  | .btStart k => Sys2Proof.Machine.execBtStart k s
  | .btAbort => Sys2Proof.Machine.execBtAbort s
  | .btNogrant => Sys2Proof.Machine.execBtNogrant s
  | .btEngage => Sys2Proof.Machine.execBtEngage s
  | .btFbkDeadline => Sys2Proof.Machine.execBtFbkDeadline s
  | .btTorque => Sys2Proof.Machine.execBtTorque s
  | .btRelease => Sys2Proof.Machine.execBtRelease s
  | .btDue k => Sys2Proof.Machine.execBtDue k s
  | .btOverdue k => Sys2Proof.Machine.execBtOverdue k s
  | .dciSclr n => Sys2Proof.Machine.execDciSclr n s
  | .hang id => Sys2Proof.Machine.execHang id s
  | .restartQuiesced => Sys2Proof.Machine.execRestartQuiesced s
  | .restartResetLow => Sys2Proof.Machine.execRestartResetLow s
  | .restartHoldExpiry => Sys2Proof.Machine.execRestartHoldExpiry s
  | .restartResetHigh => Sys2Proof.Machine.execRestartResetHigh s
  | .readyTo => Sys2Proof.Machine.execReadyTo s
  | .replayDone => Sys2Proof.Machine.execReplayDone s
  | .replayTo => Sys2Proof.Machine.execReplayTo s
  | .rstRb ball => Sys2Proof.Machine.execRstRb ball s
  | .accRun v => Sys2Proof.Machine.execAccRun v s
  | .clrskip => Sys2Proof.Machine.execClrskip s
  | .clrreload => Sys2Proof.Machine.execClrreload s
  | .acbCclr c => Sys2Proof.Machine.execAcbCclr c s
  | .acbClr => Sys2Proof.Machine.execAcbClr s
  | .tbuStep => Sys2Proof.Machine.execTbuStep s
  | .tbuClr => Sys2Proof.Machine.execTbuClr s
  | .syncLost => Sys2Proof.Machine.execSyncLost s
  | .ptpSync p seq twoStep origin corr => Sys2Proof.Machine.execPtpSync p seq twoStep origin corr s
  | .followUp p seq origin corr => Sys2Proof.Machine.execFollowUp p seq origin corr s
  | .pdelayReq p seq => Sys2Proof.Machine.execPdelayReq p seq s
  | .pdelayResp p seq t2 t3 => Sys2Proof.Machine.execPdelayResp p seq t2 t3 s
  | .pdelayReqSend p => Sys2Proof.Machine.execPdelayReqSend p s
  | .gmSyncSend p => Sys2Proof.Machine.execGmSyncSend p s
  | .announceRx p => Sys2Proof.Machine.execAnnounceRx p s
  | .ethFrameRx p b fcsOk => Sys2Proof.Machine.execEthFrameRx p b fcsOk s
  | .ethFrameTx p => Sys2Proof.Machine.execEthFrameTx p s
  | .ltDrop p => Sys2Proof.Machine.execLtDrop p s
  | .gateEntryChange p => Sys2Proof.Machine.execGateEntryChange p s
  | .streamGateChange g => Sys2Proof.Machine.execStreamGateChange g s
  | .cbResetTimeout e => Sys2Proof.Machine.execCbResetTimeout e s
  | .ethLinkDown p => Sys2Proof.Machine.execEthLinkDown p s
  | .ethLinkUp p => Sys2Proof.Machine.execEthLinkUp p s
  | .unblock f => Sys2Proof.Machine.execUnblock f s
  | .tsnPclr p => Sys2Proof.Machine.execTsnPclr p s
  | .tsnClr => Sys2Proof.Machine.execTsnClr s
  | .cvuStart u => Sys2Proof.Machine.execCvuStart u s
  | .cvuFinish u => Sys2Proof.Machine.execCvuFinish u s
  | .cvuData u v => Sys2Proof.Machine.execCvuData u v s
  | .cvuDatab u v => Sys2Proof.Machine.execCvuDatab u v s
  | .cvuRun u hi v => Sys2Proof.Machine.execCvuRun u hi v s
  | .reedIdle h => Sys2Proof.Machine.execReedIdle h s
  | .reedNak h => Sys2Proof.Machine.execReedNak h s
  | .reedReplayTimeout p => Sys2Proof.Machine.execReedReplayTimeout p s
  | .reedTime h resp t1 t2 root depth => Sys2Proof.Machine.execReedTime h resp t1 t2 root depth s
  | .reedTimeRequest => Sys2Proof.Machine.execReedTimeRequest s
  | .reedKey h auth purpose site stream kgen fromRes key => Sys2Proof.Machine.execReedKey h auth purpose site stream kgen fromRes key s
  | .reedKeyack h purpose site stream kgen => Sys2Proof.Machine.execReedKeyack h purpose site stream kgen s
  | .reedSig h stream cnt n resseq => Sys2Proof.Machine.execReedSig h stream cnt n resseq s
  | .reedXval h xid resseq token prod stream kgen wins => Sys2Proof.Machine.execReedXval h xid resseq token prod stream kgen wins s
  | .accDown h reason attempt tevent => Sys2Proof.Machine.execAccDown h reason attempt tevent s
  | .accUp h reason attempt tevent => Sys2Proof.Machine.execAccUp h reason attempt tevent s
  | .auddata h stream resseq chk site res data => Sys2Proof.Machine.execAuddata h stream resseq chk site res data s
  | .audres h stream resseq chk own => Sys2Proof.Machine.execAudres h stream resseq chk own s
  | .xvalExpiry => Sys2Proof.Machine.execXvalExpiry s
  | .remoteSigExpiry => Sys2Proof.Machine.execRemoteSigExpiry s
  | .xferKeyRollover c site => Sys2Proof.Machine.execXferKeyRollover c site s
  | .auditKeyRollover => Sys2Proof.Machine.execAuditKeyRollover s
  | .reedTrainDone p res nbr => Sys2Proof.Machine.execReedTrainDone p res nbr s
  | .reedKeyAgreed p ok => Sys2Proof.Machine.execReedKeyAgreed p ok s
  | .reedPortDown p => Sys2Proof.Machine.execReedPortDown p s
  | .reedPclr p => Sys2Proof.Machine.execReedPclr p s
  | .reedClr => Sys2Proof.Machine.execReedClr s
  | .loadkey slot b => Sys2Proof.Machine.execLoadkey slot b s
  | .loadendo n b => Sys2Proof.Machine.execLoadendo n b s
  | .revoke b => Sys2Proof.Machine.execRevoke b s
  | .progslot slot b => Sys2Proof.Machine.execProgslot slot b s
  | .arbadv ctr value => Sys2Proof.Machine.execArbadv ctr value s
  | .hsStart n => Sys2Proof.Machine.execHsStart n s
  | .hsResp n b => Sys2Proof.Machine.execHsResp n b s
  | .hsDrop n => Sys2Proof.Machine.execHsDrop n s
  | .hsTimeout n => Sys2Proof.Machine.execHsTimeout n s
  | .sessionActivate n => Sys2Proof.Machine.execSessionActivate n s
  | .quote => Sys2Proof.Machine.execQuote s
  | .hvkeyRead => Sys2Proof.Machine.execHvkeyRead s
  | .entHealth => Sys2Proof.Machine.execEntHealth s
  | .drbgReady => Sys2Proof.Machine.execDrbgReady s
  | .drbgReseed => Sys2Proof.Machine.execDrbgReseed s
  | .kcuClr => Sys2Proof.Machine.execKcuClr s
  | .pwrRequest req => Sys2Proof.Machine.execPwrRequest req s
  | .p0ExitTestDone te sh => Sys2Proof.Machine.execP0ExitTestDone te sh s
  | .powerCapEval mean pest => Sys2Proof.Machine.execPowerCapEval mean pest s
  | .tempConversion ds => Sys2Proof.Machine.execTempConversion ds s
  | .thermalFactorStep => Sys2Proof.Machine.execThermalFactorStep s
  | .thBurstEnd => Sys2Proof.Machine.execThBurstEnd s
  | .refLoss stops => Sys2Proof.Machine.execRefLoss stops s
  | .pllUnlock => Sys2Proof.Machine.execPllUnlock s
  | .domainFreqFault d count => Sys2Proof.Machine.execDomainFreqFault d count s
  | .clkClr => Sys2Proof.Machine.execClkClr s
  | .mnaSlot rows => Sys2Proof.Machine.execMnaSlot rows s
  | .scrubLate dram => Sys2Proof.Machine.execScrubLate dram s
  | .cmpLate => Sys2Proof.Machine.execCmpLate s
  | .rotLate e => Sys2Proof.Machine.execRotLate e s
  | .mnaClr => Sys2Proof.Machine.execMnaClr s
  | .ercIdx hi v => Sys2Proof.Machine.execErcIdx hi v s
  | .annAppend a clash => Sys2Proof.Machine.execAnnAppend a clash s
  | .annReplace a clash => Sys2Proof.Machine.execAnnReplace a clash s
  | .ercClr => Sys2Proof.Machine.execErcClr s
  | .memClr => Sys2Proof.Machine.execMemClr s
  | .fcuClr => Sys2Proof.Machine.execFcuClr s
  | .clrfirst => Sys2Proof.Machine.execClrfirst s
  | .sscClr => Sys2Proof.Machine.execSscClr s
  | .svcRead addr ch nw b7 => Sys2Proof.Machine.execSvcRead addr ch nw b7 s
  | .svcWrite op addr ch b7 data crc clash => Sys2Proof.Machine.execSvcWrite op addr ch b7 data crc clash s
  | .svcFrameAbort => Sys2Proof.Machine.execSvcFrameAbort s
  | .idcode => Sys2Proof.Machine.execIdcode s
  | .bypass => Sys2Proof.Machine.execBypass s
  | .challenge => Sys2Proof.Machine.execChallenge s
  | .token b => Sys2Proof.Machine.execToken b s
  | .regacc woff wr data => Sys2Proof.Machine.execRegacc woff wr data s
  | .scandump => Sys2Proof.Machine.execScandump s
  | .samplePreload v => Sys2Proof.Machine.execSamplePreload v s
  | .extest v => Sys2Proof.Machine.execExtest v s
  | .resetRelease => Sys2Proof.Machine.execResetRelease s
  | .releaseSequenceExpiry => Sys2Proof.Machine.execReleaseSequenceExpiry s
  | .hostLinkUp => Sys2Proof.Machine.execHostLinkUp s
  | .d0Entry f => Sys2Proof.Machine.execD0Entry f s
  | .busMasterEnable f on => Sys2Proof.Machine.execBusMasterEnable f on s
  | .rowReloadDone => Sys2Proof.Machine.execRowReloadDone s
  | .recordWriteDone => Sys2Proof.Machine.execRecordWriteDone s

end Sys2Proof.Machine
end

