-- ==== Sys2Proof/Safety.lean ====
section
/-!
DEFINITION. What counts as a safe run, in the terms the statements use.
-/
namespace Sys2Proof.Machine

/-- The register store is in its one canonical form, so that equal contents are equal data. -/
def State.Canon (s : State) : Prop := Store.wf s.regs = true

/-- Numbers of the things in what the blocks hold (R2, R604, R611). -/
def Held.Shape (h : Held) : Prop :=
  h.taps.length = 2 ∧ h.joints.length = 64 ∧ h.reed.ports.length = 4 ∧ h.tes.length = 4 ∧ h.lqs.length = 48 ∧ h.tsn.ports.length = 12 ∧
  h.tsn.guard.length = 256 ∧ h.tsn.cvu.length = 32 ∧ ∀ l ∈ h.lqs, l.wins.length = 8 ∧ l.flags.length = 3

/-- Numbers of the things there is a fixed number of (R2, R423, R489, R604, R611, R699): joints, tap ports, streams, plan contexts,
logical queues, tally and Mantis engines, Reed and Ethernet ports, safety inputs and outputs, guard entries, host check-value units, rings,
sessions and owner slots; and of windows and flags of a queue (R286); the same of what a running apply may take back (R95). -/
def State.Shape (s : State) : Prop :=
  s.joints.length = 64 ∧ s.taps.length = 2 ∧ s.streams.length = 64 ∧ s.ctxs.length = 16 ∧ s.lqs.length = 48 ∧ s.tes.length = 4 ∧
  s.mnt.shs.length = 2 ∧ s.reed.ports.length = 4 ∧ s.tsn.ports.length = 12 ∧ s.sio.dci.length = 32 ∧ s.sio.sbo.length = 24 ∧
  s.tsn.guard.length = 256 ∧ s.tsn.cvu.length = 32 ∧ s.vdu.rings.length = 8 ∧ s.kcu.sess.length = 8 ∧ s.kcu.blobs.length = 4 ∧
  s.ssc.streams.length = 64 ∧ (∀ l ∈ s.lqs, l.wins.length = 8 ∧ l.flags.length = 3) ∧ ∀ b, s.before = some b → b.pre.Shape

/-- What the one-time-programmable memory `b` may hold after `a`: nothing programmed is undone (R684). -/
structure Otp.le (a b : Otp) : Prop where
  life : a.life ≤ b.life
  serial : b.serial = a.serial
  bootKeys : b.bootKeys = a.bootKeys
  devca : b.devca = a.devca
  owners : ∀ (i : Nat) (o : OwnerSlot), a.owners[i]? = some o →
    ∃ p, b.owners[i]? = some p ∧ (o.valid = true → p.valid = true ∧ p.hash = o.hash) ∧ (o.revoked = true → p.revoked = true)
  arb : ∀ i : Nat, a.arb.getD i 0 ≤ b.arb.getD i 0
  helper : b.helper = a.helper
  seed : b.seed = a.seed

/-- Tables and the time keep to their sizes: 32 expected injections (R547), 1,024 queued records (R769), 48 bits of seconds (R592). -/
def State.Sized (s : State) : Prop := s.inj.length ≤ 32 ∧ s.erc.queue.length ≤ 1024 ∧ s.tbu < 2 ^ 48 * 1000000000 * 2 ^ 56

/-- A command answers a next state, and that state is as described. -/
def Does (c : Instr) (s : State) (P : State → Prop) : Prop := ∃ t, exec c s = .next t ∧ P t

/-- Writes to a page are taken: no power state has stopped its clock domain (R724). -/
def State.Takes (s : State) (p : Nat) : Prop := s.domPstop (pageDomain p) = false

/-- A fault source whose _FLT bit is set has a level of at least its class (R524); a suppressed C-class source alone has none (R71). -/
def State.LevelsOk (s : State) : Prop :=
  ∀ p < 28, ∀ n < nsrc p, s.flt ⟨p, n⟩ = true → (⟨p, n⟩ : Src).cls = .c ∨ (⟨p, n⟩ : Src).cls.code ≤ (s.level ⟨p, n⟩).code

/-- No whole record waits in a tap port, so that what the port drops is partial (R157), nor in the other port, whose running backpressure
episode, if it has one, lasts (R179). -/
def State.Calm (s : State) (p : Nat) : Prop :=
  ((s.dropPartial p).tap p).whole = [] ∧ (s.tap (1 - p)).whole = [] ∧ ((s.tap (1 - p)).bpAt = none ∨ s.backpressure (1 - p) = true)

/-- Of `s`, at most the registers with the listed keys have changed in `t`, and nothing else. -/
def State.Only (s t : State) (ks : List Nat) : Prop :=
  t = { s with regs := t.regs } ∧ ∀ k, k ∉ ks → Store.look t.regs k = Store.look s.regs k

/-- The listed registers read 0 in `t`, and nothing else differs from `s`. -/
def State.Cleared (s t : State) (rs : List (Reg × Nat × Nat)) : Prop :=
  (∀ x ∈ rs, t.word x.1 x.2.1 x.2.2 = 0) ∧ s.Only t (rs.map fun x => x.1.key x.2.1 x.2.2)

/-- A sound stream record `r` of TYPE `typ` is at its turn in the open result of its stream `i`, without a gap before it (R162 to R169);
`sl` is the result's slot and `p` the stream's plan. -/
structure State.AtTurn (s : State) (i typ : Nat) (r : HeldRec) (sl : Slot) (p : Plan) : Prop where
  shape : s.Shape
  strm : i < 64
  port : s.portOf i < 2
  next : s.nextRec (s.portOf i) false i = some r
  typ_ : r.typ = typ
  sound : r.bad = false
  nogap : r.gap = false
  open_ : (s.st i).open_ = some r.resseq
  slot : s.slotOf i r.resseq = some sl
  plan : s.planOf i = some p

/-- A record waits for its dispatch no more. -/
def State.Taken (s : State) (p : Nat) (r : HeldRec) : Prop := ∀ x ∈ (s.tap p).recs, x ≠ r

/-- The head job `j` of logical queue `q` is to run its legal command `c` under plan `p` (R290, R291). -/
structure State.Heads (s : State) (q : Nat) (j : Job) (p : Plan) (c : Cmd) : Prop where
  shape : s.Shape
  head : s.headCmd q = some (j, p, c)
  legal : cmdLegal (s.pagesOf q) c = true
  fits : s.misfit q j p c = false

/-- It has neither FAILED nor NOTDONE, is not in purge, and belongs to the result with slot `r` (R310, R312). -/
structure State.Runs (s : State) (q : Nat) (j : Job) (r : Slot) (p : Plan) (c : Cmd) : Prop extends s.Heads q j p c where
  failed : j.failed = false
  done : j.notDone = false
  purge : j.purge = false
  slot : s.slotOf j.stream j.resseq = some r

/-- No result can be formed by its checks alone, no drawn SAR job waits, and no transfer value can leave (R362, R273, R666). -/
def State.Still (s : State) : Prop :=
  s.mnt.waitSar = [] ∧ (∀ r ∈ s.slots, r.ready = false) ∧ ∀ x ∈ s.reed.xwait, s.prodOf x = none

/-- The head job of a queue, of `s` the job `j`, has gone on to its next command. -/
def State.Went (t : State) (q : Nat) (j : Job) : Prop := ∃ k, (t.lq q).jobs.head? = some k ∧ k.cur = j.cur + 1

/-- Of that job, whether FAILED or NOTDONE is set now. -/
def State.JobEnds (t : State) (q : Nat) (failed notDone : Bool) : Prop :=
  ∃ k, (t.lq q).jobs.head? = some k ∧ k.failed = failed ∧ k.notDone = notDone

/-- Safe output `k` is ON and stays so, no brake output and no brake test running: its group, which no input, alarm or stream restrains,
permits it, and test pulses are enabled (R501, R504, R505). -/
structure State.Pulses (s : State) (k : Nat) : Prop where
  on : s.rd F.SBO_STAT_STATE k = 1
  out : s.on F.SBO_CFG_EN k = true ∧ s.on F.SBO_CFG_KIND k = false ∧ s.on F.SBO_CFG_TPEN k = true ∧ (s.sbo k).need = false
  brake : s.on F.SBO_STAT_BTFAILED k = false ∧ s.on F.SBO_STAT_OVERDUE k = false ∧ s.rd F.SIO_BTSTAT_STATE = 0 ∧ s.inP2 = false
  fbk : (s.sbo k).diffA = none ∧ (s.sbo k).diffB = none
  group : s.on F.SIO_CTRL_EN = true ∧ s.on F.SIO_G_CTRL_EN (s.rd F.SBO_CFG_GROUP k) = true ∧
    s.on F.SIO_G_STAT_ONREQ (s.rd F.SBO_CFG_GROUP k) = true
  terms : s.word R.SIO_G_DCI (s.rd F.SBO_CFG_GROUP k) = 0 ∧ s.rd F.SIO_G_CTRL_SENT (s.rd F.SBO_CFG_GROUP k) = 0 ∧
    s.rd64 R.SIO_G_STR_LO R.SIO_G_STR_HI (s.rd F.SBO_CFG_GROUP k) = 0

/-- A sequenced flit arrives in order and sound at a port that is UP and is to be acted on here (R652, R653, R658). -/
structure State.Recv (s : State) (h : FlitHdr) : Prop where
  shape : s.Shape
  up : s.rUp h.port.val = true
  good : h.good = true
  order : ∃ r, s.reed.ports[h.port.val]? = some r ∧ h.lseq.toNat = (r.rxLast + 1) % 65536
  here : h.bcast = true ∨ h.dst.toNat = s.dev

/-- A gPTP message of Ethernet port `p` starts at once: the port is up, holds no frame and transmits none, its gates do not act, and its
largest frame holds the message (R618, R623, R814). -/
structure State.PtpFree (s : State) (p : Nat) : Prop where
  shape : s.Shape
  up : s.ethUp p = true
  empty : (s.ethSt p).queues = List.replicate 8 []
  idle : (s.ethSt p).busyNs ≤ s.ns
  gates : s.on F.TSN_PCFG_GATE_EN p = false
  room : 94 ≤ s.rd F.TSN_PMAXLEN_BYTES p

/-- The gPTP messages that wait in the queues of a port. -/
def State.ptpWaits (s : State) (p : Nat) : List PtpMsg := (s.ethSt p).queues.flatten.filterMap (·.ptp)

/-- Bytes that an output carries to host memory. -/
def Out.hostBytes : Out → List Byte
  | .hostWrite _ b => b
  | _ => []

/-- One step from a state to a next state. -/
def Steps (s t : State) : Prop := step s = .next t

/-- A run: any number of steps. -/
inductive Run : State → State → Prop where
  | stay (s : State) : Run s s
  | more (s t u : State) : Steps s t → Run t u → Run s u

/-- No step of a run stops with a fault or a refusal. -/
def State.Safe (s : State) : Prop := ∀ t, Run s t → ∃ u, Steps t u

end Sys2Proof.Machine
end

