-- ==== Sys2Proof/Certificates/Slice0/Obligations.lean ====
section
/-!
DEFINITION. The statements for the provers. Every command of the table occurs in the conclusion of some clause that says what next state it answers.
-/
open Sys2Proof Sys2Proof.Machine

/-! ### Resets, boot and the host port -/

/-- R751, R753, R758, R793: a power-on reset, by PORST_N or by the two always-on supplies (R803), resets every register and every block, sets
the fatal latch, holds the flash in reset (and, without a supply, lets the always-on drivers go: R805), and keeps the OTP and what the MRAM holds, with BFAIL at 0; from every state.
R751, R753, R531, R583, R758: WRST_N resets every register outside STUCK to its reset value but those that survive, takes every key,
plan context and sentinel image, sets the fatal latch, and keeps the OTP, the time, the boot ledger, the repair records and the brake times;
where no restart attempt runs, the restart ledger and its counts and the recorder stay too. In STUCK it does nothing. -/
def Obligations.ResetsKeepWhatSurvives : Prop :=
  (∀ s : State,
    let after (z : Bool) (t : State) : Prop :=
      t.regs = [] ∧ t.fatal = true ∧ t.balls = { Balls.reset with hiZ := z } ∧ t.txn = Txn.reset ∧ t.inj = [] ∧ t.slots = [] ∧
      t.streams = State.reset.streams ∧ t.ctxs = State.reset.ctxs ∧ t.lqs = State.reset.lqs ∧ t.kcu = Kcu.reset ∧
      t.mnt = Mantis.reset ∧ t.tsn = Tsn.reset ∧ t.reed = Reed.reset ∧ t.sio = Sio.reset ∧ t.acb = Acb.reset ∧
      t.boot.xspiRst = false ∧ t.boot.xspiZ = true ∧ t.host = HostPort.reset ∧
      t.otp = s.otp ∧ t.erc.mram = s.erc.mram ∧ t.erc.head = s.erc.head ∧
      t.boot.copyA = { s.boot.copyA with bfail := 0 } ∧ t.boot.copyB = { s.boot.copyB with bfail := 0 } ∧
      t.boot.repairs = s.boot.repairs ∧ t.boot.btLast = s.boot.btLast ∧ t.pending = s.pending
    (Does .powerOnReset s fun t => after false t) ∧
    (Does (.supplyMonitorTrip 0) s fun t => after true t) ∧
    (Does (.supplyMonitorTrip 1) s fun t => after true t)) ∧
  (∀ s : State,
    (s.on F.BOOT_STAT_STUCK = true → Does .wrstNAssert s fun t => t = s) ∧
    (s.on F.BOOT_STAT_STUCK = false → Does .wrstNAssert s fun t =>
      (∀ k, k ∉ [R.FCU_FIRSTF.base, R.FCU_FIRSTF_NS.base, R.FCU_FIRSTF_SEC_LO.base, R.FCU_FIRSTF_SEC_HI.base, R.ACB_RCNT.base,
          R.ACB_CTRL.base, R.ACB_STAT.base, R.BOOT_CAUSE.base] → Store.look t.regs k = 0) ∧
      t.word R.FCU_FIRSTF = s.word R.FCU_FIRSTF ∧ t.word R.FCU_FIRSTF_NS = s.word R.FCU_FIRSTF_NS ∧
      t.fatal = true ∧ t.rd F.BOOT_CAUSE_CAUSE = 2 ∧ t.boot.running = false ∧ t.balls = Balls.reset ∧
      t.kcu = Kcu.reset ∧ t.ctxs = State.reset.ctxs ∧ t.streams = State.reset.streams ∧ t.mnt = Mantis.reset ∧ t.txn = Txn.reset ∧
      t.otp = s.otp ∧ t.tbu = s.tbu ∧ t.host = HostPort.reset ∧
      t.boot.copyA = s.boot.copyA ∧ t.boot.copyB = s.boot.copyB ∧ t.boot.repairs = s.boot.repairs ∧ t.boot.btLast = s.boot.btLast) ∧
    (s.on F.BOOT_STAT_STUCK = false → s.rd F.ACB_STAT_STEP = 0 → Does .wrstNAssert s fun t =>
      t.word R.ACB_RCNT = s.word R.ACB_RCNT ∧ t.rd F.ACB_CTRL_ACC_RUN = s.rd F.ACB_CTRL_ACC_RUN ∧
      t.rd F.ACB_STAT_LONGRST = s.rd F.ACB_STAT_LONGRST ∧ t.rd F.ACB_STAT_RELOAD = s.rd F.ACB_STAT_RELOAD ∧
      t.acb.ledger = s.acb.ledger ∧ t.erc.mram = s.erc.mram))

/-- R752, R754: the first key arms the sequence, the second within 1 ms of it starts a warm reset with its boot attempt, any other
write cancels; in STUCK nothing happens. -/
def Obligations.WarmResetTakesTwoKeys : Prop :=
  ∀ (s : State) (key : BitVec 8), s.Takes 27 →
    (s.on F.BOOT_STAT_STUCK = true → Does (.bootWrst key) s fun t => t = s) ∧
    (s.on F.BOOT_STAT_STUCK = false → key = 0xC3 →
      Does (.bootWrst key) s fun t => t = { s with boot := { s.boot with wrstKeyAt := some s.cyc } }) ∧
    (s.on F.BOOT_STAT_STUCK = false → key = 0x3C → ∀ c0 : Nat, s.boot.wrstKeyAt = some c0 → s.cyc ≤ c0 + 800000 →
      Does (.bootWrst key) s fun t => t.rd F.BOOT_CAUSE_CAUSE = 3 ∧ t.boot.running = true ∧ t.rd F.BOOT_STAT_STEP = 0 ∧
        t.fatal = true ∧ t.kcu = Kcu.reset ∧ t.boot.wrstKeyAt = none ∧ t.otp = s.otp ∧ t.tbu = s.tbu) ∧
    (s.on F.BOOT_STAT_STUCK = false → key ≠ 0xC3 → key ≠ 0x3C ∨ (∀ c0 : Nat, s.boot.wrstKeyAt = some c0 → c0 + 800000 < s.cyc) →
      Does (.bootWrst key) s fun t => t = { s with boot := { s.boot with wrstKeyAt := none } })

/-- R755, R757, R765: the release of a reset starts an attempt at B0 with a RUNNING entry, a new ATTCNT and the variants of the
ledger, or none of them after CLRVAR; CLRVAR itself only marks the next attempt.
R755: a step that passes within its Max lets the next one start: B0 shows the locked PLL and the reference, B1 the fingerprint, B5 the trained
memory.
R756 to R758: a step past its Max fails the attempt: BFAIL counts, the step's variant is set, and a boot retry starts at B0
(cause 4) while BFAIL is below 3; the third failure in a row leaves the companion STUCK. -/
def Obligations.BootAttemptsStartFollowAndFail : Prop :=
  (∀ s : State,
    (s.boot.released = false → s.on F.BOOT_STAT_STUCK = false → s.balls.coreLoss = false →
      Does .resetRelease s fun t =>
        t.boot.running = true ∧ t.boot.released = true ∧ t.rd F.BOOT_STAT_STEP = 0 ∧ t.rd F.FCU_STAT_CORE_OK = 1 ∧
        t.boot.clrvar = false ∧ t.boot.inForce = (if s.boot.clrvar then 0 else s.boot.copyA.variant) ∧
        t.boot.copyA.variant = t.boot.inForce ∧ t.boot.copyA.attcnt = (s.boot.copyA.attcnt + 1) % 2 ^ 64 ∧
        t.boot.copyA.bfail = s.boot.copyA.bfail ∧ t.otp = s.otp ∧ t.erc = s.erc ∧ t.pending = s.pending) ∧
    (s.Takes 27 → Does .clrvar s fun t => t = { s with boot := { s.boot with clrvar := true } })) ∧
  (∀ (s : State) (b : BootStep), s.boot.running = true → b.ok = true →
    s.cyc ≤ s.boot.stepAt + stepMax (s.rd F.BOOT_STAT_STEP) s.boot.inForce (bootLen b.image) →
    (s.rd F.BOOT_STAT_STEP = 0 → Does (.bootStepDone b) s fun t => t.rd F.BOOT_STAT_STEP = 1 ∧ t.rd F.CLK_STAT_PLLLOCK = 1 ∧
      t.rd F.CLK_STAT_REFOK = 1 ∧ t.boot.running = true ∧ t.boot.stepAt = s.cyc ∧ t.boot.copyA.bfail = s.boot.copyA.bfail ∧ t.otp = s.otp) ∧
    (s.rd F.BOOT_STAT_STEP = 1 → Does (.bootStepDone b) s fun t => t.rd F.BOOT_STAT_STEP = 2 ∧ t.rd F.KCU_LIFE_PUFOK = 1 ∧
      t.boot.running = true ∧ t.otp = s.otp) ∧
    (s.rd F.BOOT_STAT_STEP = 5 → Does (.bootStepDone b) s fun t => t.rd F.BOOT_STAT_STEP = 6 ∧ t.rd F.MEM_STAT_TRAINED = 1 ∧
      t.boot.running = true ∧ t.otp = s.otp) ∧
    (s.rd F.BOOT_STAT_STEP = 7 → Does (.bootStepDone b) s fun t => t.rd F.BOOT_STAT_STEP = 8 ∧ t.rd F.KCU_STAT_DRBG = 1 ∧
      t.boot.running = true ∧ t.otp = s.otp)) ∧
  (∀ s : State, s.boot.running = true → s.rd F.ACB_STAT_STEP = 0 → s.boot.clrvar = false →
    (s.boot.copyA.bfail < 2 →
      Does .bootStepTimeout s fun t => t.boot.running = true ∧ t.rd F.BOOT_STAT_STEP = 0 ∧ t.rd F.BOOT_CAUSE_CAUSE = 4 ∧
        t.rd F.BOOT_STAT_BFAIL = s.boot.copyA.bfail + 1 ∧ t.boot.copyA.bfail = s.boot.copyA.bfail + 1 ∧
        t.boot.inForce = variantAfter (s.rd F.BOOT_STAT_STEP) s.boot.copyA.variant ∧ t.fatal = true ∧ t.otp = s.otp) ∧
    (s.boot.copyA.bfail = 2 →
      Does .bootStepTimeout s fun t => t.rd F.BOOT_STAT_STUCK = 1 ∧ t.rd F.BOOT_STAT_BFAIL = 3 ∧ t.boot.running = false ∧
        t.fatal = true ∧ t.boot.copyA.variant = variantAfter (s.rd F.BOOT_STAT_STEP) s.boot.copyA.variant ∧ t.otp = s.otp))

/-- R538, R539, R537: in the safe state the first key opens the release, the second within 1 ms of it releases the balls and the outputs
when every condition of R537 holds, and is refused with REL_REFUSED and the failed conditions otherwise; any other write, or the lapse of the
window, ends the pending release; outside the safe state a write changes nothing but that.
R534, R536, R545, R546: a readback of SAFE_N or a CICADA ball that differs, and the expiry of the restart timer, are faults of
class F and set the fatal latch; a stream-OK line falls at its time.
R18, R754, R803: loss of the core domain, by its own inputs or by VDD_CORE or VDD_SRAM, sets the fatal latch, drives SAFE_N and
CICADA low, and leaves the core in reset with its keys, streams and transaction gone; a loss of VDDA_PLL shows the unlocked PLL. -/
def Obligations.SafeStateIsForcedAndReleased : Prop :=
  (∀ (s : State) (key : BitVec 8) (c : Nat),
    (s.Takes 3 → s.fatal = true → key = 0xA5 → Does (.sscRel key) s fun t =>
      t.ssc = { s.ssc with relKeyAt := some s.cyc } ∧ t.rd F.SSC_STAT_RELPEND = 1 ∧ t.fatal = true) ∧
    (s.Takes 3 → s.fatal = true → key = 0x5A → s.ssc.relKeyAt = some c → s.cyc ≤ c + 800000 → s.relCancel.relBlock = 0 →
      Does (.sscRel key) s fun t => t.fatal = false ∧ t.rd F.SSC_STAT_SAFE = 0 ∧ t.rd F.VDU_STAT_FORCE = 0 ∧
        t.balls.safeN = true ∧ t.balls.cicada = true ∧ t.rd F.SSC_STAT_RELPEND = 0 ∧ t.ssc.firstFAt = none ∧
        t.rd F.SSC_RELCNT_N = satAdd 32 (s.rd F.SSC_RELCNT_N) 1) ∧
    (s.Takes 3 → s.fatal = true → key = 0x5A → s.ssc.relKeyAt = some c → s.cyc ≤ c + 800000 → s.relCancel.relBlock ≠ 0 →
      Does (.sscRel key) s fun t => t.fatal = true ∧ t.flt S.SSC_REL_REFUSED = true ∧ t.rd F.SSC_STAT_RELPEND = 0 ∧
        t.rd F.SSC_STAT_RELBLOCK = s.relCancel.relBlock) ∧
    (s.Takes 3 → s.fatal = true → key ≠ 0xA5 → key ≠ 0x5A → Does (.sscRel key) s fun t =>
      t.ssc = { s.ssc with relKeyAt := none } ∧ t.rd F.SSC_STAT_RELPEND = 0 ∧ t.fatal = true ∧ t.balls = s.balls) ∧
    (s.Takes 3 → s.fatal = false → Does (.sscRel key) s fun t => t.ssc = { s.ssc with relKeyAt := none } ∧
      ∀ k, k ≠ R.SSC_STAT.base → Store.look t.regs k = Store.look s.regs k) ∧
    (s.ssc.relKeyAt = some c → Does .releaseSequenceExpiry s fun t => t.ssc = { s.ssc with relKeyAt := none } ∧
      t.rd F.SSC_STAT_RELPEND = 0 ∧ t.cyc = max s.cyc (c + 800000) ∧ t.fatal = s.fatal)) ∧
  (∀ (s : State) (level : Bool) (c : Nat), s.LevelsOk →
    (Does .safenRb s fun t => t.flt S.SSC_SAFEN_RB = true ∧ t.fatal = true ∧ t.balls.safeN = false ∧
      t.balls.high = (s.balls.high || !s.balls.safeN)) ∧
    (Does (.cicadaRb level) s fun t => t.flt S.SSC_CICADA_RB = true ∧ t.fatal = true ∧ t.balls.cicada = false ∧
      t.balls.high = (s.balls.high || level)) ∧
    (s.ssc.restartAt = some c → s.on F.SSC_STAT_RESTART = true → Does .restartTo s fun t =>
      t.flt S.SSC_RESTART_TO = true ∧ t.fatal = true ∧ t.ssc.restartAt = none ∧
      t.cyc = max s.cyc (c + 800000 * s.rd F.SSC_TRESTART_MS)) ∧
    (s.ssc.streams.filterMap (fun x => x.lineFall) = [c] → Does .restartLineTimeout s fun t =>
      t.ssc.streams.filterMap (fun x => x.lineFall) = [] ∧ t.cyc = max s.cyc c ∧ t.regs = s.regs)) ∧
  (∀ s : State,
    (s.balls.coreLoss = false → ∀ c ∈ [Instr.coreLoss, Instr.supplyMonitorTrip 2, Instr.supplyMonitorTrip 3],
      Does c s fun t => t.fatal = true ∧ t.rd F.SSC_STAT_SAFE = 1 ∧ t.balls.safeN = false ∧ t.balls.cicada = false ∧
        t.balls.coreLoss = true ∧ t.rd F.FCU_STAT_CORE_OK = 0 ∧ t.kcu = Kcu.reset ∧ t.streams = State.reset.streams ∧
        t.ctxs = State.reset.ctxs ∧ t.txn = Txn.reset ∧ t.otp = s.otp ∧ t.tbu = s.tbu ∧ t.erc.mram = s.erc.mram) ∧
    Does (.supplyMonitorTrip 4) s fun t => t.rd F.CLK_STAT_PLLLOCK = 0 ∧ t.flt S.CLK_PLL_UNLOCK = true ∧ t.otp = s.otp)

/-- R790: PERST_N and the function-level resets return the functions to D0 without mastering, and with no transaction open they
change nothing else; a running transaction before its apply ends RESET (R97).
R789, R790: a function in D3hot is not in D0 and the other functions keep their states; the return to D0 of PF0 restores it and nothing else. The
host link comes up after B0 of an attempt, and Bus Master Enable is taken from the end of B9. -/
def Obligations.FunctionResetsAndPowerStates : Prop :=
  (∀ s : State,
    (s.rd F.GLB_TXN_STAT_STATE = 0 →
      (Does .hostPerst s fun t => t.host.linkUp = false ∧ t.host.d0.getD 0 false = true ∧ t.host.d0.getD 1 false = true ∧
        t.host.bme.getD 0 true = false ∧ t.host.bme.getD 1 true = false ∧ t = { s with host := t.host }) ∧
      (Does .pf0Flr s fun t => t.host.d0.getD 0 false = true ∧ t.host.bme.getD 0 true = false ∧
        t.host.bme.getD 1 true = s.host.bme.getD 1 true ∧ t = { s with host := t.host })) ∧
    (s.rd F.GLB_TXN_STAT_STATE = 1 → s.timedOut = false → ∀ c ∈ [Instr.hostPerst, Instr.pf0Flr, Instr.d3hotEntry 0],
      Does c s fun t => t.rd F.GLB_TXN_STAT_STATE = 0 ∧ t.rd F.GLB_TXN_STAT_LAST = 12 ∧ t.txn = Txn.reset ∧ t.otp = s.otp) ∧
    (Does .pf1Flr s fun t => t.host.d0.getD 1 false = true ∧ t.host.bme.getD 1 true = false ∧
      t.host.bme.getD 0 true = s.host.bme.getD 0 true ∧ t = { s with host := t.host })) ∧
  (∀ (s : State) (f : Fin 4),
    (s.rd F.GLB_TXN_STAT_STATE = 0 → Does (.d3hotEntry f) s fun t => t.host.d0.getD f.val true = false ∧
      (∀ g : Fin 4, g ≠ f → t.host.d0.getD g.val true = s.host.d0.getD g.val true) ∧ t = { s with host := t.host }) ∧
    (f.val = 0 → s.host.d0.getD 0 true = false → Does (.d0Entry f) s fun t => t.host.d0.getD 0 false = true ∧ t = { s with host := t.host }) ∧
    (2 ≤ f.val → s.host.d0.getD f.val true = false → s.rd F.TAP_STAT_PSTATE (f.val - 2) = 2 →
      Does (.d0Entry f) s fun t => t.host.d0.getD f.val false = true ∧ t.rd F.TAP_STAT_PSTATE (f.val - 2) = 1 ∧
        t.rd F.TAP_STAT_RSCAUSE (f.val - 2) = 0) ∧
    (s.boot.released = true → s.boot.running = false → Does .hostLinkUp s fun t => t.host.linkUp = true ∧ t.otp = s.otp) ∧
    (s.host.linkUp = true → s.on F.BOOT_STAT_READY = true →
      Does (.busMasterEnable 1 false) s fun t => t.host.bme.getD 1 true = false ∧ t = { s with host := t.host }) ∧
    (s.host.linkUp = true → s.on F.BOOT_STAT_READY = true →
      Does (.busMasterEnable 0 true) s fun t => t.host.bme.getD 0 false = true ∧ t.host.linkUp = true))

/-! ### Register writes and configuration transactions -/

/-- R56, R61, R789: a write of PF0 to an RW register takes effect at once and touches no other register (GLB_SCRATCH); a write
whose byte enables miss a byte sets ACCESS; a write while the port is closed has no effect.
R55: a write above the last page sets UNMAPPED and leaves every transaction as it was. -/
def Obligations.PlainWritesActAtOnce : Prop :=
  (∀ (s : State) (v : BitVec 32) (mem : List Byte), s.Takes 0 →
    (s.pf0Open = true → Does (.regWrite 0x460 v true mem) s fun t =>
      t.word R.GLB_SCRATCH = v.toNat ∧ s.Only t [R.GLB_SCRATCH.base]) ∧
    (s.pf0Open = true → ∀ off : BitVec 26, Does (.regWrite off v false mem) s fun t => t.flt S.GLB_ACCESS = true ∧ t.otp = s.otp) ∧
    (s.pf0Open = false → ∀ (off : BitVec 26) (full : Bool), Does (.regWrite off v full mem) s fun t => t = s)) ∧
  (∀ (s : State) (off : BitVec 26) (v : BitVec 32) (mem : List Byte), s.pf0Open = true → 0x1BFFFF < off.toNat →
    Does (.regWrite off v true mem) s fun t => t.flt S.GLB_UNMAPPED = true ∧ t.otp = s.otp ∧ t.kcu = s.kcu)

/-- R85, R86, R812: a counting write of an RWT register (FCU_INJWIN) is staged under its key while a transaction is OPEN, with the live register unchanged,
and refused with TXN_NOOPEN while none runs.
R87, R90, R93: a COMMIT from OPEN samples the boundary and enters CHECKING; it fails with OVERFLOW, STGERR, BADBOUND or NOSTREAM
and COMMIT_FAIL, and is NOOPEN while no transaction runs. -/
def Obligations.StagingThenCommitOrFailure : Prop :=
  (∀ (s : State) (v : BitVec 32) (mem : List Byte), s.pf0Open = true → s.Takes 2 → 16 ≤ v.toNat → v.toNat ≤ 1023 →
    v.toNat ≠ s.rd F.FCU_INJWIN_CYC →
    (s.rd F.GLB_TXN_STAT_STATE = 1 → (∀ e ∈ s.txn.staging, e.key ≠ R.FCU_INJWIN.base) → s.txn.staging.length < 4096 →
      Does (.regWrite 0x2042C v true mem) s fun t =>
        t.txn = { s.txn with staging := s.txn.staging ++ [⟨R.FCU_INJWIN.base, v, 0⟩] } ∧
        t.rd F.GLB_TXN_STAT_NSTG = s.txn.staging.length + 1 ∧ t.word R.FCU_INJWIN = s.word R.FCU_INJWIN ∧
        t = { s with regs := t.regs, txn := t.txn } ∧
        ∀ k, k ≠ R.GLB_TXN_STAT.base → Store.look t.regs k = Store.look s.regs k) ∧
    (s.rd F.GLB_TXN_STAT_STATE = 0 →
      Does (.regWrite 0x2042C v true mem) s fun t =>
        t.flt S.GLB_TXN_NOOPEN = true ∧ t.rd F.FCU_INJWIN_CYC = s.rd F.FCU_INJWIN_CYC ∧ t.txn.staging = s.txn.staging)) ∧
  (∀ (s : State) (ecc : Bool), s.Takes 0 →
    (s.rd F.GLB_TXN_STAT_STATE = 0 → Does (.txnCommit ecc) s fun t => t.flt S.GLB_TXN_NOOPEN = true) ∧
    (s.rd F.GLB_TXN_STAT_STATE = 1 → s.cyc < s.openEnd →
      (s.on F.GLB_TXN_STAT_OVF = false → ecc = false → s.rd F.GLB_TXN_BOUND_MODE = 0 → s.word R.GLB_TXN_TIME_NS ≤ 999999999 →
        Does (.txnCommit ecc) s fun t => t.rd F.GLB_TXN_STAT_STATE = 2 ∧ t.txn.mode = 0 ∧ t.txn.commitNs = s.commitTime ∧
          t.txn.staging = s.txn.staging ∧ t = { s with regs := t.regs, txn := t.txn } ∧
          ∀ k, k ≠ R.GLB_TXN_STAT.base → Store.look t.regs k = Store.look s.regs k) ∧
      (s.on F.GLB_TXN_STAT_OVF = true → Does (.txnCommit ecc) s fun t => t.rd F.GLB_TXN_STAT_STATE = 0 ∧
        t.rd F.GLB_TXN_STAT_LAST = 4 ∧ t.flt S.GLB_COMMIT_FAIL = true ∧ t.txn = Txn.reset) ∧
      (s.on F.GLB_TXN_STAT_OVF = false → ecc = true → Does (.txnCommit ecc) s fun t => t.rd F.GLB_TXN_STAT_STATE = 0 ∧
        t.rd F.GLB_TXN_STAT_LAST = 13 ∧ t.flt S.GLB_STG_ECC = true ∧ t.flt S.GLB_COMMIT_FAIL = true ∧ t.txn = Txn.reset) ∧
      (s.on F.GLB_TXN_STAT_OVF = false → ecc = false → s.rd F.GLB_TXN_BOUND_MODE = 3 → Does (.txnCommit ecc) s fun t =>
        t.rd F.GLB_TXN_STAT_STATE = 0 ∧ t.rd F.GLB_TXN_STAT_LAST = 7 ∧ t.flt S.GLB_COMMIT_FAIL = true) ∧
      (s.on F.GLB_TXN_STAT_OVF = false → ecc = false → s.rd F.GLB_TXN_BOUND_MODE = 1 → s.word R.GLB_TXN_TIME_NS ≤ 999999999 →
        (s.st (s.rd F.GLB_TXN_BOUND_STREAM)).admitted = false → Does (.txnCommit ecc) s fun t =>
          t.rd F.GLB_TXN_STAT_STATE = 0 ∧ t.rd F.GLB_TXN_STAT_LAST = 10 ∧ t.flt S.GLB_COMMIT_FAIL = true)))

/-- R84: a BEGIN is accepted only while STATE is IDLE, and only from PF0: neither the service port nor JTAG may write the command. Each acceptance clears staging and OVF, increments GLB_TXN_ID, samples
GLB_TXN_TIMEOUT and starts the open timer; nothing else changes. -/
def Obligations.BeginOpensATransaction : Prop :=
  ∀ s : State, s.Takes 0 →
    (s.rd F.GLB_TXN_STAT_STATE = 0 → Does .txnBegin s fun t =>
      t.rd F.GLB_TXN_STAT_STATE = 1 ∧ t.rd F.GLB_TXN_STAT_NSTG = 0 ∧ t.rd F.GLB_TXN_STAT_OVF = 0 ∧
      t.rd F.GLB_TXN_ID_ID = (s.rd F.GLB_TXN_ID_ID + 1) % 2 ^ 32 ∧ t.rd F.GLB_TXN_STAT_LAST = s.rd F.GLB_TXN_STAT_LAST ∧
      t.txn.staging = [] ∧ t.txn.openAt = s.cyc ∧ t.txn.timeoutMs = s.rd F.GLB_TXN_TIMEOUT_MS ∧
      t = { s with regs := t.regs, txn := t.txn } ∧
      ∀ k, k ≠ R.GLB_TXN_STAT.base → k ≠ R.GLB_TXN_ID.base → Store.look t.regs k = Store.look s.regs k) ∧
    (s.rd F.GLB_TXN_STAT_STATE ≠ 0 → Does .txnBegin s fun t => t.flt S.GLB_TXN_BUSY = true ∧
      t.rd F.GLB_TXN_ID_ID = s.rd F.GLB_TXN_ID_ID) ∧
    mayWrite 1 0x420 = false ∧ mayWrite 2 0x420 = false

/-- R83, R92, R95, R80: the apply instant is shown and STATE is APPLYING, also at the stream's boundary; the last acknowledgement
ends it DONE with a waiting lock in force; a late page ends it INCOMPLETE in the safe state. No entry is staged at the apply.
R89, R93, R97: staging is discarded with LAST ABORTED at an ABORT before the apply, which has no effect while APPLYING; with
TIMEOUT and TXN_TIMEOUT when the open timer expires; with EXPIRED and COMMIT_FAIL when the armed limit does. -/
def Obligations.TransactionsApplyAndEnd : Prop :=
  (∀ (s : State) (late : List (Fin 28)),
    (s.rd F.GLB_TXN_STAT_STATE = 3 → s.txn.mode = 1 → (s.st s.txn.stream).open_ = none → s.cyc ≤ s.armedEnd →
      Does .txnApply s fun t => t.rd F.GLB_TXN_STAT_STATE = 4 ∧ t.rd F.GLB_TXN_APPLY_NS_NS = subNs s.ns ∧ t.txn.applyAt = s.cyc) ∧
    (s.rd F.GLB_TXN_STAT_STATE = 4 → s.cyc ≤ s.txn.applyAt + 1600 → Does .txnApplyAcked s fun t => t.rd F.GLB_TXN_STAT_STATE = 0 ∧
      t.rd F.GLB_TXN_STAT_LAST = 1 ∧ t.rd F.GLB_TXN_STAT_NSTG = 0 ∧ t.txn = Txn.reset ∧
      (s.on F.GLB_LOCK_PENDING = true → t.rd F.GLB_LOCK_LOCKED = 1 ∧ t.rd F.GLB_LOCK_PENDING = 0) ∧
      t = { s with regs := t.regs, txn := t.txn, before := none }) ∧
    (s.LevelsOk → s.rd F.GLB_TXN_STAT_STATE = 4 → s.txn.staging = [] → Does (.applyIncomplete late) s fun t => t.rd F.GLB_TXN_STAT_STATE = 0 ∧
      t.rd F.GLB_TXN_STAT_LAST = 14 ∧ t.flt S.GLB_APPLY_INCOMPLETE = true ∧ t.fatal = true ∧ t.txn = Txn.reset)) ∧
  (∀ s : State,
    (s.Takes 0 → ((s.rd F.GLB_TXN_STAT_STATE = 1 ∧ s.cyc < s.openEnd) ∨ s.rd F.GLB_TXN_STAT_STATE = 2 ∨ (s.rd F.GLB_TXN_STAT_STATE = 3 ∧ s.timeReached = false ∧ s.cyc ≤ s.armedEnd)) →
      Does .txnAbort s fun t => t.rd F.GLB_TXN_STAT_STATE = 0 ∧ t.rd F.GLB_TXN_STAT_LAST = 2 ∧ t.rd F.GLB_TXN_STAT_NSTG = 0 ∧
        t.txn = Txn.reset ∧ t = { s with regs := t.regs, txn := t.txn, before := none }) ∧
    (s.Takes 0 → s.rd F.GLB_TXN_STAT_STATE = 4 → Does .txnAbort s fun t => t = s) ∧
    (s.Takes 0 → s.rd F.GLB_TXN_STAT_STATE = 0 → Does .txnAbort s fun t => t.flt S.GLB_TXN_NOOPEN = true) ∧
    (s.rd F.GLB_TXN_STAT_STATE = 1 → Does .txnOpenTimeout s fun t => t.rd F.GLB_TXN_STAT_STATE = 0 ∧ t.rd F.GLB_TXN_STAT_LAST = 3 ∧
      t.flt S.GLB_TXN_TIMEOUT = true ∧ t.txn = Txn.reset ∧ t.cyc = max s.cyc s.openEnd) ∧
    (s.rd F.GLB_TXN_STAT_STATE = 3 → s.timeFirst = false → Does .txnArmedExpiry s fun t => t.rd F.GLB_TXN_STAT_STATE = 0 ∧ t.rd F.GLB_TXN_STAT_LAST = 9 ∧
      t.flt S.GLB_COMMIT_FAIL = true ∧ t.txn = Txn.reset ∧ t.cyc = max s.cyc (s.txn.armedAt + 800000 * s.rd F.GLB_TXN_ARMLIM_MS)))

/-- R90 to R92: a COMMIT whose images are taken in and verify, and that passes admission, leaves CHECKING. A stream with an open result or a time to come leaves the transaction
ARMED; a stream without an open result applies at once; a commit time that has passed makes it LATE.
R79, R80: a lock takes effect at once while no transaction runs, and waits for the end of a running one. -/
def Obligations.ChecksArmAndLocksWait : Prop :=
  (∀ (s : State) (im : List (Fin 6 × List Byte)) (b : List (Nat × List Byte)), b = im.map (fun x => (x.1.val, x.2)) → s.rd F.GLB_TXN_STAT_STATE = 2 →
    (∀ d < 6, s.descOp d = 1 → s.intake b d = none) → s.admission b = none →
    (s.txn.mode = 1 → (s.st s.txn.stream).open_ ≠ none → s.watch = s → Does (.txnChecksDone im) s fun t =>
      t.rd F.GLB_TXN_STAT_STATE = 3 ∧ t.txn.armedAt = s.cyc ∧ t = { s with regs := t.regs, txn := t.txn }) ∧
    (s.txn.mode = 1 → (s.st s.txn.stream).open_ = none → Does (.txnChecksDone im) s fun t =>
      t.rd F.GLB_TXN_STAT_STATE = 4 ∧ t.rd F.GLB_TXN_APPLY_NS_NS = subNs s.ns ∧ t.txn.applyAt = s.cyc) ∧
    (s.txn.mode = 2 → s.timeReached = false → s.watch = s → Does (.txnChecksDone im) s fun t => t.rd F.GLB_TXN_STAT_STATE = 3 ∧
      t.txn.armedAt = s.cyc) ∧
    (s.txn.mode = 2 → s.timeReached = true → Does (.txnChecksDone im) s fun t => t.rd F.GLB_TXN_STAT_STATE = 0 ∧
      t.rd F.GLB_TXN_STAT_LAST = 8 ∧ t.flt S.GLB_COMMIT_FAIL = true)) ∧
  (∀ s : State, s.Takes 0 →
    (s.rd F.GLB_TXN_STAT_STATE = 0 → Does .glbLock s fun t => t.rd F.GLB_LOCK_LOCKED = 1 ∧ s.Only t [R.GLB_LOCK.base]) ∧
    (s.rd F.GLB_TXN_STAT_STATE ≠ 0 → s.on F.GLB_LOCK_LOCKED = false → Does .glbLock s fun t =>
      t.rd F.GLB_LOCK_PENDING = 1 ∧ t.rd F.GLB_LOCK_LOCKED = s.rd F.GLB_LOCK_LOCKED ∧ s.Only t [R.GLB_LOCK.base]))

/-- R343, R67, R40, R153: an unloading context without a job reaches EMPTY and frees its plan and matrices; a block reset takes a tap port from
RUN to RESYNC, an OUT tally engine to PROBE with EN cleared, and nothing on a page that does not implement it. -/
def Obligations.ContextEmptiesAndBlocksReset : Prop :=
  ∀ (s : State) (c : Fin 16) (p : Fin 28),
    (s.ctxs.length = 16 → s.rd F.PST_CSTAT_STATE c.val = 3 → (∀ x ∈ s.ctxs, x.next = none) → Does (.contextEmpty c) s fun t =>
      t.word R.PST_CSTAT c.val = 0 ∧ (t.ctx c.val).plan = none ∧ (t.ctx c.val).mats = []) ∧
    (s.Takes p.val → p.val = 6 ∨ p.val = 7 → s.rd F.TAP_STAT_PSTATE (p.val - 6) = 2 → Does (.blkRst p) s fun t =>
      t.rd F.TAP_STAT_PSTATE (p.val - 6) = 1 ∧ t.rd F.TAP_STAT_RSCAUSE (p.val - 6) = 0 ∧
      t.word R.TAP_RSGEN (p.val - 6) = (s.word R.TAP_RSGEN (p.val - 6) + 1) % 2 ^ 32) ∧
    (s.Takes p.val → 8 ≤ p.val → p.val ≤ 11 → s.slots = [] → s.rd F.TE_STAT_ROLE (p.val - 8) = 6 → Does (.blkRst p) s fun t =>
      t.rd F.TE_STAT_ROLE (p.val - 8) = 7 ∧ t.rd F.TE_CTRL_EN (p.val - 8) = 0 ∧ t.word R.TE_OUTCAUSE (p.val - 8) = 0) ∧
    (s.Takes p.val → p.val < 6 ∨ (14 ≤ p.val ∧ p.val ≠ 22) → Does (.blkRst p) s fun t => t = s)

/-! ### Faults, the safe state and injection -/

/-- R524, R527: an occurrence that finds its bit clear takes the source's class, one that finds it set the next level above; the FCU
shows it in FCU_LAST and counts it, and level F sets the fatal latch. Stated for the sources of the GLB page (COMMIT_FAIL, which the
end of a transaction raises, apart), no transaction and room in the recorder.
R526: a W1C of a _FLT bit clears the bit and sets the level to none where the cause does not persist; a bit that the mask leaves
out stays with its level; an occurrence of the same cycle as the W1C counts as after it; an
F-class source (APPLY_INCOMPLETE) sets again. -/
def Obligations.FaultBitsAndLevels : Prop :=
  (∀ (s : State) (p : Fin 28) (src : Fin 32) (chan : BitVec 16) (unit : BitVec 16) (ref : BitVec 64),
    p.val = 0 → src.val < 11 → src.val ≠ 4 → s.slots = [] → s.rd F.GLB_TXN_STAT_STATE = 0 → s.erc.queue.length < 1024 →
    s.enabled ⟨0, src.val⟩ = true →
    Does (.faultOccurrence p src chan none unit ref false) s fun t =>
      t.flt ⟨0, src.val⟩ = true ∧ t.level ⟨0, src.val⟩ = s.occLevel ⟨0, src.val⟩ ∧
      t.rd F.FCU_LAST_PAGE = 0 ∧ t.rd F.FCU_LAST_SRC = src.val ∧ t.rd F.FCU_LAST_CHAN = chan.toNat ∧
      t.rd F.FCU_LAST_LVL = (s.occLevel ⟨0, src.val⟩).code ∧ t.word R.FCU_LAST_NS = subNs s.ns ∧
      t.rd F.FCU_PCNT_N = satAdd 32 (s.rd F.FCU_PCNT_N) 1 ∧
      (s.occLevel ⟨0, src.val⟩ = .f → t.fatal = true ∧ t.balls.safeN = false ∧ t.balls.cicada = false) ∧
      (s.occLevel ⟨0, src.val⟩ ≠ .f → t.fatal = s.fatal ∧ t.balls = s.balls ∧ t.txn = s.txn ∧
        t.erc.count = s.erc.count + 1)) ∧
  (∀ (s : State) (p : Fin 28) (mask : BitVec 32), p.val = 0 → s.Takes 0 →
    Does (.faultAck p mask) s fun t =>
      (∀ n, n < 10 → mask.getLsbD n = true → s.flt ⟨0, n⟩ = true →
        (s.countNow ⟨0, n⟩ = 0 → t.flt ⟨0, n⟩ = false ∧ t.level ⟨0, n⟩ = .none) ∧
        (s.countNow ⟨0, n⟩ = 1 → t.flt ⟨0, n⟩ = true ∧ t.level ⟨0, n⟩ = (⟨0, n⟩ : Src).cls)) ∧
      (∀ n, n < 11 → mask.getLsbD n = false → t.flt ⟨0, n⟩ = s.flt ⟨0, n⟩ ∧ t.level ⟨0, n⟩ = s.level ⟨0, n⟩) ∧
      (s.flt S.GLB_APPLY_INCOMPLETE = true → t.flt S.GLB_APPLY_INCOMPLETE = true) ∧
      ({ s with erc := t.erc } : State).Only t [R.HEAD_FLT.base, R.FCU_PLVL0.base] ∧
      t.erc = { s.erc with ackAt := t.erc.ackAt, acks := t.erc.acks })

/-- R71: a C-class source whose enable bit is 0 sets its _FLT bit and does nothing more: no report reaches the FCU, no event record is written, no
level changes. Said of every report of every source, and of the command that brings one about on the GLB page. -/
def Obligations.DisabledSourceOnlySetsItsBit : Prop :=
  ∀ (s : State) (p : Fin 28) (src : Fin 32) (chan : BitVec 16) (unit : BitVec 16) (ref : BitVec 64),
    p.val = 0 → src.val < 11 → s.slots = [] → s.enabled ⟨0, src.val⟩ = false →
    (Does (.faultOccurrence p src chan none unit ref false) s fun t =>
      t.flt ⟨0, src.val⟩ = true ∧ t.level ⟨0, src.val⟩ = s.level ⟨0, src.val⟩ ∧
      ∀ k, k ≠ R.HEAD_FLT.base → Store.look t.regs k = Store.look s.regs k) ∧
    ∀ r : Report, r.inj = false → s.enabled r.src = false → s.report r = s.setFlt r.src true ∧
      (r.src.num < 32 → (s.report r).flt r.src = true) ∧ s.Only (s.report r) [R.HEAD_FLT.key r.src.page 0]

/-- R73, R547, R548, R550: an accepted ARM creates an expected entry and sets ARMED; the injected report consumes it, setting no bit;
a window without a report raises CHECKER_SILENT, and an entry whose checker checks nothing goes with INJ_NOTXN. -/
def Obligations.ExpectedInjectionIsConsumed : Prop :=
  ∀ (s : State) (p : Fin 28) (src : BitVec 5) (chan : BitVec 16) (a c : Nat),
    (s.Takes p.val → injSrcOk p.val src.toNat = true → s.on F.HEAD_INJ_ARMED p.val = false → s.inj.length < 19 →
      Does (.injArm p src chan) s fun t =>
        t.inj = s.inj ++ [⟨p.val, src.toNat, chan.toNat, s.cyc, none⟩] ∧ t.rd F.HEAD_INJ_ARMED p.val = 1 ∧
        t.rd F.HEAD_INJ_SRC p.val = src.toNat ∧ t.rd F.HEAD_INJ_CHAN p.val = chan.toNat ∧
        t.rd F.FCU_STAT_NARMED = s.inj.length + 1 ∧ t = { s with regs := t.regs, inj := t.inj }) ∧
    (s.Takes p.val → injSrcOk p.val src.toNat = false → Does (.injArm p src chan) s fun t => t.flt S.GLB_ACCESS = true) ∧
    (∀ (k : Fin 32) (stream : Option (Fin 64)) (unit : BitVec 16) (ref : BitVec 64), k.val = src.toNat → p.val ≠ 2 →
      s.inj = [⟨p.val, src.toNat, chan.toNat, a, none⟩] →
      Does (.faultOccurrence p k chan stream unit ref true) s fun t =>
        t.inj = [] ∧ t.rd F.HEAD_INJ_ARMED p.val = 0 ∧ t.rd F.FCU_STAT_NARMED = 0 ∧
        t.rd F.FCU_INJPASS_N = satAdd 32 (s.rd F.FCU_INJPASS_N) 1 ∧
        t.rd F.FCU_PINJ_PASS p.val = satAdd 16 (s.rd F.FCU_PINJ_PASS p.val) 1 ∧
        (∀ q, q < 28 → t.word R.HEAD_FLT q = s.word R.HEAD_FLT q) ∧ t.erc = s.erc ∧ t.slots = s.slots) ∧
    (s.LevelsOk → s.inj = [⟨p.val, src.toNat, chan.toNat, a, some c⟩] → Does (.injWindowExpiry p src chan) s fun t =>
      t.inj = [] ∧ t.flt S.FCU_CHECKER_SILENT = true ∧ t.fatal = true ∧
      t.rd F.FCU_PINJ_SILENT p.val = satAdd 16 (s.rd F.FCU_PINJ_SILENT p.val) 1 ∧ t.cyc = max s.cyc (c + s.rd F.FCU_INJWIN_CYC)) ∧
    (s.inj = [⟨p.val, src.toNat, chan.toNat, a, none⟩] → Does (.injNotxn p src chan) s fun t =>
      t.inj = [] ∧ t.flt S.FCU_INJ_NOTXN = true ∧ t.cyc = max s.cyc (a + 80000000))

/-! ### Clears -/

/-- R187, R188, R239, R327, R421, R463, R466, R391: the clears of the ingress, store, engine, semaphore, verdict and Mantis pages set the counters
they name to 0 and change nothing else; SEM_CLR drops the snapshot, VDU_SCLR returns SMINMARG to its reset value, and TAP_CLR
lets the count of a running backpressure episode start.
R486, R520, R556, R560, R589, R590, R638, R641, R642, R681, R682, R715, R746, R749, R779, R783: the clears of the other pages set the
counters they name to 0 and change nothing else; CLRFIRST clears FCU_FIRSTF.VALID alone. -/
def Obligations.ClearsZeroTheirCounters : Prop :=
  (∀ (s : State) (p : Fin 2) (i : Fin 64) (e : Fin 4),
    (s.Takes (6 + p.val) → Does (.tapSclr p i) s fun t => s.Cleared t
      ([R.TAP_SPEAK, R.TAP_SACC_LO, R.TAP_SACC_HI, R.TAP_SGAP, R.TAP_SDUP, R.TAP_SSTALE, R.TAP_SMAL, R.TAP_SDISC, R.TAP_SRETR].map
        fun r => (r, p.val, i.val))) ∧
    (s.Takes (6 + p.val) → s.taps.length = 2 → Does (.tapClr p) s fun t => t.tap p.val = { s.tap p.val with bpFrom := s.cyc } ∧
      (∀ q, q ≠ p.val → t.tap q = s.tap q) ∧ s.Cleared { t with taps := s.taps } ([R.TAP_DISC_LO, R.TAP_DISC_HI, R.TAP_PARTDROP, R.TAP_CRCCNT, R.TAP_BPTIME_LO, R.TAP_BPTIME_HI, R.TAP_BPMAX, R.TAP_WCACC,
        R.TAP_WCREJ, R.TAP_PMAL].map fun r => (r, p.val, 0))) ∧
    (s.Takes 15 → Does .pstClr s fun t => s.Cleared t ([R.PST_RKCNT, R.PST_WINLOSS, R.PST_SATND].map fun r => (r, 0, 0))) ∧
    (s.Takes (8 + e.val) → Does (.teClr e) s fun t => s.Cleared t
      ([R.TE_LANEOPS_LO, R.TE_LANEOPS_HI, R.TE_VSLOTS_LO, R.TE_VSLOTS_HI, R.TE_JOBS_LO, R.TE_JOBS_HI, R.TE_REPLAYS, R.TE_STCNT].map
        fun r => (r, e.val, 0))) ∧
    (s.Takes 5 → Does .semClr s fun t => t.sem = { s.sem with snap := [] } ∧ t.rd F.SEM_STAT_SNAPV = 0 ∧
      (∀ r ∈ [R.SEM_DLCNT, R.SEM_OVFCNT, R.SEM_RESCNT, R.SEM_ABNDDISC, R.SEM_REMREJ, R.SEM_SNAPN], t.word r = 0) ∧
      t = { s with regs := t.regs, sem := t.sem }) ∧
    (s.Takes 16 → Does .vduClr s fun t => s.Cleared t [(R.VDU_HOLD, 0, 0), (R.VDU_TSNLATE, 0, 0)]) ∧
    (s.Takes 16 → Does (.vduSclr i) s fun t =>
      (∀ r ∈ [R.VDU_SNVALID, R.VDU_SNINVALID, R.VDU_SNUNVER, R.VDU_SNRETR, R.VDU_SNABND], t.word r i.val = 0) ∧
      t.word R.VDU_SMINMARG i.val = R.VDU_SMINMARG.rst ∧
      s.Only t ([R.VDU_SNVALID, R.VDU_SNINVALID, R.VDU_SNUNVER, R.VDU_SNRETR, R.VDU_SNABND, R.VDU_SMINMARG].map (·.key i.val 0))) ∧
    (∀ h : Fin 2, s.Takes (12 + h.val) → Does (.shClr h) s fun t => s.Cleared t
      ([R.SH_MACS_LO, R.SH_MACS_HI, R.SH_SARJOBS, R.SH_SARABORT, R.SH_CKSUM, R.SH_STCNT].map fun r => (r, h.val, 0))) ∧
    (s.Takes 14 → Does .mntClr s fun t => s.Cleared t
      ([R.MNT_HANDOVERS, R.MNT_HOLAST, R.MNT_HOLDSTEPS, R.MNT_HOLDFAILS, R.MNT_ALARMS].map fun r => (r, 0, 0)))) ∧
  (∀ s : State,
    (s.Takes 17 → Does .aeuClr s fun t => s.Cleared t ((R.AEU_JUDGED, 0, 0) :: (R.AEU_REJECTS, 0, 0) ::
      (List.range 64).map fun j => (R.AEU_JREJ, j, 0))) ∧
    (s.Takes 18 → ∀ n : Fin 32, Does (.dciSclr n) s fun t => s.Cleared t [(R.DCI_NDEM, n.val, 0), (R.DCI_NDISC, n.val, 0)]) ∧
    (s.Takes 2 → Does .fcuClr s fun t => s.Cleared t ((R.FCU_INJPASS, 0, 0) ::
      (List.range 28).flatMap fun p => [(R.FCU_PCNT, p, 0), (R.FCU_PESC, p, 0), (R.FCU_PINJ, p, 0)])) ∧
    (s.Takes 2 → Does .clrfirst s fun t => t.rd F.FCU_FIRSTF_VALID = 0 ∧ t.rd F.FCU_FIRSTF_PAGE = s.rd F.FCU_FIRSTF_PAGE ∧
      t.rd F.FCU_FIRSTF_SRC = s.rd F.FCU_FIRSTF_SRC ∧ s.Only t [R.FCU_FIRSTF.base]) ∧
    (s.Takes 3 → Does .sscClr s fun t => s.Cleared t ((R.SSC_RSTCNT, 0, 0) :: (R.SSC_RELCNT, 0, 0) ::
      (List.range 64).map fun i => (R.SSC_SNTRIG, i, 0))) ∧
    (s.Takes 19 → ∀ c : Fin 16, Does (.acbCclr c) s fun t => s.Cleared t [(R.ACB_CHANG, c.val, 0), (R.ACB_CMAX, c.val, 0)]) ∧
    (s.Takes 19 → Does .acbClr s fun t => s.Cleared t ((R.ACB_NDISC, 0, 0) :: (List.range 16).map fun c => (R.ACB_CHANG, c, 0))) ∧
    (s.Takes 4 → Does .tbuClr s fun t => s.Cleared t [(R.TBU_NSTEP, 0, 0)]) ∧
    (s.Takes 20 → ∀ p : Fin 12, Does (.tsnPclr p) s fun t => s.Cleared t
      ([R.TSN_PRX, R.TSN_PTX, R.TSN_PDROP, R.TSN_PLTD].map fun r => (r, p.val, 0))) ∧
    (s.Takes 20 → Does .tsnClr s fun t => s.Cleared t ((R.TSN_FDBMISS, 0, 0) :: (R.TSN_TCSKIP, 0, 0) ::
      (List.range 128).flatMap fun f => [(R.TSN_SF_PASS, f, 0), (R.TSN_SF_DROP, f, 0)])) ∧
    (s.Takes 22 → ∀ p : Fin 4, Does (.reedPclr p) s fun t => s.Cleared t
      ([R.REED_PTX_LO, R.REED_PTX_HI, R.REED_PRX_LO, R.REED_PRX_HI, R.REED_PCRC, R.REED_PREPLAY, R.REED_PRETRAIN].map
        fun r => (r, p.val, 0))) ∧
    (s.Takes 22 → Does .reedClr s fun t => s.Cleared t
      ([R.REED_XORPH, R.REED_XDROP, R.REED_AUDN, R.REED_AUDND, R.REED_AUDSKIP].map fun r => (r, 0, 0))) ∧
    (s.Takes 23 → Does .kcuClr s fun t => s.Cleared t [(R.KCU_NRESEED, 0, 0), (R.KCU_NTAG_LO, 0, 0), (R.KCU_NTAG_HI, 0, 0)]) ∧
    (s.Takes 1 → Does .clkClr s fun t => s.Cleared t [(R.CLK_THMAX, 0, 0), (R.CLK_NCAP, 0, 0)]) ∧
    (s.Takes 26 → Does .mnaClr s fun t => s.Cleared t ((List.range 7).map fun a => (R.MNA_DEFER, a, 0))) ∧
    (s.Takes 25 → Does .ercClr s fun t => s.Cleared t [(R.ERC_DROP, 0, 0), (R.ERC_RLOST, 0, 0)]) ∧
    (s.Takes 24 → Does .memClr s fun t => s.Cleared t [(R.MEM_NCE, 0, 0), (R.MEM_NUE, 0, 0)]))

/-! ### Trace ingress -/

/-- R133, R154 to R156, R158, R160: bytes at the cursor join the record and move the cursor; in RUN a TLP elsewhere or a bad TLP is a framing
failure into RESYNC with its cause and fault, and a QUIESCED port discards and counts the bytes.
R159, R180: a record that stays partial for 200 µs outside backpressure is dropped into RESYNC with PART_TO, and a backpressure episode longer than
BPLIM times 10 µs sets BP_LONG. -/
def Obligations.RingBytesAndPortTimers : Prop :=
  (∀ (s : State) (p : Fin 2) (off : BitVec 24) (d : List Byte), s.taps.length = 2 → s.slots = [] →
    s.on F.TAP_STAT_LINKUP p.val = true → s.host.d0.getD (2 + p.val) true = true → d ≠ [] →
    s.tlpLong p.val off.toNat d = false → s.Calm p.val →
    (s.rd F.TAP_STAT_PSTATE p.val = 2 → off.toNat = s.rd F.TAP_CURSOR_PTR p.val → (s.tap p.val).buf.length + d.length < 32 →
      Does (.tapRingWrite p off d true) s fun t => (t.tap p.val).buf = (s.tap p.val).buf ++ d ∧
        (t.tap p.val).recs = (s.tap p.val).recs ∧ t.rd F.TAP_CURSOR_PTR p.val = (off.toNat + d.length) % 0x1000000 ∧
        t.rd F.TAP_STAT_PSTATE p.val = 2 ∧ (∀ q, q < 28 → t.word R.HEAD_FLT q = s.word R.HEAD_FLT q)) ∧
    (s.rd F.TAP_STAT_PSTATE p.val = 2 → off.toNat ≠ s.rd F.TAP_CURSOR_PTR p.val → off.toNat ≠ 0 →
      Does (.tapRingWrite p off d true) s fun t => t.rd F.TAP_STAT_PSTATE p.val = 1 ∧ t.rd F.TAP_STAT_RSCAUSE p.val = 3 ∧
        t.flt (S.TAP_OOP.at p.val) = true ∧ (t.tap p.val).buf = [] ∧ (t.tap p.val).recs = (s.tap p.val).recs ∧
        t.word R.TAP_RSGEN p.val = (s.word R.TAP_RSGEN p.val + 1) % 2 ^ 32) ∧
    (s.rd F.TAP_STAT_PSTATE p.val = 2 → Does (.tapRingWrite p off d false) s fun t =>
      t.rd F.TAP_STAT_PSTATE p.val = 1 ∧ t.rd F.TAP_STAT_RSCAUSE p.val = 5 ∧ t.flt (S.TAP_BADTLP.at p.val) = true ∧
      (t.tap p.val).buf = [] ∧ (t.tap p.val).recs = (s.tap p.val).recs) ∧
    (s.rd F.TAP_STAT_PSTATE p.val = 3 → ∀ ok : Bool, Does (.tapRingWrite p off d ok) s fun t => t.rd F.TAP_STAT_PSTATE p.val = 3 ∧
      t.rd64 R.TAP_DISC_LO R.TAP_DISC_HI p.val = satAdd 64 (s.rd64 R.TAP_DISC_LO R.TAP_DISC_HI p.val) d.length ∧
      (t.tap p.val).recs = (s.tap p.val).recs)) ∧
  (∀ (s : State) (p : Fin 2) (c : Nat), s.taps.length = 2 →
    (s.slots = [] → (s.tap p.val).buf ≠ [] → (s.tap p.val).bpAt = none → s.rd F.TAP_STAT_PSTATE p.val = 2 → Does (.partTo p) s fun t =>
      (t.tap p.val).buf = [] ∧ t.rd F.TAP_STAT_PSTATE p.val = 1 ∧ t.rd F.TAP_STAT_RSCAUSE p.val = 7 ∧
      t.flt (S.TAP_PART_TO.at p.val) = true ∧ t.cyc = max s.cyc ((s.tap p.val).lastAt + 160000) ∧
      (t.tap p.val).recs = (s.tap p.val).recs) ∧
    ((s.tap p.val).bpAt = some c → (s.tap p.val).bpLong = false → s.backpressure p.val = true → Does (.bpLong p) s fun t =>
      t.flt (S.TAP_BP_LONG.at p.val) = true ∧ t.tap p.val = { s.tap p.val with bpLong := true } ∧
      t.cyc = max s.cyc (c + s.rd F.TAP_CTRL_BPLIM p.val * 8000 + 1)))

/-- R132: a read of the ring completes with Unsupported Request, a write of the status page is discarded, and both set RING_RD and change neither the ring
nor its cursor nor the port's state. -/
def Obligations.RingAnswersNoRead : Prop :=
  ∀ (s : State) (p : Fin 2), s.taps.length = 2 →
    (Does (.tapRingRead p) s fun t => Out.ur p.val ∈ t.out ∧ t.flt (S.TAP_RING_RD.at p.val) = true ∧ t.tap p.val = s.tap p.val ∧
      t.word R.TAP_CURSOR p.val = s.word R.TAP_CURSOR p.val ∧ t.rd F.TAP_STAT_PSTATE p.val = s.rd F.TAP_STAT_PSTATE p.val) ∧
    (Does (.tapStatusWrite p) s fun t => t.flt (S.TAP_RING_RD.at p.val) = true ∧ t.tap p.val = s.tap p.val ∧
      t.word R.TAP_CURSOR p.val = s.word R.TAP_CURSOR p.val ∧ t.rd F.TAP_STAT_PSTATE p.val = s.rd F.TAP_STAT_PSTATE p.val)

/-- R153, R157, R158, R790: loss of the link, a flush and a function reset take a port of RUN into RESYNC with their causes and keep the records
held; QUIESCE drops the partial record into QUIESCED, which the port leaves once both requests are clear. The rise of the link changes no state. -/
def Obligations.PortEntersResyncAndQuiesced : Prop :=
  ∀ (s : State) (p : Fin 2), s.taps.length = 2 → s.Calm p.val →
    (s.on F.TAP_STAT_LINKUP p.val = true → s.rd F.TAP_STAT_PSTATE p.val = 2 → Does (.tapLinkDown p) s fun t =>
      t.rd F.TAP_STAT_LINKUP p.val = 0 ∧ t.rd F.TAP_STAT_PSTATE p.val = 1 ∧ t.rd F.TAP_STAT_RSCAUSE p.val = 6 ∧
      t.flt (S.TAP_LINK_DOWN.at p.val) = true ∧ (t.tap p.val).buf = [] ∧ (t.tap p.val).recs = (s.tap p.val).recs) ∧
    (Does (.tapLinkUp p) s fun t => t.rd F.TAP_STAT_LINKUP p.val = 1 ∧
      t.rd F.TAP_STAT_PSTATE p.val = s.rd F.TAP_STAT_PSTATE p.val ∧ s.Only t [R.TAP_STAT.key p.val 0]) ∧
    (s.rd F.TAP_STAT_PSTATE p.val = 2 → Does (.tapFlr p) s fun t => t.rd F.TAP_STAT_PSTATE p.val = 1 ∧
      t.rd F.TAP_STAT_RSCAUSE p.val = 0 ∧ (t.tap p.val).buf = [] ∧ (t.tap p.val).recs = (s.tap p.val).recs ∧
      t = { s with regs := t.regs, taps := t.taps, sem := { s.sem with since := t.sem.since } }) ∧
    (s.Takes (6 + p.val) →
      (s.rd F.TAP_STAT_PSTATE p.val = 1 ∨ s.rd F.TAP_STAT_PSTATE p.val = 2 → Does (.flush p) s fun t => t.rd F.TAP_STAT_PSTATE p.val = 1 ∧
        (s.rd F.TAP_STAT_PSTATE p.val = 2 → t.rd F.TAP_STAT_RSCAUSE p.val = 1) ∧ (t.tap p.val).buf = [] ∧ (t.tap p.val).recs = (s.tap p.val).recs ∧
        t = { s with regs := t.regs, taps := t.taps, sem := { s.sem with since := t.sem.since } }) ∧
      (s.rd F.TAP_STAT_PSTATE p.val = 0 ∨ s.rd F.TAP_STAT_PSTATE p.val = 3 → Does (.flush p) s fun t => t = s.watch) ∧
      (s.rd F.TAP_STAT_PSTATE p.val ≠ 0 → Does (.quiesceSet p) s fun t => t.rd F.TAP_CTRL_QUIESCE p.val = 1 ∧
        t.rd F.TAP_STAT_PSTATE p.val = 3 ∧ (t.tap p.val).buf = [] ∧ (t.tap p.val).recs = (s.tap p.val).recs ∧
        t = { s with regs := t.regs, taps := t.taps, sem := { s.sem with since := t.sem.since } }) ∧
      (s.rd F.TAP_STAT_PSTATE p.val = 3 → s.on F.TAP_STAT_ACB_Q p.val = false → Does (.quiesceClear p) s fun t =>
        t.rd F.TAP_CTRL_QUIESCE p.val = 0 ∧ t.rd F.TAP_STAT_PSTATE p.val = 1 ∧ t.rd F.TAP_STAT_RSCAUSE p.val = 7) ∧
      (s.rd F.TAP_STAT_PSTATE p.val = 3 → s.on F.TAP_STAT_ACB_Q p.val = true → s.rd F.ACB_STAT_STEP ≠ 0 → Does (.quiesceClear p) s fun t =>
        t.rd F.TAP_CTRL_QUIESCE p.val = 0 ∧ t.rd F.TAP_STAT_PSTATE p.val = 3))

/-- R142, R166, R168, R358, R362, R397: a BEGIN_RESULT at its turn opens the next result of an admitted stream while no transaction waits for
it: it takes a slot, with the deadline from its stamp, and the next free bank, and the sequence number counts as used. One that waits for a bank
overruns after 100 µs: the stream is BLOCKED with ING_OVR and the record goes (R398). -/
def Obligations.BeginResultOpensAResult : Prop :=
  ∀ (s : State) (i : Fin 64) (r : HeldRec) (plan : Plan), s.Shape → s.portOf i.val < 2 → (s.st i.val).admitted = true →
    s.nextRec (s.portOf i.val) false i.val = some r → r.typ = 1 → s.planOf i.val = some plan →
    (s.txnSt ≠ 3 → s.slots = [] → r.bad = false → (∀ l, (s.st i.val).last = some l → r.resseq = l + 1) →
      ((s.st i.val).last = none → (s.st i.val).maxUsed = none) → 0 < (s.st i.val).c.semBanks →
      ∀ bank : Nat, (s.st i.val).nextBank plan = some bank → Does (.beginResult i) s fun t =>
        (t.st i.val).open_ = some r.resseq ∧ (t.st i.val).last = some r.resseq ∧ (t.st i.val).maxUsed = some r.resseq ∧
        (∃ sl, t.slotOf i.val r.resseq = some sl ∧ sl.deadline = r.stamp + (s.st i.val).c.deadlineUs * 1000 ∧ sl.bank = bank ∧
          sl.tfirst = r.stamp) ∧ t.Taken (s.portOf i.val) r) ∧
    (((s.freeBanks i.val).st i.val).nextBank plan = none → s.slots = [] → 0 < (s.st i.val).c.semBanks → Does (.bankWaitTimeout i) s fun t =>
      t.rd F.TAP_SSTAT_BLOCKED (s.portOf i.val) i.val = 1 ∧ t.flt (S.TAP_ING_OVR.at (s.portOf i.val)) = true ∧
      t.cyc = max s.cyc (r.at_ + 80000) ∧ t.Taken (s.portOf i.val) r)

/-- R143 to R148, R169 to R174, R262, R479: the records of an open result at their turn. END_RESULT closes the result, which is incomplete
where NREC differs; a part of a tensor or of an accumulator that overlaps none joins it; KV_APPEND copies its position's row; INPUT_BIND's entries
join; ACTION's setpoints wait for the AEU with the ACT check; a RETRACT of the open result before its deadline withdraws it. -/
def Obligations.RecordsFillTheOpenResult : Prop :=
  ∀ (s : State) (i : Fin 64) (r : HeldRec) (sl : Slot) (p : Plan) (td : TensD),
    (s.AtTurn i.val 2 r sl p → sl.left = false → Does (.endResult i) s fun t => (t.st i.val).open_ = none ∧ t.Taken (s.portOf i.val) r ∧
      ∃ y, t.slotOf i.val r.resseq = some y ∧ y.dlast = some r.stamp ∧ y.closed = true ∧
        (le 0 4 r.payload ≠ sl.nrec → y.incomplete = true)) ∧
    (s.AtTurn i.val 3 r sl p → p.recTensor r = some td → sl.overlap (r.part td.num) = 0 → s.partStall i.val r sl = false →
      Does (.tensor i) s fun t => t.Taken (s.portOf i.val) r ∧
        ∃ y, t.slotOf i.val r.resseq = some y ∧ y.parts = sl.parts ++ [r.part td.num] ∧ y.nrec = sl.nrec + 1) ∧
    (s.AtTurn i.val 5 r sl p → p.recTensor r = some td → sl.overlap (r.part td.num) = 0 → s.partStall i.val r sl = false →
      Does (.acc32 i) s fun t => t.Taken (s.portOf i.val) r ∧
        ∃ y, t.slotOf i.val r.resseq = some y ∧ y.parts = sl.parts ++ [r.part td.num] ∧ y.nrec = sl.nrec + 1) ∧
    (s.AtTurn i.val 4 r sl p → p.portTensor r.site 1 = some td → le 0 4 r.payload = sl.ctxpos + r.token → sl.complete td r.token = true →
      s.portOf i.val < 2 → Does (.kvAppend i) s fun t => t.Taken (s.portOf i.val) r ∧
        (t.st i.val).count = max (s.st i.val).count (le 0 4 r.payload + 1) ∧
        (∃ k ∈ (t.st i.val).kv, k.site = r.site ∧ k.pos = le 0 4 r.payload ∧ (k.codes, k.scales) = sl.whole td r.token) ∧
        ∃ y, t.slotOf i.val r.resseq = some y ∧ (r.site, le 0 4 r.payload) ∈ y.kvs) ∧
    (s.AtTurn i.val 6 r sl p → sl.binds = [] → r.hinfo = 1 → Does (.inputBind i) s fun t => t.Taken (s.portOf i.val) r ∧
      ∃ y, t.slotOf i.val r.resseq = some y ∧ y.binds.map (fun e => { e with res := 0 }) = [bindEntry (slice 0 32 r.payload)]) ∧
    (s.AtTurn i.val 7 r sl p → sl.barred = false → Does (.actionRec i) s fun t => t.Taken (s.portOf i.val) r ∧
      ∃ y, t.slotOf i.val r.resseq = some y ∧ y.acts.length = sl.acts.length + 1 ∧ y.acts.take sl.acts.length = sl.acts ∧ actKey ∈ y.issued ∧
        ∃ a ∈ y.acts.drop sl.acts.length, a.tapply = s.guardNs (le 0 8 r.payload) ∧ a.arrival = r.stamp ∧ a.ents.length = r.hinfo ∧
          a.judged = false) ∧
    (s.AtTurn i.val 8 r sl p → sl.formed = false → sl.ready = false → s.slots = [sl] → s.ns < sl.deadline → (s.st i.val).last = some r.resseq → Does (.retract i) s fun t => t.Taken (s.portOf i.val) r ∧ (t.st i.val).open_ = none ∧
      r.resseq ∈ (t.st i.val).retracted ∧ (t.st i.val).count = sl.ctxpos)

/-- R149, R181, R224, R563, R574: records outside results. CMD_BEGIN opens an entry of the command table and CMD_END closes it, with their
records taken, while the ACB is enabled; a READY outside WAIT_READY is discarded and counted; a sound WEIGHT_CHUNK in key-up joins its matrix; a
PAD is ignored. -/
def Obligations.PortAndCommandRecords : Prop :=
  ∀ (s : State) (i : Fin 64) (p : Fin 2) (r : HeldRec), s.Shape →
    (s.portOf i.val < 2 → s.nextRec (s.portOf i.val) false i.val = some r → (s.st i.val).admitted = true → r.bad = false → r.gap = false →
      s.on F.ACB_CTRL_EN = true →
      (r.typ = 9 → (∀ e ∈ s.acb.table, e.cmdid ≠ bits 9 0 r.hinfo) → Does (.cmdBegin i) s fun t => t.Taken (s.portOf i.val) r ∧
        t.acb.table = s.acb.table ++ [⟨bits 9 0 r.hinfo, i.val, bits 19 16 r.hinfo, 0, r.stamp⟩] ∧
        (s.acb.table.length < 1024 → t.rd F.ACB_NOPEN_N = s.acb.table.length + 1)) ∧
      (r.typ = 9 → (∃ e ∈ s.acb.table, e.cmdid = bits 9 0 r.hinfo) → Does (.cmdBegin i) s fun t => t.Taken (s.portOf i.val) r ∧
        t.acb.table = s.acb.table ∧ t.flt S.ACB_CMD_PROTO = true) ∧
      (r.typ = 10 → bit 24 r.hinfo = false → ∀ e : CmdEntry, s.acb.table = [e] → e.cmdid = bits 9 0 r.hinfo → e.cls = bits 19 16 r.hinfo →
        e.stream = i.val → Does (.cmdEnd i) s fun t => t.Taken (s.portOf i.val) r ∧ t.acb.table = [] ∧ t.rd F.ACB_NOPEN_N = 0) ∧
      (r.typ = 10 → s.acb.table = [] → Does (.cmdEnd i) s fun t => t.Taken (s.portOf i.val) r ∧ t.flt S.ACB_CMD_PROTO = true)) ∧
    (s.nextRec p.val true 0 = some r →
      (r.typ = 0x10 → s.rd F.ACB_STAT_STEP ≠ 5 → Does (.readyRec p) s fun t => t.Taken p.val r ∧
        t.rd F.TAP_PMAL_N p.val = satAdd 32 (s.rd F.TAP_PMAL_N p.val) 1) ∧
      (r.typ = 0x10 → s.rd F.ACB_STAT_STEP = 5 → p.val = s.acb.set.rdyPort → s.acb.vars = 0 → s.acb.set.replay = true →
        le 0 4 r.payload = s.word R.ACB_RCNT → le 4 1 r.payload = 1 → le 8 4 r.payload = s.word R.ACB_RHN →
        beNat (slice 16 48 r.payload) = s.acb.digest → Does (.readyRec p) s fun t => t.Taken p.val r ∧ t.rd F.ACB_STAT_STEP = 6) ∧
      (r.typ = 0x1F → Does (.pad p) s fun t => t.Taken p.val r ∧ t.slots = s.slots ∧ t.streams = s.streams ∧ t.lqs = s.lqs) ∧
      (r.typ = 0x11 → r.bad = false → s.slots = [] → s.on F.TAP_CTRL_ACCEPT_WCHUNK p.val = true → s.rd F.PST_CSTAT_STATE (bits 3 0 r.hinfo) = 1 →
        ∀ (m : MatK) (d : MatD) (plan : Plan), s.mat (bits 3 0 r.hinfo) r.site = some m → s.matD (bits 3 0 r.hinfo) r.site = some d →
        (s.ctx (bits 3 0 r.hinfo)).plan = some plan → le 0 4 r.payload < d.nchunk →
        plan.manifest[d.firstEntry + le 0 4 r.payload]? = some (Config.sha384 r.payload) → m.openK = true →
        m.chunks.contains (le 0 4 r.payload) = false → Does (.weightChunk p) s fun t => t.Taken p.val r ∧
          t.rd F.TAP_WCACC_N p.val = satAdd 32 (s.rd F.TAP_WCACC_N p.val) 1 ∧
          ∃ m', t.mat (bits 3 0 r.hinfo) r.site = some m' ∧ m'.chunks = le 0 4 r.payload :: m.chunks))

/-! ### Transfers and roles of the tally engines -/

/-- R306, R664, R666, R668: XFS projects the vector under the newest key sent for its peer's stream and ends NOT DONE without one; XFC ends NOT DONE
with an unreachable peer and waits for the peer's value up to its timeout, which raises XFER_TO and ends it NOT DONE. -/
def Obligations.TransferCommands : Prop :=
  ∀ (s : State) (q : Fin 48) (j : Job) (r : Slot) (p : Plan) (c : Cmd) (d : XferD) (td : TensD) (ys : List Dy),
    (s.Runs q.val j r p c → c.sub = 0 → p.xferD (j.siteOf (bits 95 80 c)) = some d → d.site = j.siteOf (bits 95 80 c) →
      (c.opc = 9 → (∀ x ∈ s.reed.sent, x.purpose ≠ 1) → Does (.xfs q) s fun t => t.Went q.val j ∧ t.JobEnds q.val false true) ∧
      (p.tref (j.siteOf (bits 95 80 c)) (bits 39 24 c) = some td → grouped td.fmt = false → bits 18 16 c = 0 →
        finite ((List.range (bits 79 60 c)).map fun k => r.val td j.token (bits 59 40 c + k)) = some (some ys) →
        let old : List Dy := if bit 23 c then [] else ((s.lq q.val).wins.getD (bits 21 19 c) Win.zero).terms
        let signed (key : Nat) : List Dy := ((List.range (bits 79 60 c)).zip ys).map fun (k, y) => if signBit key (bits 59 40 c + k) then y.neg else y
        (c.opc = 9 → d.pairs = [((s.st j.stream).sidx, 7)] → ∀ k : XKey, s.sendKeyFor d.site 7 j.resseq = some k → Does (.xfs q) s fun t =>
          t.Went q.val j ∧ ((t.lq q.val).wins.getD (bits 21 19 c) Win.zero).terms = old ++ signed k.key) ∧
        (c.opc = 10 → s.peerGone d.peer = false → s.reed.pend = [] → ∀ k : XKey, keyFor s.reed.recv d.site j.stream j.resseq = some k →
          ((s.lq q.val).wins.getD (bits 21 19 c) Win.zero).n + bits 79 60 c ≤ 262144 →
          Does (.xfc q) s fun t => (t.lq q.val).waiting = true ∧ (t.lq q.val).jobs.head?.bind (·.xfc) = some (s.cyc + 800 * d.timeoutUs) ∧
            ((t.lq q.val).wins.getD (bits 21 19 c) Win.zero).terms = old ++ signed k.key)) ∧
      (c.opc = 10 → s.peerGone d.peer = true → Does (.xfc q) s fun t => t.Went q.val j ∧ t.JobEnds q.val false true)) ∧
    (∀ at_ : Nat, s.xfcHead q.val = some (j, p, c, d) → j.xfc = some at_ → j.purge = false → j.failed = false → Does (.xferTo q) s fun t =>
      t.Went q.val j ∧ t.JobEnds q.val false true ∧ (t.lq q.val).waiting = false ∧ t.flt (S.TE_XFER_TO.at (s.engOf q.val)) = true ∧
      t.cyc = max s.cyc at_)

/-- R314 to R317, R320, R322, R324: an idle running engine is gated after 16 cycles; a handing engine whose heads are at rest gives its queues to the
engine that takes them and enters its self-test; a passed self-test makes a spare idle and a probed engine ready, a failed one takes it OUT with STEST_FAIL;
the end of a takeover makes the engine active, with STATE_LOST where words were lost. -/
def Obligations.RolesOfTheTallyEngines : Prop :=
  ∀ (s : State) (e u : Fin 4) (phase : BitVec 3) (us : Nat) (q : Fin 48), s.tes.length = 4 → s.lqs.length = 48 → s.engClk = true →
    (s.teRuns e.val = true → s.teIdle e.val = true → s.on F.TE_CTRL_NOGATE e.val = false → s.on F.TE_STAT_GATED e.val = false →
      Does (.teClockGate e) s fun t => t.rd F.TE_STAT_GATED e.val = 1 ∧ t.cyc = s.cyc + 16 ∧ t.lqs = s.lqs) ∧
    (s.roleOf e.val = 2 → s.handable e.val = true → s.roleOf u.val = 5 → (∀ v : Fin 4, s.roleOf v.val = 5 → v = u) → (s.te u.val).taking = some e.val →
      s.on F.TE_CTRL_EN e.val = true → s.on F.TE_CTRL_EN u.val = true → Does (.spareHandoverDone e) s fun t => t.roleOf e.val = 3 ∧ t.rd F.TE_STAT_STPHASE e.val = 1 ∧
        t.roleOf u.val = 1 ∧ (t.te u.val).taking = none ∧ ∀ k ∈ s.queuesOf e.val, (t.lq k).eng = some u.val) ∧
    (s.roleOf e.val = 3 ∨ s.roleOf e.val = 7 →
      (Does (.teSelftestDone e true phase us) s fun t => t.roleOf e.val = (if s.roleOf e.val = 3 then 4 else 8) ∧
        t.rd F.TE_STAT_STPASS e.val = 1 ∧ t.rd F.TE_STAT_STPHASE e.val = 0 ∧ t.rd F.TE_STLAST_US e.val = min us 1023 ∧
        (t.te e.val).lastPass = s.cyc) ∧
      (s.slots = [] → Does (.teSelftestDone e false phase us) s fun t => t.roleOf e.val = 6 ∧ t.rd F.TE_OUTCAUSE_SRC e.val = 6 ∧
        t.rd F.TE_STAT_STPASS e.val = 0 ∧ t.rd F.TE_STLAST_PHASE e.val = phase.toNat ∧ t.flt (S.TE_STEST_FAIL.at e.val) = true)) ∧
    (s.roleOf e.val = 5 → s.slots = [] → s.on F.TE_CTRL_EN e.val = true → (∀ v, (s.te e.val).taking = some v → s.roleOf v ≠ 2) →
      (Does (.takeoverCopyDone e [] []) s fun t => t.roleOf e.val = 1 ∧ (t.te e.val).taking = none ∧ t.streams = s.streams ∧
        ∀ k : Fin 48, t.lq k.val = if (s.lq k.val).eng = some e.val then { s.lq k.val with copying := false } else s.lq k.val) ∧
      ((s.lq q.val).eng = some e.val → (s.lq q.val).copying = true → (s.lq q.val).jobs ≠ [] → Does (.takeoverCopyDone e [q] []) s fun t => t.roleOf e.val = 1 ∧
        t.flt (S.TE_STATE_LOST.at e.val) = true ∧ (t.lq q.val).lostScr = true ∧ (t.lq q.val).scratch = [] ∧ (t.lq q.val).jobs = (s.lq q.val).jobs))

/-! ### The projection store -/

/-- R224, R227, R229 to R231: the end of a key-up makes the context ready with GEN 0; an abort unloads it; a matrix whose chunks are all there is
installed, with GEN 0 in key-up and the next GEN in a re-key, which then ends; a key-up that lasts PST_KUPTO seconds raises KEYUP_TO.
R232, R234: an installed matrix asks for a re-key at 0.9 of PST_EPOCH, raises REKEY_LATE at PST_EPOCH and REKEY_EXPIRED at twice that, with its
checks NOT DONE from then on; REKEY_ALL queues every matrix of the context that no re-key serves. -/
def Obligations.KeyUpInstallAndRekey : Prop :=
  (∀ (s : State) (c : Fin 16) (site : BitVec 16) (m : MatK) (d : MatD), s.ctxs.length = 16 →
    (s.rd F.PST_CSTAT_STATE c.val = 1 →
      ((∀ x ∈ (s.ctx c.val).mats, x.vecs ≠ []) → Does (.keyupComplete c) s fun t => t.rd F.PST_CSTAT_STATE c.val = 2 ∧ t.word R.PST_CGEN c.val = 0) ∧
      ((∃ x ∈ (s.ctx c.val).mats, x.vecs = []) → Does (.keyupComplete c) s fun t => t = s) ∧
      (s.Takes 15 → Does (.abortKeyup c) s fun t => t.rd F.PST_CSTAT_STATE c.val = 3) ∧
      ((s.ctx c.val).kupTo = false → Does (.keyupTo c) s fun t => (t.ctx c.val).kupTo = true ∧ t.flt S.PST_KEYUP_TO = true ∧
        t.cyc = max s.cyc ((s.ctx c.val).at_ + 800000000 * s.rd F.PST_KUPTO_SEC))) ∧
    (s.mat c.val site.toNat = some m → s.matD c.val site.toNat = some d → m.openK = true → m.keys ≠ [] → d.nchunk ≤ m.chunks.length → s.bgLane = true →
      (s.pst.cur ≠ some (c.val, site.toNat) → Does (.matrixInstall c site) s fun t =>
        ∃ x, t.mat c.val site.toNat = some x ∧ x.openK = false ∧ x.doneAt = s.cyc ∧ m.keys.length ≤ x.vecs.length ∧ x.expired = false ∧
          (∀ v ∈ x.vecs.take m.keys.length, v.gen = 0)) ∧
      (s.pst.cur = some (c.val, site.toNat) → Does (.matrixInstall c site) s fun t =>
        t.word R.PST_CGEN c.val = (if s.rd F.PST_CSTAT_STATE c.val = 2 then (s.word R.PST_CGEN c.val + 1) % 2 ^ 32 else 0) ∧ t.pst.cur = none ∧ t.rd F.PST_RKCUR_BUSY = 0 ∧
        ∃ x, t.mat c.val site.toNat = some x ∧ x.openK = false ∧ x.doneAt = s.cyc ∧ x.expired = false ∧
          (∀ v ∈ x.vecs.take m.keys.length, v.gen = t.word R.PST_CGEN c.val)))) ∧
  (∀ (s : State) (c : Fin 16) (site : BitVec 16) (m : MatK), s.ctxs.length = 16 →
    (s.installed c.val site.toNat = some m →
      (m.req = false → Does (.rekeyRequest c site) s fun t => t.cyc = max s.cyc (m.doneAt + 800000000 * (9 * s.rd F.PST_EPOCH_SEC) / 10) ∧
        (s.on F.PST_CTRL_REKEY_EN = true → s.rd F.CLK_PWR_STATE ≠ 2 → (∃ x, t.mat c.val site.toNat = some x ∧ x.req = true) ∧
          (t.pst.cur = some (c.val, site.toNat) ∨ ∃ x ∈ t.pst.queue, x.1 = c.val ∧ x.2.1 = site.toNat)) ∧
        (s.on F.PST_CTRL_REKEY_EN = false → t.ctxs = s.ctxs ∧ t.pst = s.pst ∧ t.regs = s.regs)) ∧
      (m.late = false → Does (.rekeyLate c site) s fun t => t.cyc = max s.cyc (m.doneAt + 800000000 * s.rd F.PST_EPOCH_SEC) ∧
        (∃ x, t.mat c.val site.toNat = some x ∧ x.late = true) ∧ t.flt S.PST_REKEY_LATE = true) ∧
      (m.expired = false → Does (.rekeyExpired c site) s fun t => t.cyc = max s.cyc (m.doneAt + 800000000 * (2 * s.rd F.PST_EPOCH_SEC)) ∧
        (∃ x, t.mat c.val site.toNat = some x ∧ x.expired = true) ∧ t.flt S.PST_REKEY_EXPIRED = true ∧ t.rd F.PST_CSTAT_EXPIRED c.val = 1)) ∧
    (s.Takes 15 → Does (.rekeyAll c) s fun t => (∀ x ∈ (s.ctx c.val).mats, t.pst.cur = some (c.val, x.site) ∨ (c.val, x.site, true) ∈ t.pst.queue) ∧
      t = { s with regs := t.regs, pst := t.pst }))

/-! ### Jobs, signals and waits -/

/-- R290, R298: a job starts at its program index with its windows, status and, but in a replay, its flags cleared; LDP leaves its copy outstanding
under its flag, and the copy's end frees it, counts the flag and fills the scratch, or ends NOT DONE after two failed reads (R234).
R310, R312: a compute command of a job with FAILED, NOTDONE or in purge is passed over with no other effect. -/
def Obligations.JobsStartLoadAndSkip : Prop :=
  (∀ (s : State) (q : Fin 48) (j : Job) (js : List Job) (e : Nat) (p : Plan) (c : Cmd), s.Shape →
    ((s.lq q.val).eng = some e → (s.lq q.val).jobs = j :: js → s.teStarts e = true → s.moving q.val = false → j.started = false → (s.lq q.val).ldps = [] →
      s.bpAll = s →
      Does (.jobStart q) s fun t => (t.lq q.val).jobs = { j with started := true, cur := j.pc, failed := false, notDone := j.lost, sat := false } :: js ∧
        (t.lq q.val).wins = List.replicate 8 Win.zero ∧ (j.replay = false → j.again = false → (t.lq q.val).flags = [0, 0, 0]) ∧
        t.rd F.TE_STAT_GATED e = 0 ∧ t = { s with regs := t.regs, lqs := t.lqs, sem := { s.sem with since := t.sem.since } }) ∧
    (s.Heads q.val j p c → c.opc = 1 → j.skipL = 0 → s.ldpCount (s.engOf q.val) < 4 → (s.slotOf j.stream j.resseq).isSome = true →
      (p.matD (j.siteOf (bits 103 88 c))).isSome = true → Does (.ldp q) s fun t => t.Went q.val j ∧
        (t.lq q.val).ldps.length = (s.lq q.val).ldps.length + 1 ∧ (t.lq q.val).ldps.take (s.lq q.val).ldps.length = (s.lq q.val).ldps ∧
        ∀ d ∈ (t.lq q.val).ldps.drop (s.lq q.val).ldps.length, d.flag = bits 23 22 c ∧ d.dst = bits 85 72 c) ∧
    (∀ (d : Ldp) (ds : List Ldp) (x : Scr) (site : BitVec 16), (s.lq q.val).ldps = d :: ds → d.data = some x →
      ((s.lq q.val).waiting = false → Does (.ldpLand q 0 site) s fun t => (t.lq q.val).ldps = ds ∧ (d.dst, x) ∈ (t.lq q.val).scratch ∧
        (d.flag < 3 → t.flag q.val d.flag = min 255 (s.flag q.val d.flag + 1))) ∧
      (d.segs ≠ [] → (s.lq q.val).jobs.head?.map (·.started) = some true → Does (.ldpLand q 2 site) s fun t => (t.lq q.val).ldps = ds ∧ t.flt S.PST_PRJ_AUTH = true ∧
        (t.lq q.val).jobs.head?.map (·.notDone) = some true))) ∧
  (∀ (s : State) (q : Fin 48) (j : Job) (js : List Job) (p : Plan) (c : Cmd), s.Heads q.val j p c → (s.lq q.val).jobs = j :: js →
    (j.failed || j.notDone || j.purge) = true →
    ∀ x ∈ [(Instr.pry q, 2, 0), (.dtxProj q, 3, 0), (.dtxSqsum q, 3, 1), (.dtxSum q, 3, 2), (.dtxDot q, 3, 3), (.cmpb q, 4, 0), (.resxAcc q, 5, 0),
        (.resxInput q, 5, 1), (.resxCmp q, 5, 2), (.elm q, 6, 0), (.rteSelect q, 7, 0), (.rteGate q, 7, 1), (.tokslice q, 7, 2), (.tokjoin q, 7, 3),
        (.envCheck q, 8, 0), (.envAddrow q, 8, 1), (.envCommit q, 8, 2), (.envRebuild q, 8, 3), (.envRecomp q, 8, 4), (.xfs q, 9, 0), (.xfc q, 10, 0)],
      c.opc = x.2.1 → c.sub = x.2.2 → Does x.1 s fun t =>
        (t.lq q.val).jobs = { j with cur := j.cur + 1 } :: js ∧ (t.lq q.val).wins = (s.lq q.val).wins ∧ t = { s with lqs := t.lqs })

/-- R307, R308, R309, R310, R405, R413: SIG counts a local flag or a semaphore of the result's bank; WAI goes on and takes its count where it
suffices, and registers otherwise; DONE ends the job, counts it and reports its check's outcome to the result.
R400, R402, R404, R409, R411, R414 to R416: a signal counts an active semaphore of its context, a remote one that is not allowed is rejected;
SEM_INIT reinitialises an ABANDONED one and SEM_ABANDON releases the waiters of an active one, each with ACCESS elsewhere; a deadlock is counted
and reported. -/
def Obligations.SignalsWaitsAndSemaphores : Prop :=
  (∀ (s : State) (q : Fin 48) (j : Job) (p : Plan) (c : Cmd) (k : Nat), s.Heads q.val j p c → s.Still →
    (c.opc = 11 → j.skipS = 0 → bit 0 c.sub = true → bits 17 16 c < s.flagsOf q.val → Does (.sig q) s fun t => t.Went q.val j ∧
      t.flag q.val (bits 17 16 c) = min 255 (s.flag q.val (bits 17 16 c) + bits 39 32 c)) ∧
    (c.opc = 11 → j.skipS = 0 → bit 0 c.sub = false → bits 45 40 c = 0x3F → bit 30 c = false →
      s.semAbs j.ctx j.bank (bits 29 16 c) false = some k → s.rd F.SEM_SSTAT_STATE k = 1 → s.rd F.SEM_SSTAT_CTX k = j.ctx →
      (∀ w ∈ s.sem.waits, w.sem ≠ k) → Does (.sig q) s fun t => t.Went q.val j ∧
        t.rd F.SEM_SSTAT_COUNT k = min (s.rd F.SEM_SSTAT_COUNT k + bits 39 32 c) 65535) ∧
    (c.opc = 12 → j.skipW = 0 → bit 0 c.sub = true → bits 17 16 c < s.flagsOf q.val → bits 47 32 c ≤ s.flag q.val (bits 17 16 c) →
      Does (.wai q) s fun t => t.Went q.val j ∧ (t.lq q.val).waiting = false ∧
        t.flag q.val (bits 17 16 c) = s.flag q.val (bits 17 16 c) - bits 47 32 c) ∧
    (c.opc = 12 → j.skipW = 0 → bit 0 c.sub = false → bit 30 c = false → s.semAbs j.ctx j.bank (bits 29 16 c) false = some k →
      s.rd F.SEM_SSTAT_STATE k = 1 → (∀ w ∈ s.sem.waits, w.sem ≠ k) →
      (bits 47 32 c ≤ s.rd F.SEM_SSTAT_COUNT k → Does (.wai q) s fun t => t.Went q.val j ∧ (t.lq q.val).waiting = false ∧
        t.rd F.SEM_SSTAT_COUNT k = s.rd F.SEM_SSTAT_COUNT k - bits 47 32 c ∧ t.sem.waits = s.sem.waits) ∧
      (s.rd F.SEM_SSTAT_COUNT k < bits 47 32 c → Does (.wai q) s fun t => (t.lq q.val).waiting = true ∧
        t.sem.waits = s.sem.waits ++ [⟨k, q.val, bits 47 32 c⟩] ∧ t.rd F.SEM_SSTAT_COUNT k = s.rd F.SEM_SSTAT_COUNT k)) ∧
    (c.opc = 13 → bits 19 16 c ≠ 0 → j.purge = false → j.fallback = false → ∀ r : Slot, s.slotOf j.stream j.resseq = some r → r.formed = false →
      (∀ o ∈ r.out, o.1 ≠ chkKey (bits 35 20 c) j.token) → Does (.jobDone q) s fun t =>
        (t.lq q.val).jobs = (s.lq q.val).jobs.drop 1 ∧
        ∃ y, t.slotOf j.stream j.resseq = some y ∧ (chkKey (bits 35 20 c) j.token, s.doneRes j (bits 19 16 c)) ∈ y.out)) ∧
  (∀ (s : State) (src : BitVec 4) (dev : BitVec 6) (c : Fin 16) (n : BitVec 14) (cnt : BitVec 8), s.slots = [] → s.mnt.waitSar = [] →
    (src ≠ 9 → s.rd F.SEM_SSTAT_STATE n.toNat = 1 → s.rd F.SEM_SSTAT_CTX n.toNat = c.val → (∀ w ∈ s.sem.waits, w.sem ≠ n.toNat) →
      Does (.semSignal src dev c n cnt) s fun t =>
        t.rd F.SEM_SSTAT_COUNT n.toNat = min (s.rd F.SEM_SSTAT_COUNT n.toNat + cnt.toNat) 65535 ∧
        t.rd F.SEM_SSIG_N n.toNat = satAdd 32 (s.rd F.SEM_SSIG_N n.toNat) 1 ∧
        (65535 < s.rd F.SEM_SSTAT_COUNT n.toNat + cnt.toNat → t.rd F.SEM_SSTAT_OVF n.toNat = 1 ∧ t.flt S.SEM_SEM_OVF = true)) ∧
    (src = 9 → s.rd F.SEM_SSTAT_REMOTE n.toNat = 0 → Does (.semSignal src dev c n cnt) s fun t =>
      t.rd F.SEM_REMREJ_N = satAdd 32 (s.rd F.SEM_REMREJ_N) 1 ∧ t.flt S.SEM_REMOTE_BAD = true ∧
      t.word R.SEM_SSTAT n.toNat = s.word R.SEM_SSTAT n.toNat) ∧
    (s.deadlocked = true → Does .deadlock s fun t => t.flt S.SEM_DEADLOCK = true ∧
      t.rd F.SEM_DLCNT_N = satAdd 32 (s.rd F.SEM_DLCNT_N) 1 ∧ t.cyc = s.cyc + 65536) ∧
    (s.deadlocked = false → Does .deadlock s fun t => t = s) ∧
    (s.Takes 5 →
      (s.rd F.SEM_SSTAT_STATE n.toNat = 2 → Does (.semInit n) s fun t => t.rd F.SEM_SSTAT_STATE n.toNat = 1 ∧
        t.rd F.SEM_SSTAT_COUNT n.toNat = 0 ∧ t.rd F.SEM_SSTAT_OVF n.toNat = 0 ∧ s.Only t [R.SEM_SSTAT.key n.toNat 0]) ∧
      (s.rd F.SEM_SSTAT_STATE n.toNat ≠ 2 → Does (.semInit n) s fun t => t.flt S.GLB_ACCESS = true) ∧
      (s.rd F.SEM_SSTAT_STATE n.toNat = 1 → (∀ x ∈ s.streams, x.banks = []) → Does (.semAbandon n) s fun t =>
        t.rd F.SEM_SSTAT_STATE n.toNat = 2 ∧ ∀ w ∈ t.sem.waits, w.sem ≠ n.toNat) ∧
      (s.rd F.SEM_SSTAT_STATE n.toNat ≠ 1 → Does (.semAbandon n) s fun t => t.flt S.GLB_ACCESS = true)))

/-! ### Commands of the tally engines -/

/-- R203, R206, R299, R300: PRY and the four forms of DTX put their product terms into the window, after clearing it under CLR: the signed outputs,
the negated products with a loaded vector, squares, elements, and products of two sources. Stated for one window and formats without shared
exponents. -/
def Obligations.WindowsTakeTheirTerms : Prop :=
  ∀ (s : State) (q : Fin 48) (j : Job) (r : Slot) (p : Plan) (c : Cmd) (xs ys : List Dy), s.Runs q.val j r p c → bits 18 16 c = 0 →
    let w0 := bits 21 19 c
    let old : List Dy := if bit 23 c then [] else ((s.lq q.val).wins.getD w0 Win.zero).terms
    let now (t : State) : List Dy := ((t.lq q.val).wins.getD w0 Win.zero).terms
    (c.opc = 2 → c.sub = 0 → ∀ (td : TensD) (sc : SiteC) (m : MatK) (v : PVec), p.tref (j.siteOf (bits 95 80 c)) (bits 39 24 c) = some td →
      p.siteC (j.siteOf (bits 95 80 c)) = some sc → sc.sat ≠ 0 → grouped td.fmt = false → s.mat j.ctx (j.siteOf (bits 95 80 c)) = some m →
      m.expired = false → m.poison = false → m.range = false → m.vec 0 false r.gen = some v →
      finite ((List.range (bits 79 60 c)).map fun k => r.val td j.token (bits 59 40 c + k)) = some (some ys) →
      Does (.pry q) s fun t => t.Went q.val j ∧ now t = old ++ ((List.range (bits 79 60 c)).zip ys).map fun (k, y) =>
        if signBit v.key (bits 59 40 c + k) then y.neg else y) ∧
    (c.opc = 3 →
      let site := j.siteOf (bits 111 96 c)
      let es := (List.range (bits 95 76 c)).map fun k => s.srcVal q.val j r p site (bits 39 24 c) (bits 75 56 c + k)
      let bs := (List.range (bits 95 76 c)).map fun k => s.srcVal q.val j r p site (bits 55 40 c) (bits 75 56 c + k)
      finite (es.map (·.1)) = some (some xs) → (∀ e ∈ es, grouped e.2.1 = false) →
      (c.sub = 0 → (p.matD site).all (fun m => !m.gather) = true → ∀ (off : Nat) (ps rem eps : List Dy),
        (s.projVec q.val j r site (bits 55 40 c) 0).1 = some (off, ps, rem, eps) → (∀ x ∈ rem, x.isZero = true) → off ≤ bits 75 56 c →
        bits 75 56 c + bits 95 76 c ≤ off + ps.length → Does (.dtxProj q) s fun t => t.Went q.val j ∧
          now t = old ++ ((List.range (bits 95 76 c)).zip xs).map fun (k, x) => ((ps.getD (bits 75 56 c + k - off) Dy.zero).mul x).neg) ∧
      (c.sub = 1 → Does (.dtxSqsum q) s fun t => t.Went q.val j ∧ now t = old ++ xs.map fun x => x.mul x) ∧
      (c.sub = 2 → Does (.dtxSum q) s fun t => t.Went q.val j ∧ now t = old ++ xs) ∧
      (c.sub = 3 → finite (bs.map (·.1)) = some (some ys) → (∀ e ∈ bs, grouped e.2.1 = false) → Does (.dtxDot q) s fun t => t.Went q.val j ∧
        now t = old ++ (xs.zip ys).map fun (x, y) => x.mul y))

/-- R209, R217 to R221, R301, R302: CMPB fails a window beyond its bound and one with a non-finite term, RESX joins the residues modulo both
Mersenne primes with coefficients or stored residues as weights, and RESX CMP fails unless both residues are 0. -/
def Obligations.ComparisonsDecideTheCheck : Prop :=
  ∀ (s : State) (q : Fin 48) (j : Job) (r : Slot) (p : Plan) (c : Cmd) (sc : SiteC) (td : TensD) (m : MatK) (v : PVec) (xs : List Dy),
    s.Runs q.val j r p c →
    let x := (s.lq q.val).wins.getD (bits 21 19 c) Win.zero
    (c.opc = 4 → c.sub = 0 → bits 18 16 c = 0 → p.siteC (j.siteOf (bits 95 80 c)) = some sc →
      (x.nf.isSome = true → Does (.cmpb q) s fun t => t.Went q.val j ∧ t.JobEnds q.val true false) ∧
      (x.nf = none → ∀ (delta : Dy) (dwin : Dy) (b : Bool), winValue x.terms = (delta, dwin, false) →
        cmpBound delta dwin (tauOf sc.tolc) (((match uOut sc.fmtOut sc.rnd with | some u => (s.lq q.val).s1.mul (Dy.pow2 (2 * u)) | none => Dy.zero).add
          (((fp32 sc.gammaAcc).mul (fp32 sc.gammaAcc)).mul x.s2))) (x.xeps.add (fp32 sc.epsAbs)) = some b →
        Does (.cmpb q) s fun t => t.Went q.val j ∧ t.JobEnds q.val (!b) false)) ∧
    (c.opc = 5 → c.sub ≤ 1 → p.tref (j.siteOf (bits 95 80 c)) (bits 39 24 c) = some td → s.mat j.ctx (j.siteOf (bits 95 80 c)) = some m →
      m.expired = false → m.poison = false → m.vec 0 true r.gen = some v →
      finite ((List.range (bits 79 60 c)).map fun k => r.val td j.token (bits 59 40 c + k)) = some (some xs) →
      let base : Win := if bit 23 c then Win.zero else x
      let sum (w : Nat) (f : Nat → Nat) : Nat := sumNat ((((List.range (bits 79 60 c)).map (bits 59 40 c + ·)).zip xs).map fun (i, y) => f i * y.modM w)
      (c.sub = 0 → Does (.resxAcc q) s fun t => t.Went q.val j ∧
        ((t.lq q.val).wins.getD (bits 21 19 c) Win.zero).m1 = (base.m1 + sum 31 (coeff v.key 1)) % mers1 ∧
        ((t.lq q.val).wins.getD (bits 21 19 c) Win.zero).m2 = (base.m2 + sum 61 (coeff v.key 2)) % mers2) ∧
      (c.sub = 1 → Does (.resxInput q) s fun t => t.Went q.val j ∧
        (((t.lq q.val).wins.getD (bits 21 19 c) Win.zero).m1 + sum 31 (fun i => v.q1.getD i 0)) % mers1 = base.m1 % mers1 ∧
        (((t.lq q.val).wins.getD (bits 21 19 c) Win.zero).m2 + sum 61 (fun i => v.q2.getD i 0)) % mers2 = base.m2 % mers2)) ∧
    (c.opc = 5 → c.sub = 2 → Does (.resxCmp q) s fun t => t.Went q.val j ∧ t.JobEnds q.val (!(x.m1 == 0 && x.m2 == 0)) false)

/-- R242 to R247, R250 to R254, R257 to R259, R290, R303, R304: ELM, RTE SELECT, RTE GATE, TOKSLICE and TOKJOIN of a head job that runs them complete
on all operands, with the job at its next command and the other queues as they were; ELM of an exact sum fails unless every element is inside its tolerance; RTE SELECT records the
selection and fails a wrong one; RTE GATE ends NOT DONE without its gates and fails a selection that names no expert; under GREEDY TOKSLICE keeps
the largest logit of its slice and TOKJOIN fails a token whose logit is below the largest. -/
def Obligations.RecomputeChecksJudge : Prop :=
  ∀ (s : State) (q : Fin 48) (j : Job) (r : Slot) (p : Plan) (c : Cmd) (sc : SiteC) (td tt : TensD), s.Runs q.val j r p c →
    (c.opc = 6 → c.sub = 0 → Does (.elm q) s fun t => t.Went q.val j ∧ ∀ k < 48, k ≠ q.val → t.lq k = s.lq k) ∧
    (c.opc = 7 → c.sub = 0 → Does (.rteSelect q) s fun t => t.Went q.val j ∧ ∀ k < 48, k ≠ q.val → t.lq k = s.lq k) ∧
    (c.opc = 7 → c.sub = 1 → Does (.rteGate q) s fun t => t.Went q.val j ∧ ∀ k < 48, k ≠ q.val → t.lq k = s.lq k) ∧
    (c.opc = 7 → c.sub = 2 → Does (.tokslice q) s fun t => t.Went q.val j ∧ ∀ k < 48, k ≠ q.val → t.lq k = s.lq k) ∧
    (c.opc = 7 → c.sub = 3 → Does (.tokjoin q) s fun t => t.Went q.val j ∧ ∀ k < 48, k ≠ q.val → t.lq k = s.lq k) ∧
    let site := j.siteOf (bits 127 112 c)
    p.siteC site = some sc → p.tref site (bits 47 32 c) = some td →
    (c.opc = 6 → c.sub = 0 → bits 23 16 c = 1 → td.mx = false → isTensor (bits 79 64 c) = true → (p.opnd site (bits 13 8 (bits 63 48 c))).isSome = true →
      let el (k : Nat) : Option ((Nat × Val) × List Val) := (r.el td j.token (bits 96 80 c + k)).bind fun e =>
        (elmOps r p site j.token 1 (bits 63 48 c) (bits 79 64 c) (bits 96 80 c + k)).map fun o => ((e.1, decodeScaled td.fmt td.mx e.2 e.1), o)
      (∀ k < bits 111 97 c, ∃ o, el k = some o ∧ ((o.1.2 :: o.2).all fun v => v.dy?.isSome) = true) →
      Does (.elm q) s fun t => t.Went q.val j ∧ ∃ zneg : List Bool, t.JobEnds q.val (!((List.range (bits 111 97 c)).all fun k =>
        match el k with
        | some ((code, y), [a, b]) => elemOk sc td.fmt false 0 (finOk sc td.fmt false 0
            (if sc.ftol = 0 ∧ sc.rnd ≠ 2 then some (negZero td.fmt code, zneg.getD k false) else none)) Dy.zero y (a.add b)
        | _ => true)) false) ∧
    (c.opc = 7 → c.sub ≤ 1 → p.tref site (bits 63 48 c) = some tt → ∀ (d : RouterD) (ls ss : List Val),
      p.graph.routers.find? (fun d => d.site == site) = some d → r.vals td j.token = some ls → r.vals tt j.token = some ss →
      ((ls ++ ss).all fun v => v.dy?.isSome) = true →
      let sel := ss.filterMap fun v => v.index d.experts
      (c.sub = 0 → Does (.rteSelect q) s fun t => t.Went q.val j ∧
        (∃ y, t.slotOf j.stream j.resseq = some y ∧ y.sel = (site, j.token, sel) :: r.sel) ∧
        t.JobEnds q.val (r.strayExpert d j.token sel || decide (ss.length ≠ sel.length) || decide (sel.length ≠ d.topK) || !selectOk (ls.take d.experts) sel) false) ∧
      (c.sub = 1 → ∀ (tg : TensD) (sg : SiteC), p.tref site (bits 79 64 c) = some tg →
        p.siteC d.gateSite = some sg →
        ((∀ i < d.topK, (r.val tg j.token i).any (fun v => v.dy?.isSome) = true) → sel.length = ss.length → sel.length = d.topK →
          Does (.rteGate q) s fun t => t.Went q.val j ∧ ∃ errs : List Dy, errs.length = d.topK ∧
            t.JobEnds q.val (!((List.range d.topK).zip ((gateRefs d.renorm (ls.take d.experts) sel).zip errs)).all fun (i, v, e) =>
              match r.el tg j.token i with
              | some (code, b) => elemOk sg tg.fmt tg.mx (scaleOf tg b) (finOk sg tg.fmt tg.mx (scaleOf tg b) none) e (decodeScaled tg.fmt tg.mx b code) v
              | none => true) false) ∧
        ((∃ i < d.topK, r.el tg j.token i = none) → Does (.rteGate q) s fun t => t.Went q.val j ∧ t.JobEnds q.val false true) ∧
        ((∀ i < d.topK, (r.el tg j.token i).isSome = true) → sel.length ≠ ss.length ∨ ss.length ≠ d.topK → Does (.rteGate q) s fun t =>
          t.Went q.val j ∧ t.JobEnds q.val true false))) ∧
    (c.opc = 7 → ∀ d : TokD, p.tok.find? (fun d => d.site == site) = some d → d.gumbel = false → d.topK = 0 →
      (c.sub = 2 → bit 20 c = true → ∀ ls : List Dy, finite ((List.range (bits 111 97 c)).map fun k => r.val td j.token (bits 96 80 c + k)) = some (some ls) → ls ≠ [] →
        Does (.tokslice q) s fun t => t.Went q.val j ∧ ∃ z, ((t.lq q.val).scratch.find? fun y => y.1 == bits 77 64 c) = some z ∧
          (match z.2 with | .best (.fin v) _ (.fin l) => ls.contains v && v == l && ls.all (·.le v) | _ => false) = true) ∧
      (c.sub = 3 → bits 19 16 c = 1 → p.tref site (bits 63 48 c) = some tt → ∀ (v : Val) (i : Nat) (l m : Dy) (b : Val) (k : Nat) (qq : Nat),
        r.val tt j.token 0 = some v → v.index td.count = some i → r.val td j.token i = some (.fin l) →
        (s.ctx j.ctx).lqs[bits 25 20 c]? = some qq → ((s.lq qq).scratch.find? fun y => y.1 == bits 77 64 c) = some (bits 77 64 c, .best b k (.fin m)) →
        Does (.tokjoin q) s fun t => t.Went q.val j ∧ t.JobEnds q.val (!(m.le l)) false))

/-- R264 to R269, R272, R305: ENV CHECK ends NOT DONE without the position in the KV copy and otherwise fails an output outside the widened hull;
ADDROW and COMMIT fold held positions into the pending and the committed hull; REBUILD makes the pending positions those held and not committed;
RECOMP joins its positions to the head's partial. -/
def Obligations.EnvelopeChecksAndRows : Prop :=
  ∀ (s : State) (q : Fin 48) (j : Job) (r : Slot) (p : Plan) (c : Cmd) (a : AttnD) (h : Nat), s.Runs q.val j r p c → c.opc = 8 → j.stream < 64 →
    let pair := bits 23 16 c
    let x := s.st j.stream
    let ps := c.positions j.pos
    x.olds = [] → ps.length * 2 * a.dHead ≤ 16384 → a.dHead ≤ 16384 → p.pairs[pair]? = some (a, h) →
    (∀ (sc : SiteC) (td : TensD), c.sub = 0 → p.tref (j.siteOf (bits 127 112 c)) (bits 47 32 c) = some td → p.siteC (j.siteOf (bits 127 112 c)) = some sc →
      let pos := r.ctxpos + j.token
      let es := r.headOut td a h (bits 29 24 c) j.token
      (¬ (x.kv.any fun k => k.site == a.kvSite && k.pos == pos) → Does (.envCheck q) s fun t => t.Went q.val j ∧ t.JobEnds q.val false true) ∧
      ((x.kv.any fun k => k.site == a.kvSite && k.pos == pos) = true → (s.lq q.val).copying = false → (∀ e ∈ es, e.isSome = true) →
        (x.pendingTo a pos).length ≤ 256 → (a.window == 0 && x.hullBad) = false → sc.sat ≠ 0 →
        (∀ w ∈ x.hullAt p pair (a, h) pos, w.1.dy?.isSome = true ∧ w.2.dy?.isSome = true) → Does (.envCheck q) s fun t => t.Went q.val j ∧
          t.JobEnds q.val (!((es.zip (x.hullAt p pair (a, h) pos)).all fun (e, lo, hi) =>
            match decodeScaled td.fmt td.mx (e.getD (0, 127)).2 (e.getD (0, 127)).1, lo, hi with
            | .fin o, .fin lo, .fin hi =>
              let tol := ((Dy.ofInt (sc.ftol + 1)).mul (Dy.pow2 (ulpExp td.fmt td.mx (scaleOf td (e.getD (0, 127)).2) (lo.abs.max hi.abs)))).add (fp32 sc.epsAbs)
              (lo.sub tol).le o && o.le (hi.add tol)
            | _, _, _ => false)) false)) ∧
    (j.vdu = false → (∀ k ∈ ps, (x.kv.any fun y => y.site == a.kvSite && y.pos == k) = true) →
      (c.sub = 1 → Does (.envAddrow q) s fun t => t.Went q.val j ∧ (∀ k ∈ ps, (pair, k) ∈ (t.st j.stream).pend) ∧
        (t.st j.stream).hulls = x.hulls) ∧
      (∀ (k : Nat) (vs : List Val), c.sub = 2 → ps = [k] → x.vRow p a h k = some vs → Does (.envCommit q) s fun t => t.Went q.val j ∧
        (t.st j.stream).hulls = foldHull x.hulls pair (a.block k) vs ∧ (pair, k) ∉ (t.st j.stream).pend)) ∧
    (c.sub = 3 → bits 111 100 c * a.dHead ≤ 16384 → Does (.envRebuild q) s fun t => t.Went q.val j ∧ (t.st j.stream).hulls = x.hulls ∧
      ∀ k : Nat, (pair, k) ∈ (t.st j.stream).pend ↔ ∃ y ∈ x.kv, y.site = a.kvSite ∧ y.folded = false ∧ y.pos = k) ∧
    (c.sub = 4 → (p.tref (j.siteOf (bits 127 112 c)) (bits 47 32 c)).isSome = true → (p.tref (j.siteOf (bits 127 112 c)) (bits 63 48 c)).isSome = true →
      (∀ y ∈ (s.lq q.val).scratch, y.1 ≠ bits 77 64 c) →
      (bit 30 c = false → Does (.envRecomp q) s fun t => t.Went q.val j ∧ (bits 77 64 c, Scr.soft ps) ∈ (t.lq q.val).scratch) ∧
      (bit 30 c = true → (∃ k ∈ ps, ∀ y ∈ x.kv, ¬ (y.site = a.kvSite ∧ y.pos = k)) → Does (.envRecomp q) s fun t => t.Went q.val j ∧
        t.JobEnds q.val false true))

/-! ### Verdicts, rings and shedding -/

/-- R276, R278, R361 to R365, R372, R389: at the deadline an unformed result is formed with DL and the status of its checks; an INPUT_BIND entry of an
unknown input fails the BIND check; the first formed record of a stream's order passes the gate and shows in VDU_SLAST. -/
def Obligations.VerdictsAreFormedAndPass : Prop :=
  ∀ (s : State) (i : Fin 64) (q : BitVec 64) (r : Slot) (p : Plan) (e : BindE) (v : VRec) (rest : List (Nat × Option VRec)), s.Shape →
    (s.slotOf i.val q.toNat = some r → s.planOf i.val = some p → r.formed = false → s.Still →
      ((s.st i.val).emitQ = [(q.toNat, none)] → Does (.verdictDeadline i q) s fun t => (∃ y, t.slotOf i.val q.toNat = some y ∧ y.formed = true) ∧
        ∃ x, (t.st i.val).emitQ[0]? = some x ∧ x.1 = q.toNat ∧ ∃ w, x.2 = some w ∧ w.dl = true ∧ w.resseq = q.toNat ∧ w.status = r.status w.cause) ∧
      (r.binds = [e] → e.res = 0 → (∀ d ∈ p.graph.inputs, d.input ≠ e.input) → bindKey ∈ r.issued → (∀ o ∈ r.out, o.1 ≠ bindKey) →
        Does (.bindJudge i q) s fun t => t.flt S.VDU_CHK_FAIL = true ∧ ∃ y, t.slotOf i.val q.toNat = some y ∧ (bindKey, 1) ∈ y.out)) ∧
    ((s.st i.val).emitQ = (q.toNat, some v) :: rest → Does (.outputGatePass i) s fun t => (t.st i.val).emitQ = rest ∧
      t.rd64 R.VDU_SLAST_LO R.VDU_SLAST_HI i.val = v.resseq % 2 ^ 64)

/-- R263, R376, R378: a consumer index within the ring's records is taken and one beyond is refused with ACCESS; the moderation time fires the vector
of what has not been signalled; CTXRST asks for a context reset, which empties the stream's context at a boundary.
R348 to R352, R356, R388: an evaluation without a deficit sheds nothing, and VDU_STAT.DEFICIT shows what remains; after 100 ms in which the item
shed last has been restorable, it is restored. -/
def Obligations.RingsContextsAndShedding : Prop :=
  (∀ (s : State) (r : Fin 9) (v : BitVec 32) (i : Fin 64), s.Shape →
    (r.val < 8 → (s.vring r.val).ring.hold = [] → ((s.vring r.val).ring.pidx + 2 ^ 32 - v.toNat) % 2 ^ 32 ≤ s.ringSize r.val →
      Does (.cidxWrite r v) s fun t => (t.vring r.val).ring.cidx = v.toNat ∧ t = { s with vdu := t.vdu }) ∧
    (r.val < 8 → s.ringSize r.val < ((s.vring r.val).ring.pidx + 2 ^ 32 - v.toNat) % 2 ^ 32 → Does (.cidxWrite r v) s fun t =>
      t.flt S.GLB_ACCESS = true ∧ t.vdu = s.vdu) ∧
    (r.val < 8 → s.rd F.VDU_RING_MOD_US r.val ≠ 0 → (s.vring r.val).ring.unsig ≠ 0 → Does (.ringModTimer r) s fun t =>
      (t.vring r.val).ring.unsig = 0 ∧ t.cyc = max s.cyc ((s.vring r.val).ring.unsigAt + 800 * s.rd F.VDU_RING_MOD_US r.val) ∧ t.regs = s.regs) ∧
    (s.Takes 16 → Does (.ctxrst i) s fun t => t.rd F.VDU_SCTRL_CTXRST i.val = 1 ∧ s.Only t [R.VDU_SCTRL.key i.val 0]) ∧
    (s.on F.VDU_SCTRL_CTXRST i.val = true → (s.st i.val).open_ = none → Does (.ctxResetApply i) s fun t => (t.st i.val).count = 0 ∧
      (t.st i.val).kv = [] ∧ (t.st i.val).hulls = [] ∧ (t.st i.val).pend = [] ∧ t.rd F.VDU_SCTRL_CTXRST i.val = 0)) ∧
  (∀ (s : State) (c : Nat),
    (Does .shedEval s fun t => t.rd F.VDU_STAT_DEFICIT = t.deficit true % 16) ∧
    (s.deficit true = 0 → s.deficit false = 0 → Does .shedEval s fun t => t.vdu.items = s.vdu.items ∧ t.streams = s.streams ∧
      t.rd F.VDU_STAT_DEFICIT = 0) ∧
    (s.vdu.restAt = some c → s.restorable = true → s.erc.queue.length < 1024 → Does .shedRestore s fun t => t.vdu.items.length < s.vdu.items.length ∧
      t.cyc = max s.cyc (c + 80000000)))

/-! ### Action envelopes -/

/-- R470, R473, R474, R479, R481, R485: the first ACTION record is judged once its predecessors are formed, and a rejected setpoint fails the ACT check;
a stale measurement clears ENC_OK and is reported for an admitted stream; a joint at rest for REST_T shows AT_REST; RESEED empties the history. -/
def Obligations.ActionsAreJudged : Prop :=
  ∀ (s : State) (i j : Fin 64) (q : BitVec 64) (r : Slot) (a : ActRec) (x : Nat × Int) (f tm : Nat) (po ve : Int), s.Shape →
    (s.slotOf i.val q.toNat = some r → r.formed = false → s.predsFormed i.val q.toNat = true → (∀ o ∈ r.out, o.1 ≠ actKey) → r.acts = [a] → a.judged = false →
      (Does (.actionJudge i q) s fun t => ∃ y, t.slotOf i.val q.toNat = some y ∧ ∀ b ∈ y.acts, b.judged = true) ∧
      (a.ents = [x] → (s.judge x.1 x.2 a.tapply (some i.val) a.arrival false []).1 ≠ 0 → Does (.actionJudge i q) s fun t =>
        t.flt S.VDU_CHK_FAIL = true ∧ ∃ y, t.slotOf i.val q.toNat = some y ∧ (actKey, 1) ∈ y.out)) ∧
    (s.jointOk j.val = true → s.on F.AEU_JSTAT_ENC_OK j.val = true → (s.jt j.val).meas = some (f, tm, po, ve) → Does (.encStale j) s fun t =>
      t.rd F.AEU_JSTAT_ENC_OK j.val = 0 ∧ ((s.st (s.rd F.AEU_JCFG_STREAM j.val)).admitted = true → t.flt S.AEU_ENC_STALE = true)) ∧
    (s.jointOk j.val = true → (s.jt j.val).rest = some (po, tm) → Does (.atRestReached j) s fun t =>
      (t.encStale j.val = false → t.rd F.AEU_JSTAT_AT_REST j.val = 1) ∧ t.joints = s.joints) ∧
    (s.Takes 17 → Does (.reseed j) s fun t => (t.jt j.val).hist = [] ∧ t.rd F.AEU_JSTAT_SEEDED j.val = 0 ∧ t.rd F.AEU_JSTAT_FROMHOLD j.val = 0 ∧
      t.word R.AEU_JLASTP j.val = 0 ∧ (∀ k : Fin 64, k ≠ j → t.jt k.val = s.jt k.val) ∧ t = { s with regs := t.regs, joints := t.joints })

/-! ### The Mantis pair -/

/-- R27, R427, R439 to R444: a hold demand in SPLIT stops the SAR work and starts the hand-over, and in PROBE, SINGLE and DOWN it is refused; the first
compared cycle ends it in LOCK_IDLE without a hold image and in HOLD with a WARM one, and in PROBE where both copies differ; HOLD_RELEASE sets the launch
at which the hold ends, SPLIT_REQ leaves LOCK_IDLE, each with ACCESS elsewhere. -/
def Obligations.HoldsAndSplits : Prop :=
  ∀ (s : State) (im : SnImage) (c : Nat), s.mnt.shs.length = 2 → s.Takes 14 →
    (s.rd F.CLK_PWR_STATE = 0 → s.pair = 1 → Does .holdReq s fun t => t.pair = 2 ∧ t.mnt.demandAt = some s.cyc ∧ t.mnt.waitSar = [] ∧
      (∀ x ∈ t.mnt.shs, x.run = none ∧ x.queue = []) ∧ t.rd F.MNT_STAT_HOLDSRC = s.rd F.MNT_STAT_HOLDSRC ||| 4) ∧
    (s.rd F.CLK_PWR_STATE = 0 → 5 ≤ s.pair → Does .holdReq s fun t => t.flt S.MNT_HOLD_REFUSED = true ∧ t.pair = s.pair) ∧
    (s.engClk = true → s.pair = 2 → s.mnt.demandAt = some c →
      (s.mnt.hold = none → Does (.handoverDone 0) s fun t => t.pair = 3 ∧ t.mnt.demandAt = none ∧
        t.rd F.MNT_HANDOVERS_N = satAdd 32 (s.rd F.MNT_HANDOVERS_N) 1) ∧
      (s.mnt.hold = some im → im.warmup ≤ s.mnt.warm → s.mnt.last = none → Does (.handoverDone 1) s fun t => t.pair = 4 ∧ t.mnt.demandAt = none ∧
        t.mnt.warm = s.mnt.warm) ∧
      Does (.handoverDone 2) s fun t => t.flt S.MNT_HANDOVER_FAIL = true ∧ t.pair = 5 ∧ t.mnt.warm = 0) ∧
    (s.pair = 4 → s.on F.SSC_STAT_RESTART = false → s.mnt.hold = some im → Does .holdRelease s fun t =>
      t.mnt.release = some (s.nextLaunchNs im) ∧ t.pair = 4 ∧ t = { s with mnt := t.mnt }) ∧
    (s.pair ≠ 4 → Does .holdRelease s fun t => t.flt S.GLB_ACCESS = true) ∧
    (s.pair = 3 → s.mnt.hold = none → Does .splitReq s fun t => t.pair = 1) ∧
    (s.pair = 3 → s.mnt.hold = some im → Does .splitReq s fun t => t.mnt.split = true ∧ t = { s with mnt := t.mnt }) ∧
    (s.pair ≠ 3 → Does .splitReq s fun t => t.flt S.GLB_ACCESS = true)

/-- R46, R449 to R452, R456: a policy step starts at its instant and a warm one that completes is counted and kept; a hold step past its deadline fails
and is counted; a queued frame launches and is counted; a monitor step runs at its instant and its scores set the alarm lines; a reloaded row ends the wait
for it. -/
def Obligations.PolicyAndMonitorSteps : Prop :=
  ∀ (s : State) (im : SnImage) (r : StepRun), s.mnt.shs.length = 2 →
    (s.engClk = true → s.mnt.hold = some im → s.mnt.step = none → s.pair = 1 ∨ s.pair = 3 ∨ s.pair = 4 → Does (.policyStepStart false) s fun t =>
      t.mnt.ran = noteStep (s.nextK im) s.mnt.ran ∧ t.mnt.reload = false ∧ ∃ x, t.mnt.step = some x ∧ x.k = s.nextK im ∧ (x.hold = true ↔ s.pair = 4)) ∧
    (s.engClk = true → s.mnt.hold = some im → s.mnt.step = some r → (s.sh r.eng).out = false → s.mnt.reload = false → s.mnt.split = false → r.hold = false → r.failed = false →
      Does (.policyStepDone 0) s fun t => t.mnt.step = none ∧ t.mnt.warm = s.mnt.warm + 1 ∧ t.mnt.last = some r ∧
        t.rd F.MNT_STAT_WARM = (if im.warmup ≤ s.mnt.warm + 1 then 1 else 0)) ∧
    (s.mnt.hold = some im → s.pair = 4 → s.fatal = false → s.mnt.step = some r → r.hold = true → Does .holdStepDeadline s fun t =>
      t.mnt.step = none ∧ t.rd F.MNT_HOLDFAILS_N = satAdd 32 (s.rd F.MNT_HOLDFAILS_N) 1 ∧ t.flt S.MNT_HOLD_STEP = true) ∧
    (s.mnt.hold = some im → s.pair = 4 → s.fatal = false → s.mnt.last = some r → r.hold = true → r.queued = true → s.mnt.release = none →
      Does .holdFrameLaunch s fun t => t.mnt.last = none ∧ t.pair = 4 ∧ t.rd F.MNT_HOLDSTEPS_N = satAdd 32 (s.rd F.MNT_HOLDSTEPS_N) 1) ∧
    (∀ e : Nat, s.mnt.mon = some im → s.monEng = some e →
      (s.mnt.mstep = none → Does .monitorStepStart s fun t => t.mnt.monK.isSome = true ∧ (∃ x, t.mnt.mstep = some x ∧ x.hold = false)) ∧
      (s.mnt.mstep = some r → r.failed = false → Does (.monitorStepDone 0) s fun t => t.mnt.mstep = none ∧
        t.rd F.MNT_STAT_SENT = sumNat ((((r.outs.zip (snThresholds im)).zip (List.range 8)).filter fun x => decide (x.1.2 ≤ x.1.1)).map fun x => 2 ^ x.2) ∧
        (∀ k < 8, bit k (t.rd F.MNT_STAT_SENT) = true → bit k (s.rd F.MNT_STAT_SENT) = false → t.flt S.MNT_SENT_ALARM = true)) ∧
      (s.mnt.mstep = some r → e < 2 → (s.sh e).out = false → Does (.monitorStepDone 2) s fun t => t.mnt.mstep = none ∧ (t.sh e).out = true ∧
        t.flt (S.SH_CKSUM_ERR.at e) = true)) ∧
    Does .rowReloadDone s fun t => t.mnt = { s.mnt with reload := false } ∧ (s.mnt.hold = none → t.regs = s.regs)

/-- R272, R273, R435, R437, R458, R459: a free engine takes the job of its queue; its end reports the recompute's outcome to the result; a self-test slot
starts when due and its outcome counts, a failed one taking the engine OUT; an engine that has been reset and has passed its probe returns. -/
def Obligations.SarJobsAndMantisSlots : Prop :=
  ∀ (s : State) (e : Fin 2) (j : SarJob) (r : Slot), s.mnt.shs.length = 2 →
    (s.engClk = true → s.mnt.waitSar = [] → s.sarEng e.val = true → (s.sh e.val).testing = false → (s.sh e.val).run = none → s.preempted e.val = false →
      j.on.all (fun x => x == e.val) = true → (s.sh e.val).queue = [j] →
      Does (.sarJobStart e) s fun t => (t.sh e.val).run = some j ∧ (t.sh e.val).queue = [] ∧ t.rd F.SH_SARQ_N e.val = 0) ∧
    (s.engClk = true → s.preempted e.val = false → (s.sh e.val).run = some j → s.slotOf j.stream j.resseq = some r → r.formed = false → (∀ o ∈ r.out, o.1 ≠ j.chk) →
      Does (.sarJobDone e false) s fun t => (t.sh e.val).run = none ∧ t.rd F.SH_SARJOBS_N e.val = satAdd 32 (s.rd F.SH_SARJOBS_N e.val) 1 ∧
        ∃ y, t.slotOf j.stream j.resseq = some y ∧ (j.chk, (s.judgeSar j).1) ∈ y.out) ∧
    (s.engClk = true → s.pair = 1 → (s.sh 0).testing = false → (s.sh 1).testing = false → (s.sh e.val).out = false → (s.sh e.val).run = none →
      (s.sh e.val).queue = [] → Does (.mantisSelftestStart e) s fun t => (t.sh e.val).testing = true ∧
        t.cyc = max s.cyc (s.sh e.val).slotAt ∧ (0 < s.rd F.MNT_STPER_MS → t.cyc < (t.sh e.val).slotAt ∧
          (t.sh e.val).slotAt ≤ t.cyc + 800000 * s.rd F.MNT_STPER_MS ∧
          ((t.sh e.val).slotAt - (s.sh e.val).slotAt) % (800000 * s.rd F.MNT_STPER_MS) = 0)) ∧
    (s.engClk = true → s.pair = 1 → (s.sh e.val).testing = true → (s.sh e.val).out = false →
      (Does (.mantisSelftestDone e true) s fun t => (t.sh e.val).testing = false ∧ t.rd F.SH_STAT_STPASS e.val = 1 ∧ t.pair = 1) ∧
      (Does (.mantisSelftestDone e false) s fun t => (t.sh e.val).testing = false ∧ t.rd F.SH_STAT_STPASS e.val = 0 ∧ (t.sh e.val).out = true ∧
        t.pair = 6 ∧ t.flt (S.SH_STEST_FAIL.at e.val) = true)) ∧
    (s.Takes (12 + e.val) → (s.sh e.val).out = true → s.pair = 6 →
      ((s.sh e.val).wasReset = true → (s.sh e.val).probed = true → Does (.shReturn e) s fun t => (t.sh e.val).out = false ∧ t.pair = 1 ∧
        t.rd F.SH_CTRL_RETURN e.val = 0) ∧
      ((s.sh e.val).probed = false → Does (.shReturn e) s fun t => t.rd F.SH_CTRL_RETURN e.val = 1 ∧ t = { s with regs := t.regs }))

/-! ### Safety inputs and outputs -/

/-- R491, R492, R494, R495, R511, R514: a tick counts, shows the samples and the state, and holds every output that is in no test at 0 while the fatal
aggregator is active; a sample that has differed for the filter time is taken over, at a feedback input after 10 ticks; a disagreement of D + 1 ticks
latches DISCREP. -/
def Obligations.TicksFilterAndJudgeInputs : Prop :=
  ∀ (s : State) (a b : BitVec 32) (fa fb : BitVec 24) (es : List (BitVec 7 × BitVec 64)) (n : Fin 32) (k : Fin 24) (c : Nat), s.Shape →
    (Does (.sioTick a b fa fb es) s fun t => t.sio.tick = s.sio.tick + 1 ∧ t.cyc = max s.cyc (8000 * (s.sio.tick + 1)) ∧
      t.rd F.SIO_STAT_STATE = (if s.on F.SIO_CTRL_EN then 2 else 0) ∧
      (∀ m < 32, t.on F.DCI_STAT_RAWA m = bit m a.toNat ∧ t.on F.DCI_STAT_RAWB m = bit m b.toNat) ∧
      (s.aggr = true → t.rd F.SIO_STAT_FORCED = 1 ∧ ∀ m < 24, s.rd F.SBO_STAT_STATE m ≠ 3 → t.rd F.SBO_STAT_DRVA m = 0 ∧ t.rd F.SBO_STAT_DRVB m = 0)) ∧
    (s.rd F.DCI_CFG_TYPE n.val = 0 → s.rd F.DCI_STAT_STATE n.val = 0 → (s.dci n.val).cfg = s.word R.DCI_CFG n.val → (s.dci n.val).cfgTd = s.word R.DCI_TD n.val →
      s.on F.DCI_STAT_RAWA n.val ≠ s.on F.DCI_STAT_FILTA n.val → (s.dci n.val).difA = some c →
      c + s.rd F.DCI_CFG_FILT n.val = s.sio.tick + 1 → Does (.filterChange false n false) s fun t => t.sio.tick = s.sio.tick + 1 ∧
        t.on F.DCI_STAT_FILTA n.val = s.on F.DCI_STAT_RAWA n.val) ∧
    ((s.sbo k.val).fDifA = some c → c + 10 = s.sio.tick + 1 → Does (.filterChange true ⟨k.val, by omega⟩ false) s fun t =>
      t.sio.tick = s.sio.tick + 1 ∧ (t.sbo k.val).fLevA = !(s.sbo k.val).fLevA ∧
        t.on F.SBO_STAT_FBKA k.val = ((t.sbo k.val).fLevA != s.on F.SBO_CFG_FBKPOL k.val)) ∧
    (s.rd F.DCI_CFG_TYPE n.val = 1 → s.on F.SIO_CTRL_EN = true → s.rd F.DCI_STAT_STATE n.val ≠ 4 → s.on F.DCI_CFG_INTLK n.val = false →
      (s.dci n.val).cfg = s.word R.DCI_CFG n.val → (s.dci n.val).cfgTd = s.word R.DCI_TD n.val → (s.dci n.val).disAt = some c →
      c + s.rd F.DCI_TD_D n.val + 1 = s.sio.tick + 1 → Does (.discrep n) s fun t => t.sio.tick = s.sio.tick + 1 ∧ t.rd F.DCI_STAT_STATE n.val = 4 ∧
        t.flt S.SIO_DISCREP = true ∧ t.rd F.DCI_NDISC_N n.val = satAdd 32 (s.rd F.DCI_NDISC_N n.val) 1)

/-- R499 to R503, R505: a drive ball whose readback differs raises READBACK, and the next tick takes its output to FAULT; a feedback input that differs beyond T_fb raises FEEDBACK and
leaves an output OFF that is OFF (here and at the pulses: unless the tick's faults set the fatal latch); the pulse period takes ball A to 0 and its end is judged; ON and OFF set and clear a group's request; RELATCH frees a
FAULT output whose cause is gone. -/
def Obligations.OutputsFaultPulseAndRelatch : Prop :=
  ∀ (s : State) (k : Fin 24) (g : Fin 8) (a b : Bool) (n c : Nat) (x y : BitVec 32) (fa fb : BitVec 24) (es : List (BitVec 7 × BitVec 64)), s.Shape →
    (s.rd F.SBO_STAT_STATE k.val = 1 → (s.sbo k.val).pulse = none → (a ≠ s.on F.SBO_STAT_DRVA k.val ∨ b ≠ s.on F.SBO_STAT_DRVB k.val) →
      (s.sbo k.val).pend = none → Does (.readback k a b) s fun t => t.rd F.SBO_STAT_LASTFLT k.val = 1 ∧ t.flt S.SIO_READBACK = true ∧
        Does (.sioTick x y fa fb es) t fun u => u.rd F.SBO_STAT_STATE k.val = 2 ∧ u.rd F.SBO_STAT_DRVA k.val = 0 ∧
          u.rd F.SBO_STAT_DRVB k.val = 0 ∧ u.rd F.SBO_NTRIP_N k.val = satAdd 32 (s.rd F.SBO_NTRIP_N k.val) 1) ∧
    (a = s.on F.SBO_STAT_DRVA k.val → b = s.on F.SBO_STAT_DRVB k.val → Does (.readback k a b) s fun t => s.Only t [R.SBO_STAT.key k.val 0]) ∧
    (s.rd F.SBO_STAT_STATE k.val = 0 → (s.sbo k.val).pend = none → s.rd F.SIO_BTSTAT_STATE = 0 → s.on F.SIO_G_STAT_ONREQ (s.rd F.SBO_CFG_GROUP k.val) = false →
      (s.sbo k.val).fDifA = none → (s.sbo k.val).fLevA = s.on F.SBO_CFG_FBKPOL k.val → (s.sbo k.val).diffA = some c → (s.sbo k.val).diffB = none →
      max c (s.sbo k.val).changed + 100 * s.rd F.SBO_CFG_TFB k.val = s.sio.tick → (s.sbo k.val).raised = false →
      Does (.feedback k) s fun t => t.aggr = false → t.flt S.SIO_FEEDBACK = true ∧ t.rd F.SBO_STAT_LASTFLT k.val = 3 ∧ t.rd F.SBO_STAT_STATE k.val = 0) ∧
    (s.Pulses k.val → (s.sbo k.val).onAt + 100 * s.rd F.SBO_TP_TPPER k.val = s.sio.tick + 1 → 0 < s.rd F.SBO_TP_TPPER k.val → 0 < s.rd F.SBO_TP_TPW k.val →
      Does (.testPulseStart k) s fun t => t.aggr = false → (t.sbo k.val).pulse = some (0, s.sio.tick + 1) ∧ t.rd F.SBO_STAT_DRVA k.val = 0 ∧ t.rd F.SBO_STAT_DRVB k.val = 1) ∧
    (s.Pulses k.val → (s.sbo k.val).pulse = some (0, n) → n + s.rd F.SBO_TP_TPW k.val = s.sio.tick + 1 → s.rd F.SBO_TP_TPW k.val < 50 * s.rd F.SBO_TP_TPPER k.val →
      (s.sbo k.val).onAt + 100 * s.rd F.SBO_TP_TPPER k.val = n →
      (Does (.testPulseEnd k true true) s fun t => t.aggr = false → (t.sbo k.val).pulse = none ∧ t.rd F.SBO_STAT_STATE k.val = 1 ∧ t.rd F.SBO_STAT_DRVA k.val = 1) ∧
      ((a && b) = false → (s.sioTick s.heldSamples).aggr = false → Does (.testPulseEnd k a b) s fun t => t.flt S.SIO_TESTPULSE = true ∧
        t.rd F.SBO_STAT_LASTFLT k.val = 2 ∧ Does (.sioTick x y fa fb es) t fun u => u.rd F.SBO_STAT_STATE k.val = 2 ∧ u.rd F.SBO_STAT_DRVB k.val = 0)) ∧
    (s.Takes 18 →
      (Does (.groupOn g) s fun t => t.rd F.SIO_G_STAT_ONREQ g.val = 1 ∧ (∀ m < 24, s.rd F.SBO_CFG_GROUP m = g.val → (t.sbo m).need = false) ∧
        (∀ m < 24, s.rd F.SBO_CFG_GROUP m ≠ g.val → t.sbo m = s.sbo m) ∧ t = { s with regs := t.regs, sio := t.sio }) ∧
      (Does (.groupOff g) s fun t => t.rd F.SIO_G_STAT_ONREQ g.val = 0 ∧ s.Only t [R.SIO_G_STAT.key g.val 0]) ∧
      (s.rd F.SBO_STAT_STATE k.val = 2 → (if (s.sbo k.val).cause = 3 then s.released k.val = true else s.on F.SBO_STAT_RBA k.val = false ∧ s.on F.SBO_STAT_RBB k.val = false) →
        Does (.relatch k) s fun t => t.rd F.SBO_STAT_STATE k.val = 0 ∧ (t.sbo k.val).need = true ∧ ∀ m < 24, m ≠ k.val → t.sbo m = s.sbo m) ∧
      (s.rd F.SBO_STAT_STATE k.val = 2 → (if (s.sbo k.val).cause = 3 then s.released k.val = false else s.on F.SBO_STAT_RBA k.val = true) →
        Does (.relatch k) s fun t => t.flt S.GLB_ACCESS = true ∧ t.rd F.SBO_STAT_STATE k.val = 2 ∧ t.sio = s.sio))

/-- R507, R510, R511, R516, R518: the course of a brake test from its request: no grant in 1 s ends it ABORTED, as the tick after an abort does; 1 ms after the grant the output
goes to TEST with both balls at 0 in an enabled block; a feedback that is not released by the deadline ends it FAIL_FBK; the reference position is taken at TON; the test that
comes to its end passes; (each unless the tick's faults set the fatal latch); and an output without a pass for one or two intervals is DUE or OVERDUE. -/
def Obligations.BrakeTestsTakeTheirCourse : Prop :=
  ∀ (s : State) (k : Fin 24) (v : BitVec 5) (g f tm : Nat) (po ve : Int) (x y : BitVec 32) (fa fb : BitVec 24) (es : List (BitVec 7 × BitVec 64)), s.Shape →
    (s.Takes 18 → s.rd F.SIO_BTSTAT_STATE = 0 → s.on F.SBO_CFG_KIND k.val = true → v.toNat = k.val → Does (.btStart v) s fun t =>
      t.rd F.SIO_BTSTAT_STATE = 1 ∧ t.rd F.SIO_BTSTAT_OUT = k.val ∧ t.rd F.SIO_BTSTAT_RESULT = 0 ∧ t.rd F.SIO_STAT_BTSTATE = 1 ∧
        t.sio.bt.startAt = s.sio.tick ∧ t.sio.bt.grantAt = none) ∧
    (s.Takes 18 → s.rd F.SIO_BTSTAT_STATE ≠ 0 ∨ 24 ≤ v.toNat → Does (.btStart v) s fun t => t.flt S.GLB_ACCESS = true ∧ t.sio = s.sio ∧
      t.rd F.SIO_BTSTAT_STATE = s.rd F.SIO_BTSTAT_STATE) ∧
    (s.Takes 18 → s.rd F.SIO_BTSTAT_STATE ≠ 0 → s.sio.bt.stop = none → s.aggr = false → Does .btAbort s fun t => t.rd F.SIO_BTSTAT_STATE = s.rd F.SIO_BTSTAT_STATE ∧
      Does (.sioTick x y fa fb es) t fun u => u.aggr = false → u.rd F.SIO_BTSTAT_STATE = 0 ∧ u.rd F.SIO_BTSTAT_RESULT = 4 ∧
        u.rd F.SIO_BTSTAT_WHY = 6 ∧ u.flt S.SIO_BT_ABORT = true) ∧
    (s.inP2 = false → s.sio.bt.stop = none → s.sio.bt.slip = false → (∀ m < 24, (s.sbo m).pend = none) →
      (s.rd F.SIO_BTSTAT_STATE = 1 → s.sio.bt.startAt + 100000 = s.sio.tick + 1 → Does .btNogrant s fun t => t.aggr = false → t.rd F.SIO_BTSTAT_STATE = 0 ∧
        t.rd F.SIO_BTSTAT_RESULT = 4 ∧ t.rd F.SIO_BTSTAT_WHY = 1 ∧ t.flt S.SIO_BT_ABORT = true) ∧
      (s.rd F.SIO_BTSTAT_STATE = 2 → s.btOut = k.val → s.sio.bt.grantAt = some g →
        (g + 100 = s.sio.tick + 1 → s.rd F.SBO_CFG_TFB k.val ≠ 0 → s.sio.bt.tonAt ≠ s.sio.tick + 1 → s.on F.SIO_CTRL_EN = true → Does .btEngage s fun t => t.aggr = false →
          t.rd F.SBO_STAT_STATE k.val = 3 ∧ t.rd F.SBO_STAT_DRVA k.val = 0 ∧ t.rd F.SBO_STAT_DRVB k.val = 0 ∧ t.rd F.SIO_BTSTAT_STATE = 2) ∧
        (g + 100 + 100 * s.rd F.SBO_CFG_TFB k.val = s.sio.tick + 1 → s.rd F.SBO_CFG_TFB k.val ≠ 0 → s.rd F.SBO_STAT_STATE k.val = 3 →
          (s.sbo k.val).fDifA = none → (s.sbo k.val).fLevA = s.on F.SBO_CFG_FBKPOL k.val → Does .btFbkDeadline s fun t => t.aggr = false → t.rd F.SIO_BTSTAT_STATE = 0 ∧
            t.rd F.SIO_BTSTAT_RESULT = 3 ∧ t.rd F.SBO_STAT_BTFAILED k.val = 1 ∧ t.flt S.SIO_BT_FAIL = true) ∧
        (s.sio.bt.tonAt = s.sio.tick + 1 → g + 100 + 100 * s.rd F.SBO_CFG_TFB k.val < s.sio.tick + 1 →
          (s.reachCyc (8000 * (s.sio.tick + 1))).encStale (s.rd F.SBO_BT_JOINT k.val) = false →
          (s.jt (s.rd F.SBO_BT_JOINT k.val)).meas = some (f, tm, po, ve) → Does .btTorque s fun t => t.aggr = false → t.rd F.SIO_BTSTAT_STATE = 3 ∧ t.sio.bt.qref = po)) ∧
      (s.rd F.SIO_BTSTAT_STATE = 4 → s.btOut = k.val → s.sio.bt.endAt = s.sio.tick + 1 → Does .btRelease s fun t => t.aggr = false → t.rd F.SIO_BTSTAT_STATE = 0 ∧
        t.rd F.SIO_BTSTAT_RESULT = 1 ∧ t.rd F.SBO_STAT_BTFAILED k.val = 0 ∧ t.rd F.SIO_BTCNT_PASS = satAdd 16 (s.rd F.SIO_BTCNT_PASS) 1 ∧
        t.boot.btLast.getD k.val 0 = t.ns)) ∧
    (s.on F.SBO_CFG_EN k.val = true → s.on F.SBO_CFG_KIND k.val = true → s.on F.SBO_BT_BTEN k.val = true → s.rd F.SIO_BTSTAT_STATE = 0 →
      (s.boot.btLast.getD k.val 0 = 0 ∨ (s.reachNs (s.boot.btLast.getD k.val 0 + 2 * s.rd F.SBO_BT_BTINT k.val * 3600000000000)).cyc ≤ 8000 * (s.sio.tick + 1)) →
      (Does (.btDue k) s fun t => t.rd F.SBO_STAT_DUE k.val = 1 ∧ (s.on F.SBO_STAT_DUE k.val = false → t.flt S.SIO_BT_DUE = true)) ∧
      (Does (.btOverdue k) s fun t => t.rd F.SBO_STAT_OVERDUE k.val = 1 ∧ (s.on F.SBO_STAT_OVERDUE k.val = false → t.flt S.SIO_BT_OVERDUE = true)))

/-! ### The accelerator's supervision and restart -/

/-- R26, R541, R564, R568, R571, R573, R576, R581: an open command's timeout removes its entry, raises HANG and triggers its stream; the steps of an
attempt follow: quiesced ports clear the table and drive the reset, its readback starts the hold, whose end releases the balls and lets the RDYPORT port
run, whose readback starts WAIT_READY; REPLAY_DONE ends step 6; ACC_RUN drives the balls while no restart runs; two commands clear a variant.
R569, R574, R577, R580, R581: no valid READY in its time fails the attempt, which sets LONGRST and, with attempts left, starts the next; the end of
RPLTO ends step 6 and sets SKIPRPL; a reset ball off its level ends a restart with no further attempt. -/
def Obligations.RestartsFollowTheirSteps : Prop :=
  (∀ (s : State) (e : CmdEntry) (v : Bool), s.Shape →
    (s.on F.ACB_CTRL_EN = true → s.acb.table.find? (fun x => x.cmdid == e.cmdid) = some e → s.endsNow e = false → e.cmdid < 1024 → e.stream < 64 → s.on F.ACB_CCFG_EN e.cls = true → Does (.hang (BitVec.ofNat 10 e.cmdid)) s fun t =>
      (∀ x ∈ t.acb.table, x ≠ e) ∧ t.flt S.ACB_HANG = true ∧ t.tbu = (s.reachNs (e.begunNs + s.rd F.ACB_CCFG_TIMEOUT_US e.cls * 1000)).tbu ∧
      t.rd F.SSC_SNTRIG_N e.stream = satAdd 32 (s.rd F.SSC_SNTRIG_N e.stream) 1) ∧
    (s.rd F.ACB_STAT_STEP = 1 → (∀ p < 2, s.rd F.TAP_STAT_PSTATE p = 3) → Does .restartQuiesced s fun t => t.rd F.ACB_STAT_STEP = 2 ∧
      t.acb.table = [] ∧ t.acb.rst = true ∧ t.acb.stepAt = s.cyc ∧ t.rd F.ACB_NOPEN_N = 0 ∧ t = { s with regs := t.regs, acb := t.acb }) ∧
    (s.rd F.ACB_STAT_STEP = 2 → Does .restartResetLow s fun t => t.rd F.ACB_STAT_STEP = 3 ∧ t.rd F.ACB_STAT_RBA = 0 ∧ t.rd F.ACB_STAT_RBB = 0 ∧
      t.acb = { s.acb with stepAt := s.cyc } ∧ t = { s with regs := t.regs, acb := t.acb }) ∧
    (s.rd F.ACB_STAT_STEP = 3 → s.acb.set.rdyPort < 2 → Does .restartHoldExpiry s fun t => t.rd F.ACB_STAT_STEP = 4 ∧ t.acb.rst = false ∧
      t.cyc = max s.cyc (s.acb.stepAt + if bit 0 s.acb.vars then 800000 * s.acb.set.rstLong else 800 * s.acb.set.rstHold) ∧
      t.rd F.TAP_STAT_ACB_Q s.acb.set.rdyPort = 0) ∧
    (s.rd F.ACB_STAT_STEP = 4 → s.accLevel = true → Does .restartResetHigh s fun t => t.rd F.ACB_STAT_STEP = 5 ∧ t.rd F.ACB_STAT_RBA = 1 ∧
      t.rd F.ACB_STAT_RBB = 1 ∧ t.acb = s.acb ∧ t = { s with regs := t.regs }) ∧
    (s.Takes 19 →
      (s.rd F.ACB_STAT_STEP = 6 → Does .replayDone s fun t => t.rd F.ACB_STAT_STEP = 0 ∧ t.acb.admitted = [] ∧ t.rd F.ACB_STAT_LONGRST = 0 ∧
        t.rd F.ACB_STAT_FULLRH = 0 ∧ (∀ p < 2, t.rd F.TAP_STAT_ACB_Q p = 0) ∧ (s.fatal = false → t.fatal = false → s.ssc.restartAt.isSome = true → t.rd F.SSC_STAT_RESTART = 0) ∧
        ∀ i ∈ s.acb.admitted, i < 64 → (s.planOf i).isSome = true → (t.st i).admitted = true) ∧
      (s.rd F.ACB_STAT_STEP ≠ 6 → Does .replayDone s fun t => t.flt S.GLB_ACCESS = true ∧ t.streams = s.streams) ∧
      (s.rd F.ACB_STAT_STEP = 0 → Does (.accRun v) s fun t => t.rd F.ACB_CTRL_ACC_RUN = b2n v ∧ t.rd F.ACB_STAT_RBA = b2n v ∧ t.rd F.ACB_STAT_RBB = b2n v ∧
        s.Only t [R.ACB_CTRL.key 0 0, R.ACB_STAT.key 0 0]) ∧
      (s.rd F.ACB_STAT_STEP ≠ 0 → Does (.accRun v) s fun t => t.flt S.GLB_ACCESS = true ∧ t.rd F.ACB_CTRL_ACC_RUN = s.rd F.ACB_CTRL_ACC_RUN) ∧
      (Does .clrskip s fun t => t.rd F.ACB_STAT_SKIPRPL = 0 ∧ t.rd F.ACB_STAT_RELOAD = s.rd F.ACB_STAT_RELOAD ∧ s.Only t [R.ACB_STAT.key 0 0]) ∧
      (Does .clrreload s fun t => t.rd F.ACB_STAT_RELOAD = 0 ∧ t.rd F.ACB_STAT_SKIPRPL = s.rd F.ACB_STAT_SKIPRPL ∧ s.Only t [R.ACB_STAT.key 0 0]))) ∧
  (∀ (s : State) (b : Fin 2), s.Shape →
    (s.rd F.ACB_STAT_STEP = 5 → Does .readyTo s fun t => t.flt S.ACB_READY_TO = true ∧
      s.acb.stepAt + 800000 * (if bit 1 s.acb.vars then s.acb.set.rdyToF else s.acb.set.rdyTo) ≤ t.cyc ∧
      (t.fatal = false → t.rd F.ACB_STAT_LONGRST = 1 ∧ (s.rd F.ACB_STAT_ATTEMPT < s.acb.set.attempts → t.rd F.ACB_STAT_STEP = 1 ∧
        t.rd F.ACB_STAT_ATTEMPT = satAdd 3 (s.rd F.ACB_STAT_ATTEMPT) 1)) ∧
      (s.acb.set.attempts ≤ s.rd F.ACB_STAT_ATTEMPT → t.rd F.ACB_STAT_STEP = 0)) ∧
    (s.rd F.ACB_STAT_STEP = 6 → Does .replayTo s fun t => t.flt S.ACB_REPLAY_TO = true ∧ t.rd F.ACB_STAT_STEP = 0 ∧
      s.acb.stepAt + 800000 * s.acb.set.rplTo ≤ t.cyc ∧ (t.fatal = false → t.rd F.ACB_STAT_SKIPRPL = 1 ∧ t.acb.admitted = [])) ∧
    (s.rd F.ACB_STAT_STEP ≠ 0 → Does (.rstRb b) s fun t => t.flt S.ACB_RST_RB = true ∧ t.rd F.ACB_STAT_STEP = 0 ∧
      (if b.val = 0 then t.rd F.ACB_STAT_RBA else t.rd F.ACB_STAT_RBB) = b2n (!s.accLevel)))

/-! ### Time base and precision time protocol -/

/-- R594 to R598, R619 to R621: a permitted step moves the time and the running intervals and is counted; one beyond TBU_STEPMAX while streams
are admitted is refused, and one under a servo draws ACCESS; a Sync of the slave port is taken, directly or with its Follow_Up, and starts the servo, and
its loss is HOLDOVER; link-delay requests are answered, sent at their interval and measured (an inexact mean rounds down or up: log entry 21), and losing three in a row
ends asCapable. -/
def Obligations.TimeIsSteppedAndServed : Prop :=
  ∀ (s : State) (p : Fin 12) (q : BitVec 16) (o c t1 : Int) (w : SyncWait) (off : Int), s.Shape →
    (s.Takes 4 → off = toSigned 32 (s.word R.TBU_STEP_SEC) * 1000000000 + toSigned 32 (s.word R.TBU_STEP_NS) →
      (s.rd F.TBU_CTRL_SRC ≠ 1 → s.rd F.TBU_CTRL_SRC ≠ 2 → s.anyAdmitted = false → s.pair ≠ 4 → Does .tbuStep s fun t =>
        t.tbu = (((s.tbu : Int) + off * (2 ^ 56 : Nat)) % ((2 ^ 48 * 1000000000 * 2 ^ 56 : Nat) : Int)).toNat ∧ t.cyc = s.cyc ∧
        t.rd F.TBU_NSTEP_N = satAdd 32 (s.rd F.TBU_NSTEP_N) 1 ∧ t.slots = s.slots.map (fun r => { r with
          tfirst := ((r.tfirst : Int) + off).toNat, deadline := ((r.deadline : Int) + off).toNat, dlast := r.dlast.map fun n => ((n : Int) + off).toNat }) ∧
        t.streams.map (fun x => x.bucketAt) = s.streams.map (fun x => ((x.bucketAt : Int) + off).toNat) ∧
        t.acb.table = s.acb.table.map (fun e => { e with begunNs := ((e.begunNs : Int) + off).toNat }) ∧ s.Only { t with
          tbu := s.tbu, slots := s.slots, acb := s.acb, joints := s.joints, mnt := s.mnt, tsn := s.tsn,
          streams := s.streams, taps := s.taps, vdu := s.vdu, reed := s.reed } [R.TBU_NSTEP.key 0 0]) ∧
      (s.rd F.TBU_CTRL_SRC ≠ 1 → s.rd F.TBU_CTRL_SRC ≠ 2 → s.anyAdmitted = true → s.word R.TBU_STEPMAX < off.natAbs → Does .tbuStep s fun t =>
        t.flt S.TBU_STEP_REFUSED = true ∧ t.tbu = s.tbu ∧ t.rd F.TBU_NSTEP_N = s.rd F.TBU_NSTEP_N)) ∧
    (s.Takes 4 → s.rd F.TBU_CTRL_SRC = 1 ∨ s.rd F.TBU_CTRL_SRC = 2 → Does .tbuStep s fun t => t.flt S.GLB_ACCESS = true ∧ t.tbu = s.tbu) ∧
    (s.ptpPort p.val = true → s.slavePort = some p.val → s.on F.TSN_PPSTAT_ASCAP p.val = true →
      (Does (.ptpSync p q true o c) s fun t => t.tsn.syncWait = some ⟨q.toNat, s.fns, c⟩ ∧ t.tsn.lastSyncAt = s.cyc ∧
        t.tsn.relay = some ⟨p.val, s.fns, none⟩ ∧ t.rd F.TSN_PRX_N p.val = satAdd 32 (s.rd F.TSN_PRX_N p.val) 1 ∧
        ((∀ k < 12, s.rd F.TSN_PCFG_PTPROLE k ≠ 1) → s.rd F.TBU_CTRL_SRC ≠ 1 → s.Only { t with tsn := s.tsn } [R.TSN_PRX.key p.val 0])) ∧
      (∀ k : Fin 12, k ≠ p → s.rd F.TSN_PCFG_PTPROLE k.val = 1 → s.on F.TSN_PPSTAT_ASCAP k.val = true → s.PtpFree k.val →
        (∀ j < 12, j ≠ k.val → s.rd F.TSN_PCFG_PTPROLE j ≠ 1) → Does (.ptpSync p q true o c) s fun t =>
          t.out = .ptp k.val (s.rd F.TSN_GCFG_DOMAIN) 0 (s.ethSt k.val).syncSeq 0 0 0 :: s.out ∧
          (t.ethSt k.val).fup = some ((s.ethSt k.val).syncSeq, s.fns + s.rd F.TSN_PLAT_TXLAT k.val * 65536)) ∧
      (Does (.ptpSync p q false o c) s fun t => t.tsn.lastSync.map (fun x => (x - s.fns) % 65536) = some 0 ∧
        (s.rd F.TBU_CTRL_SRC ≠ 1 → t.tsn.lastSync = some s.fns) ∧
        (s.rd F.TBU_CTRL_SRC = 1 → s.tsn.lastSync = none → s.rd F.TBU_STAT_SSTATE = 3 → t.rd F.TBU_STAT_SSTATE = 1))) ∧
    (s.ptpPort p.val = true → s.slavePort = some p.val → s.tsn.syncWait = some w → w.seq = q.toNat → Does (.followUp p q o c) s fun t =>
      t.tsn.syncWait = none ∧ t.tsn.lastSync.map (fun x => (x - w.stamp) % 65536) = some 0 ∧
      (s.rd F.TBU_CTRL_SRC ≠ 1 → t.tsn.lastSync = some w.stamp)) ∧
    (s.slavePort = some p.val → s.rd F.TBU_CTRL_SRC = 1 → s.rd F.TBU_STAT_SSTATE = 2 → Does .syncLost s fun t => t.rd F.TBU_STAT_SSTATE = 3 ∧
      t.word R.TBU_RATE = s.word R.TBU_INTEG ∧ t.tsn.lastSync = none ∧ t.flt S.TBU_SYNC_LOST = true) ∧
    (s.ptpPort p.val = true →
      (s.PtpFree p.val → Does (.pdelayReq p q) s fun t =>
        s.Only { t with out := s.out, tsn := s.tsn } [R.TSN_PRX.key p.val 0, R.TSN_PTX.key p.val 0] ∧
        t.out = .ptp p.val (s.rd F.TSN_GCFG_DOMAIN) 3 q.toNat (s.fns - s.rd F.TSN_PLAT_RXLAT p.val * 65536) 0 0 :: s.out ∧
        t.ptpWaits p.val = [⟨10, q.toNat, s.fns + s.rd F.TSN_PLAT_TXLAT p.val * 65536, 0, 0, false⟩]) ∧
      (∀ u : State, u = s.ptpDue (s.ethSt p.val).reqAt F.TSN_PSYNC_LOGPDELAY p.val → (s.ethSt p.val).reqT1 = none → Does (.pdelayReqSend p) s fun t =>
        (t.ethSt p.val).reqT1 = some (u.fns + s.rd F.TSN_PLAT_TXLAT p.val * 65536) ∧ (t.ethSt p.val).reqAt = some u.cyc ∧
        (t.ethSt p.val).reqSeq = ((s.ethSt p.val).reqSeq + 1) % 65536 ∧
        (u.PtpFree p.val → t.out = .ptp p.val (s.rd F.TSN_GCFG_DOMAIN) 2 (((s.ethSt p.val).reqSeq + 1) % 65536) 0 0 0 :: s.out ∧
          u.Only { t with out := s.out, tsn := s.tsn } [R.TSN_PTX.key p.val 0])) ∧
      ((s.ethSt p.val).reqT1 = some t1 → (s.ethSt p.val).lossN = 2 → s.on F.TSN_PPSTAT_ASCAP p.val = true → Does (.pdelayReqSend p) s fun t =>
        t.rd F.TSN_PPSTAT_ASCAP p.val = 0 ∧ t.flt S.TSN_PTP_LOSS = true) ∧
      ((s.ethSt p.val).reqT1 = some t1 → (s.ethSt p.val).reqSeq = q.toNat → (s.ethSt p.val).prev = none → Does (.pdelayResp p q o c) s fun t =>
        (t.ethSt p.val).reqT1 = none ∧ (t.ethSt p.val).lossN = 0 ∧ (∃ k : Nat, k ≤ 1 ∧ t.word R.TSN_PDELAY p.val = ofSigned 32 (max 0
          (Int.fdiv (s.fns - s.rd F.TSN_PLAT_RXLAT p.val * 65536 - t1 - (c - o)) 131072 + k))) ∧
        (2 ≤ (s.ethSt p.val).okN → Int.fdiv (s.fns - s.rd F.TSN_PLAT_RXLAT p.val * 65536 - t1 - (c - o)) 131072 < s.rd F.TSN_PDTHR_NS →
          t.rd F.TSN_PPSTAT_ASCAP p.val = 1))) ∧
    (∀ u : State, u = s.ptpDue (s.ethSt p.val).syncAt F.TSN_PSYNC_LOGSYNC p.val → s.on F.TSN_STAT_GMACT = true → s.rd F.TSN_PCFG_PTPROLE p.val = 1 →
      s.on F.TSN_PPSTAT_ASCAP p.val = true → s.ethUp p.val = true →
      Does (.gmSyncSend p) s fun t => (t.ethSt p.val).syncAt = some u.cyc ∧ (t.ethSt p.val).syncSeq = ((s.ethSt p.val).syncSeq + 1) % 65536 ∧
        (u.PtpFree p.val → u.Only { t with out := s.out, tsn := s.tsn } [R.TSN_PTX.key p.val 0] ∧
          t.out = .ptp p.val (s.rd F.TSN_GCFG_DOMAIN) 0 (s.ethSt p.val).syncSeq 0 0 0 :: s.out ∧
          t.ptpWaits p.val = [⟨8, (s.ethSt p.val).syncSeq, u.fns + s.rd F.TSN_PLAT_TXLAT p.val * 65536, 0, 0, false⟩])) ∧
    (s.ethUp p.val = true → Does (.announceRx p) s fun t => t.rd F.TSN_PRX_N p.val = satAdd 32 (s.rd F.TSN_PRX_N p.val) 1 ∧
      t.rd F.TSN_PDROP_N p.val = satAdd 32 (s.rd F.TSN_PDROP_N p.val) 1 ∧ s.Only t [R.TSN_PRX.key p.val 0, R.TSN_PDROP.key p.val 0])

/-! ### Bridge, guard path and check-value units -/

/-- R605 to R607, R615, R616, R618, R623, R627 to R629, R631, R640, R814: a frame that is too long, or without an entry in the FDB, is counted and
dropped; a good one enters the queues its entry names; a guarded frame that passes its checks reaches its consumers, and one that no entry serves raises
GUARD_CHK; the highest class that may start does; late launch-time frames are dropped; gates follow the time; the recovery timeout takes any sequence
again; the link's loss drops the frames without a launch time. -/
def Obligations.FramesMeetFiltersAndGates : Prop :=
  ∀ (s : State) (p q : Fin 12) (g : Fin 16) (e : Fin 256) (f : Fin 128) (b : List Byte) (k c l : Nat) (x : QFrame), s.Shape →
    (s.ethUp p.val = true → s.rd F.SIO_BTSTAT_STATE = 0 → s.rd F.TSN_PMAXLEN_BYTES p.val < b.length + 4 → ∀ ok : Bool, Does (.ethFrameRx p b ok) s fun t =>
      t.rd F.TSN_PRX_N p.val = satAdd 32 (s.rd F.TSN_PRX_N p.val) 1 ∧ t.rd F.TSN_PDROP_N p.val = satAdd 32 (s.rd F.TSN_PDROP_N p.val) 1 ∧
        s.Only t [R.TSN_PRX.key p.val 0, R.TSN_PDROP.key p.val 0]) ∧
    (s.ethUp p.val = true → s.rd F.SIO_BTSTAT_STATE = 0 → b.length + 4 ≤ s.rd F.TSN_PMAXLEN_BYTES p.val → b.take 6 ≠ natBe 6 0x0180C200000E →
      (frameParts b).etype ≠ s.rd F.TSN_GCFG_GUARDET →
      (s.fdbFind (b.take 6) ((frameParts b).tag.getD (s.rd F.TSN_PCFG_PVID p.val, s.rd F.TSN_PCFG_PPCP p.val)).1 = none →
        Does (.ethFrameRx p b true) s fun t => t.rd F.TSN_FDBMISS_N = satAdd 32 (s.rd F.TSN_FDBMISS_N) 1 ∧
          s.Only t [R.TSN_PRX.key p.val 0, R.TSN_PDROP.key p.val 0, R.TSN_FDBMISS.key 0 0]) ∧
      (s.fdbFind (b.take 6) ((frameParts b).tag.getD (s.rd F.TSN_PCFG_PVID p.val, s.rd F.TSN_PCFG_PPCP p.val)).1 = some k →
        s.rd F.TSN_FDB_FWD_SFI k = 255 → bit q.val (s.rd F.TSN_FDB_FWD_PORTS k) = true → q ≠ p → s.ethUp q.val = true →
        c = s.rd (F.TSN_PTCMAP_TC ((frameParts b).tag.getD (s.rd F.TSN_PCFG_PVID p.val, s.rd F.TSN_PCFG_PPCP p.val)).2) q.val →
        (s.ethSt q.val).queues.length = 8 → (s.ethSt q.val).queues.getD c [] = [] → b.length ≤ 65536 → Does (.ethFrameRx p b true) s fun t =>
          ∃ y, ((t.ethSt q.val).queues.getD c []).head? = some y ∧ y.data = b ∧ y.good = true ∧ y.ingress = some (s.fns, p.val) ∧ y.launch = none)) ∧
    (s.ethUp p.val = true → s.rd F.SIO_BTSTAT_STATE = 0 → b.length + 4 ≤ s.rd F.TSN_PMAXLEN_BYTES p.val →
      s.fdbFind (b.take 6) ((frameParts b).tag.getD (s.rd F.TSN_PCFG_PVID p.val, s.rd F.TSN_PCFG_PPCP p.val)).1 = none →
      (frameParts b).etype = s.rd F.TSN_GCFG_GUARDET → b.take 6 = s.mac R.TSN_PMAC_LO R.TSN_PMAC_HI p.val →
      (s.gtFind (be 0 2 (b.drop (frameParts b).off)) 0 = none → Does (.ethFrameRx p b true) s fun t => t.flt S.CVU_GUARD_CHK = true ∧ t.mnt.frames = s.mnt.frames) ∧
      (s.gtFind (be 0 2 (b.drop (frameParts b).off)) 0 = some e.val → s.on F.CVU_GT_CFG_RTAG e.val = false → (s.tsn.guard.getD e.val GuardSt.reset).seen = false →
        s.rd F.CVU_GT_CB_TSSKEW e.val = 0 → s.rd F.CVU_GT_PORT_LEN e.val = 0 → bit p.val (s.rd F.CVU_GT_PORT_PORTS e.val) = true →
        be 2 2 (b.drop (frameParts b).off) = 256 → be 16 4 (b.drop (frameParts b).off) = k * 65536 → (frameParts b).off + 24 + k ≤ b.length → k ≤ 8976 →
        be 20 4 (b.drop (frameParts b).off) = guardCheck (s.rd F.CVU_GT_CFG_ALG e.val) (be 0 2 (b.drop (frameParts b).off)) (be 4 4 (b.drop (frameParts b).off))
          ((b.drop (frameParts b).off).take 20) (slice 24 k (b.drop (frameParts b).off)) →
        Does (.ethFrameRx p b true) s fun t => t.mnt.frames.head? = some ⟨be 0 2 (b.drop (frameParts b).off), be 4 4 (b.drop (frameParts b).off), s.ns,
          slice 24 k (b.drop (frameParts b).off)⟩ ∧ t.word R.CVU_GT_FCNT e.val = be 4 4 (b.drop (frameParts b).off))) ∧
    (s.ethUp p.val = true → (s.ethSt p.val).busyNs ≤ s.ns → s.startClass p.val = some c → ((s.ethSt p.val).queues.getD c []).head? = some x →
      x.ingress = none → x.verdict = none → Does (.ethFrameTx p) s fun t => t.out = .frame p.val x.data x.good :: s.out ∧
        (t.ethSt p.val).queues.getD c [] = ((s.ethSt p.val).queues.getD c []).drop 1 ∧ (t.ethSt p.val).busyNs = s.ns + s.txNs p.val x.data.length ∧
        t.rd F.TSN_PTX_N p.val = satAdd 32 (s.rd F.TSN_PTX_N p.val) 1 ∧ s.Only { t with out := s.out, tsn := s.tsn } [R.TSN_PTX.key p.val 0]) ∧
    (s.nextLaunch p.val = some l → Does (.ltDrop p) s fun t => t.tbu = (s.reachNs (l + s.rd F.TSN_PLTLIM_NS p.val + 1)).tbu ∧
      (∀ y ∈ (t.ethSt p.val).queues.flatten, ∀ m ∈ y.launch.toList, t.ns ≤ m + s.rd F.TSN_PLTLIM_NS p.val)) ∧
    (s.on F.TSN_PCFG_GATE_EN p.val = true → Does (.gateEntryChange p) s fun t => t = s.reachNs (s.ns + (s.gateAt p.val s.ns).2)) ∧
    (s.on F.TSN_SG_CTRL_EN g.val = true → Does (.streamGateChange g) s fun t => (t = s ∨ t = s.advance (t.cyc - s.cyc) ∧ s.cyc < t.cyc) ∧
      (s.rd F.TSN_SG_CTRL_NENT g.val = 1 → s.word R.TSN_SG_CYC g.val = 1 → t = s.reachNs (s.ns + 1))) ∧
    (s.on F.CVU_GT_CFG_RTAG e.val = true → s.rd F.CVU_GT_CFG_DIR e.val = 0 → s.gtOk e.val = true → Does (.cbResetTimeout e) s fun t =>
      (t.tsn.guard.getD e.val GuardSt.reset).takeAny = true ∧ (t.tsn.guard.getD e.val GuardSt.reset).hist = [] ∧
      t.cyc = max s.cyc ((s.tsn.guard.getD e.val GuardSt.reset).lastAt + 800000 * s.rd F.CVU_GT_TX_CBRST e.val) ∧ t.regs = s.regs) ∧
    (s.on F.TSN_PPSTAT_LINKUP p.val = true → Does (.ethLinkDown p) s fun t => t.rd F.TSN_PPSTAT_LINKUP p.val = 0 ∧ t.flt S.TSN_LINK_DOWN = true ∧
      ∀ y ∈ (t.ethSt p.val).queues.flatten, y.launch.isSome = true) ∧
    (Does (.ethLinkUp p) s fun t => t.rd F.TSN_PPSTAT_LINKUP p.val = 1 ∧ s.Only t [R.TSN_PPSTAT.key p.val 0, R.TSN_STAT.key 0 0]) ∧
    (s.Takes 20 → Does (.unblock f) s fun t => t.rd F.TSN_SF_CFG_BLOCKED f.val = 0 ∧ s.Only t [R.TSN_SF_CFG.key f.val 0])

/-- R609 to R613, R635, R645: a check-value unit of the host starts from the initial value with the tag folded in, takes four bytes or one, forms its
final value at FINISH, and takes a running value but in a cycle in which data is fed (log entry 148); the other units belong to the bridge, and their commands draw ACCESS. -/
def Obligations.HostCheckValueUnitsFeed : Prop :=
  ∀ (s : State) (u : Fin 32) (v : BitVec 32) (w : BitVec 8) (hi : Bool), s.Shape → s.Takes 21 →
    (24 ≤ u.val →
      (Does (.cvuStart u) s fun t => t.cvuRun u.val = crcFeed (crcAlgs (s.rd F.CVU_CFG_ALG u.val)) (if s.on F.CVU_CFG_TAGORD u.val
          then natLe 8 (s.rd64 R.CVU_TAG_LO R.CVU_TAG_HI u.val) else natBe 8 (s.rd64 R.CVU_TAG_LO R.CVU_TAG_HI u.val))
          (crcAlgs (s.rd F.CVU_CFG_ALG u.val)).init % 2 ^ 64 ∧ t.word R.CVU_USTAT u.val = 0 ∧ t.tsn.cvu[u.val]?.map (fun x => (x.feeding, x.back, x.fedAt)) = some (true, [], none)) ∧
      (s.on F.CVU_CFG_MODE u.val = false →
        (Does (.cvuData u v) s fun t => t.cvuRun u.val = crcFeed (crcAlgs (s.rd F.CVU_CFG_ALG u.val)) (natLe 4 v.toNat) (s.cvuRun u.val) % 2 ^ 64 ∧
          s.Only { t with tsn := s.tsn } [R.CVU_RUN_LO.key u.val 0, R.CVU_RUN_HI.key u.val 0]) ∧
        (Does (.cvuDatab u w) s fun t => t.cvuRun u.val = crcFeed (crcAlgs (s.rd F.CVU_CFG_ALG u.val)) [w] (s.cvuRun u.val) % 2 ^ 64 ∧
          s.Only { t with tsn := s.tsn } [R.CVU_RUN_LO.key u.val 0, R.CVU_RUN_HI.key u.val 0])) ∧
      (Does (.cvuFinish u) s fun t => t.rd64 R.CVU_RES_LO R.CVU_RES_HI u.val = crcFinal (crcAlgs (s.rd F.CVU_CFG_ALG u.val)) (s.cvuRun u.val) % 2 ^ 64 ∧
        t.rd F.CVU_USTAT_DONE u.val = 1 ∧ t.tsn.cvu[u.val]? = some CvuSt.reset ∧ (s.on F.CVU_CFG_MODE u.val = false → t.rd F.CVU_USTAT_MATCH u.val = 0)) ∧
      ((s.tsn.cvu.getD u.val CvuSt.reset).fedAt ≠ some s.cyc → Does (.cvuRun u false v) s fun t => t.word R.CVU_RUN_LO u.val = v.toNat ∧
        s.Only t [R.CVU_RUN_LO.key u.val 0]) ∧
      ((s.tsn.cvu.getD u.val CvuSt.reset).fedAt = some s.cyc → Does (.cvuRun u hi v) s fun t => t.flt S.GLB_ACCESS = true ∧ t.cvuRun u.val = s.cvuRun u.val)) ∧
    (u.val < 24 → ∀ c ∈ [Instr.cvuStart u, .cvuFinish u, .cvuData u v, .cvuDatab u w, .cvuRun u hi v], Does c s fun t =>
      t.flt S.GLB_ACCESS = true ∧ t.tsn.cvu = s.tsn.cvu)

/-! ### Reed links -/

/-- R585, R649, R650, R652 to R654, R658 to R660, R665, R705: an acknowledgement frees the retry buffer and a NAK or a flit older than 1 µs has it sent
again, eight times before the port retrains; a bad flit asks for a replay once; training and key agreement lead to UP, or report what failed; a port that
leaves UP makes the devices behind it unreachable; a DOWN or UP broadcast is acted on. -/
def Obligations.ReedLinksTrainAndReplay : Prop :=
  ∀ (s : State) (h : FlitHdr) (p : Fin 4) (r : RPort) (e : RetryE) (es : List RetryE) (x : Fin 3) (nb : BitVec 6) (why : BitVec 8) (at_ : BitVec 32)
    (te : BitVec 64), s.Shape → s.reed.ports[p.val]? = some r →
    (h.port = p → s.rUp p.val = true → h.good = true → r.wait = [] →
      (Does (.reedIdle h) s fun t => t.reed.ports[p.val]? = some { r with retry := uncovered h.ack.toNat r.retry } ∧
        s.Only { t with reed := s.reed } [R.REED_PRX_LO.key p.val 0, R.REED_PRX_HI.key p.val 0]) ∧
      (uncovered h.ack.toNat r.retry = e :: es → (∀ y ∈ e :: es, y.replays < 7) → Does (.reedNak h) s fun t =>
        t.reed.ports[p.val]? = some { r with retry := (e :: es).map (fun y => { y with sentAt := s.cyc, replays := y.replays + 1 }) } ∧
        t.out = (e :: es).reverse.map (fun y => .flit p.val (y.flit.bytes y.lseq r.rxLast)) ++ s.out ∧
        t.rd F.REED_PREPLAY_N p.val = satAdd 32 (s.rd F.REED_PREPLAY_N p.val) 1)) ∧
    (h.port = p → s.rUp p.val = true → h.good = false → r.nak = false → Does (.reedIdle h) s fun t =>
      t.rd F.REED_PCRC_N p.val = satAdd 32 (s.rd F.REED_PCRC_N p.val) 1 ∧ t.reed.ports[p.val]? = some { r with nak := true } ∧ t.out.length = s.out.length + 1) ∧
    (s.rUp p.val = true → r.retry = e :: es →
      ((∀ y ∈ e :: es, y.replays < 7) → Does (.reedReplayTimeout p) s fun t => t.cyc = max s.cyc (e.sentAt + 801) ∧ t.rd F.REED_PSTAT_LSTATE p.val = 3 ∧
        t.reed.ports[p.val]? = some { r with retry := (e :: es).map (fun y => { y with sentAt := t.cyc, replays := y.replays + 1 }) }) ∧
      (7 ≤ e.replays → Does (.reedReplayTimeout p) s fun t => t.rd F.REED_PSTAT_LSTATE p.val = 4 ∧ t.flt S.REED_RETRY_EXH = true ∧
        t.rd F.REED_PRETRAIN_N p.val = satAdd 32 (s.rd F.REED_PRETRAIN_N p.val) 1)) ∧
    (s.on F.REED_PCFG_EN p.val = true → r.keyFail = false → s.rd F.REED_PSTAT_LSTATE p.val = 1 →
      (x.val = 0 → s.topoOk = true → s.neighbour p.val = some nb.toNat → Does (.reedTrainDone p x nb) s fun t => t.rd F.REED_PSTAT_LSTATE p.val = 2 ∧
        t.rd F.REED_PSTAT_NBRDEV p.val = nb.toNat ∧ t.rd F.REED_PSTAT_NBRVALID p.val = 1 ∧ t.rd F.REED_PSTAT_X2 p.val = 0 ∧ s.Only t [R.REED_PSTAT.key p.val 0]) ∧
      (x.val = 0 → s.topoOk = true → s.neighbour p.val ≠ some nb.toNat → Does (.reedTrainDone p x nb) s fun t => t.rd F.REED_PSTAT_LSTATE p.val = 1 ∧
        t.flt S.REED_CFG_BAD = true) ∧
      (x.val = 2 → Does (.reedTrainDone p x nb) s fun t => t.rd F.REED_PSTAT_LSTATE p.val = 0 ∧ (∀ d ∈ s.devsBehind p.val, d ∈ t.reed.unreach) ∧
        (s.devsBehind p.val = [] → s.Still → s.Only t [R.REED_PSTAT.key p.val 0]))) ∧
    (s.rd F.REED_PSTAT_LSTATE p.val = 2 →
      (Does (.reedKeyAgreed p true) s fun t => t.rd F.REED_PSTAT_LSTATE p.val = 3 ∧ ∃ k, t.reed.ports[p.val]? = some k ∧ k = { RPort.reset with linkKey := k.linkKey }) ∧
      (Does (.reedKeyAgreed p false) s fun t => t.rd F.REED_PSTAT_LSTATE p.val = 0 ∧ t.flt S.REED_KEY_FAIL = true)) ∧
    (s.rUp p.val = true → Does (.reedPortDown p) s fun t => t.rd F.REED_PSTAT_LSTATE p.val = s.rd F.REED_PCFG_EN p.val ∧
      t.rd F.REED_PSTAT_NBRVALID p.val = 0 ∧ t.flt S.REED_LINK_DOWN = true ∧ ∀ d ∈ s.devsBehind p.val, d ∈ t.reed.unreach) ∧
    (s.Recv h → h.bcast = true → h.src.toNat ≠ s.dev → (h.src.toNat, h.bseq.toNat) ∉ s.reed.seen →
      (Does (.accDown h why at_ te) s fun t => h.src.toNat ∈ t.reed.down ∧ h.src.toNat ∉ t.reed.ups ∧ (h.src.toNat, h.bseq.toNat) ∈ t.reed.seen) ∧
      (Does (.accUp h why at_ te) s fun t => h.src.toNat ∈ t.reed.ups ∧ t.reed.down = s.reed.down ∧ (h.src.toNat, h.bseq.toNat) ∈ t.reed.seen))

/-- R661, R662, R664, R665: a time request leaves upstream at its time and is answered, and a response of a sound upstream completes the exchange (an inexact
quotient rounds down or up: log entry 21); a key is
held, its acknowledgement noted, and one that does not authenticate holds the port DOWN; keys roll over at PST_EPOCH. -/
def Obligations.ReedTimeAndKeysTravel : Prop :=
  ∀ (s : State) (h : FlitHdr) (t0 : Nat) (t1 t2 : Int) (root : BitVec 6) (depth : BitVec 8) (pu : BitVec 8) (site : BitVec 16) (i : Fin 64) (kg : BitVec 32)
    (fr : BitVec 64) (key : BitVec 256) (c : Fin 16) (p : Plan) (d : XferD) (k : XKey) (pr : Nat × Nat), s.Shape →
    (s.rd F.TBU_CTRL_SRC = 2 → s.rUp (s.rd F.REED_GCFG_TUP) = true → s.reed.t0 = none → Does .reedTimeRequest s fun t =>
      t.cyc = max s.cyc (s.reed.reqAt.getD s.cyc + 800 * s.rd F.REED_TPER_US) ∧ t.reed.reqAt = some t.cyc ∧ t.reed.missed = 0 ∧ t.reed.t0 = some t.fns.toNat) ∧
    (s.rd F.TBU_CTRL_SRC = 2 → s.rUp (s.rd F.REED_GCFG_TUP) = false → Does .reedTimeRequest s fun t => t.rd F.REED_TROOT_VALID = 0 ∧
      (s.on F.REED_TROOT_VALID = true → t.flt S.REED_CFG_BAD = true) ∧ t.rd F.TBU_STAT_SSTATE = 3) ∧
    (s.Recv h →
      (Does (.reedTime h false t1 t2 root depth) s fun t => t.rd F.REED_TROOT_ROOT = s.rd F.REED_TROOT_ROOT ∧ t.tsn = s.tsn ∧
        ∃ r, t.reed.ports[h.port.val]? = some r ∧ r.rxLast = h.lseq.toNat ∧ r.nak = false) ∧
      (s.rd F.TBU_CTRL_SRC = 2 → s.rd F.REED_GCFG_TUP = h.port.val → s.reed.t0 = some t0 → root.toNat ≠ s.dev → depth.toNat < 15 →
        Does (.reedTime h true t1 t2 root depth) s fun t => t.rd F.REED_TROOT_ROOT = root.toNat ∧ t.rd F.REED_TROOT_DEPTH = depth.toNat + 1 ∧
          t.rd F.REED_TROOT_VALID = 1 ∧ t.reed.t0 = none ∧ t.reed.lastEx.isSome = true ∧ ∃ j ∈ [0, 1], ∃ m ∈ [0, 1], t.word R.REED_PDELAY h.port.val =
            ofSigned 32 (clampInt (-(2 ^ 31)) (2 ^ 31 - 1) (Int.fdiv ((Int.fdiv (s.fns - t0 - (t2 - t1)) 2 + j) * 1000) 65536 + m))) ∧
      (Does (.reedKey h true pu site i kg fr key) s fun t => t.reed.recv.head? =
        some ⟨pu.toNat, site.toNat, i.val, h.src.toNat, kg.toNat, fr.toNat, key.toNat, s.cyc, true⟩) ∧
      (Does (.reedKeyack h pu site i kg) s fun t => t.reed.sent.length = s.reed.sent.length ∧ ∀ y ∈ t.reed.sent,
        y.purpose = pu.toNat → y.site = site.toNat → y.stream = i.val → y.kgen = kg.toNat → y.peer = h.src.toNat → y.acked = true)) ∧
    (s.Recv h → Does (.reedKey h false pu site i kg fr key) s fun t => t.flt S.REED_KEY_FAIL = true ∧
      t.rd F.REED_PSTAT_LSTATE h.port.val = 0 ∧ t.reed.recv = s.reed.recv) ∧
    ((s.ctx c.val).plan = some p → p.xferD site.toNat = some d → d.sends = true → d.pairs = [pr] →
      s.reed.sent.find? (fun k => k.purpose == 1 && k.site == site.toNat && k.peer == d.peer) = some k → Does (.xferKeyRollover c site) s fun t =>
        t.cyc = max s.cyc (k.drawnAt + 800000000 * s.word R.PST_EPOCH) ∧ (s.noDraws = true → t.reed.sent = s.reed.sent) ∧
        (s.noDraws = false → ∃ y, t.reed.sent.head? = some y ∧ y.purpose = 1 ∧ y.site = site.toNat ∧
          y.stream = pr.2 ∧ y.peer = d.peer ∧ y.acked = false ∧ y.drawnAt = t.cyc ∧ y.fromRes = 64 + (s.st ((s.ctx c.val).sbase + pr.1)).maxUsed.getD 0)) ∧
    (s.on F.REED_AUDCFG_AUD_EN = true → s.reed.sent = [] → s.noDraws = false → Does .auditKeyRollover s fun t => t.cyc = s.cyc ∧ ∃ y, t.reed.sent.head? = some y ∧
      y.purpose = 2 ∧ y.peer = s.rd F.REED_AUDCFG_AUD_TGT ∧ y.kgen = 1)

/-- R666, R667, R671, R675 to R677: a window value and a signal for a result that is not open wait in the pending table, each for its time; a repeated
value is counted; an audited check is run within its reservation, answered, and its outcome compared, by the auditor and by its peer. -/
def Obligations.ReedValuesSignalsAndAudits : Prop :=
  ∀ (s : State) (h : FlitHdr) (xid kg : BitVec 32) (q : BitVec 64) (tok chk site : BitVec 16) (pd : BitVec 2) (i : Fin 64) (cnt : BitVec 8) (n : BitVec 14)
    (x : Fin 3) (b : List Byte) (e : XPend) (a : AudE) (w : List (BitVec 160 × BitVec 16)), s.Recv h →
    (s.slotOf i.val q.toNat = none → (s.st i.val).maxUsed = none → s.reed.pend.length < 4096 → Does (.reedSig h i cnt n q) s fun t =>
      t.rd F.REED_XPEND_N = s.reed.pend.length + 1 ∧ t.reed.pend = s.reed.pend ++ [⟨true, h.src.toNat, 0, q.toNat, 0, i.val, s.cyc,
        s.cyc + 8000000, 0, 0, [], n.toNat, cnt.toNat⟩]) ∧
    (s.reed.pend = [] → (∀ l ∈ s.lqs, l.waiting = false) → Does (.reedXval h xid q tok pd i kg w) s fun t => t.rd F.REED_XPEND_N = 1 ∧
      ∃ y, t.reed.pend.head? = some y ∧ y.isSig = false ∧ y.src = h.src.toNat ∧ y.xid = xid.toNat ∧ y.resseq = q.toNat ∧ y.token = tok.toNat ∧
        y.prod = pd.toNat ∧ y.kgen = kg.toNat ∧ y.expires = s.cyc + 800 * s.xidTimeout i.val h.src.toNat xid.toNat ∧
        y.wins = w.map (fun v => (v.1.toNat, v.2.toNat))) ∧
    (s.reed.pend = [e] → e.isSig = false → e.src = h.src.toNat → e.xid = xid.toNat → e.resseq = q.toNat → e.token = tok.toNat →
      Does (.reedXval h xid q tok pd i kg w) s fun t => t.reed.pend = [e] ∧ t.rd F.REED_XORPH_N = satAdd 32 (s.rd F.REED_XORPH_N) 1) ∧
    (∀ c ∈ [Instr.xvalExpiry, .remoteSigExpiry], s.reed.pend = [e] → e.isSig = decide (c = .remoteSigExpiry) → Does c s fun t => t.reed.pend = [] ∧
      t.rd F.REED_XPEND_N = 0 ∧ t.cyc = max s.cyc e.expires ∧ t.rd F.REED_XORPH_N = satAdd 32 (s.rd F.REED_XORPH_N) 1) ∧
    (s.audFits (s.audCost site.toNat b.length) = true → Does (.auddata h i q chk site x b) s fun t =>
      t.reed.aud = b ∧ t.reed.audSec = secOf s.ns ∧ t.reed.audSpent.lane = s.audUsed.lane + (s.audCost site.toNat b.length).lane ∧
      if x.val = 2 ∨ Config.auditOutcome site.toNat b % 3 = 2 then t.rd F.REED_AUDND_N = satAdd 32 (s.rd F.REED_AUDND_N) 1
      else t.rd F.REED_AUDN_N = satAdd 32 (s.rd F.REED_AUDN_N) 1 ∧ (Config.auditOutcome site.toNat b % 3 ≠ x.val → t.flt S.REED_AUDIT_DIFF = true)) ∧
    (s.audFits (s.audCost site.toNat b.length) = false → Does (.auddata h i q chk site x b) s fun t =>
      t.rd F.REED_AUDSKIP_N = satAdd 32 (s.rd F.REED_AUDSKIP_N) 1 ∧ t.rd F.REED_AUDN_N = s.rd F.REED_AUDN_N) ∧
    (s.reed.audits = [a] → a.peer = h.src.toNat → a.stream = i.val → a.resseq = q.toNat → a.chk = chk.toNat → Does (.audres h i q chk x) s fun t =>
      t.reed.audits = [] ∧
      (a.outcome = 2 ∨ x.val = 2 → t.rd F.REED_AUDND_N = satAdd 32 (s.rd F.REED_AUDND_N) 1 ∧ t.rd F.REED_AUDN_N = s.rd F.REED_AUDN_N) ∧
      (a.outcome = 1 → x.val = 0 → t.flt S.REED_PEER_DIFF = true ∧ t.rd F.REED_AUDN_N = satAdd 32 (s.rd F.REED_AUDN_N) 1) ∧
      (a.outcome = 0 → x.val = 1 → t.flt S.REED_PEER_MISS = true))

/-! ### Keys, sessions and random draws -/

/-- R687, R688, R693, R696 to R698: an owner key is cached when its hash is the slot's; an endorsement that verifies binds its keys to a session, and one
that does not raises ENDO_BAD; a revocation that verifies and leaves a valid slot revokes; an empty slot is programmed while the lifecycle is TEST; a
counter advances to a value that its loaded objects reach, and otherwise ARB_REFUSED is raised. -/
def Obligations.OwnerKeysAndRollback : Prop :=
  ∀ (s : State) (k : Fin 4) (n : Fin 8) (b : List Byte) (c : BitVec 3) (v : BitVec 8), s.Shape → s.Takes 23 → s.hostMay 0 = true →
    (b.length = 2049 →
      ((s.owner k.val).valid = true → (s.owner k.val).revoked = false → (s.owner k.val).hash = Config.sha384 b → Does (.loadkey k b) s fun t =>
        t.kcu.blobs[k.val]? = some (some b) ∧ t.rd F.KCU_KSTAT_RESULT = 1 ∧ s.Only { t with kcu := s.kcu } [R.KCU_KSTAT.key 0 0]) ∧
      (s.owner k.val = ⟨0, false, false⟩ → s.otp.owners.length = 4 → s.otp.life = 1 → s.on F.GLB_LOCK_LOCKED = false → Does (.progslot k b) s fun t =>
        t.owner k.val = ⟨Config.sha384 b, true, false⟩ ∧ t.otp.life = (if k.val = 0 then 2 else 1) ∧ t.rd F.KCU_KSTAT_RESULT = 1 ∧
        (∀ j < 4, j ≠ k.val → t.owner j = s.owner j))) ∧
    ((s.owner k.val).valid = true → Does (.progslot k b) s fun t => t.rd F.KCU_KSTAT_RESULT = 5 ∧ t.otp = s.otp) ∧
    (b.length ≠ 2049 → Does (.loadkey k b) s fun t => t.rd F.KCU_KSTAT_RESULT = 2 ∧ t.flt S.KCU_OKEY_BAD = true ∧ t.kcu.blobs = s.kcu.blobs) ∧
    (b.length = 5568 → le 0 4 b = 0x314E454B → le 4 1 b = k.val → Does (.loadendo n b) s fun t =>
      if s.verify k.val "KIFEN-ENDO" (some (le 8 4 b)) b = 0
      then t.rd F.KCU_KSTAT_RESULT = 1 ∧ (t.sessOf n.val).endo = some ⟨slice 32 2049 b, k.val, le 8 4 b⟩ ∧ (t.sessOf n.val).st = (s.sessOf n.val).st
      else t.flt S.KCU_ENDO_BAD = true ∧ t.kcu.sess = s.kcu.sess) ∧
    (b.length = 3520 → le 0 4 b = 0x3156524B → le 4 1 b = k.val → le 8 8 b = 0 → s.otp.owners.length = 4 → Does (.revoke b) s fun t =>
      if s.verify k.val "KIFEN-REVK" none b = 0 ∧ le 5 1 b < 4 ∧ le 5 1 b ≠ k.val ∧ s.loadedUnder (le 5 1 b) = []
      then (t.owner (le 5 1 b)).revoked = true ∧ t.blob (le 5 1 b) = none ∧ t.rd F.KCU_KSTAT_RESULT = 1 ∧ t.owner k.val = s.owner k.val
      else t.otp = s.otp ∧ t.flt S.KCU_ARB_REFUSED = true ∧ 2 ≤ t.rd F.KCU_KSTAT_RESULT) ∧
    (c.toNat ≤ 4 → s.otp.arb.length = 5 → s.otp.arb.getD c.toNat 0 < v.toNat → v.toNat ≤ 64 →
      (if c.toNat = 0 then v.toNat ≤ s.kcu.bootRoll else ∀ r ∈ s.loadedUnder (c.toNat - 1), v.toNat ≤ r) → Does (.arbadv c v) s fun t =>
        t.otp.arb.getD c.toNat 0 = v.toNat ∧ (∀ j < 5, j ≠ c.toNat → t.otp.arb.getD j 0 = s.otp.arb.getD j 0) ∧ s.Only { t with otp := s.otp } [R.KCU_ARBADV.key 0 0]) ∧
    (4 < c.toNat ∨ v.toNat ≤ s.otp.arb.getD c.toNat 0 ∨ 64 < v.toNat → Does (.arbadv c v) s fun t => t.flt S.KCU_ARB_REFUSED = true ∧ t.otp = s.otp)

/-- R690, R699 to R706: START with an endorsement writes a HELLO; a RESPONSE that verifies is confirmed and its key waits for TACT, and any other, a
timeout of 1 s and a drop of an open handshake return the session to its former state with HS_FAIL; at TACT the key is in force; a drop leaves the endorsement
alone; a quote is sampled, signed and written; the host verdict key is read once; health failures stop the draws and the third is fatal; a reseed is counted. -/
def Obligations.SessionsQuotesAndDraws : Prop :=
  ∀ (s : State) (n : Fin 8) (b : List Byte) (key at_ : Nat) (rest : List (Nat × Nat)), s.Shape →
    (s.Takes 23 → s.hostMay 0 = true →
      ((s.sessOf n.val).endo.isSome = true → (s.sessOf n.val).st ≠ 1 → s.noDraws = false → Does (.hsStart n) s fun t => (t.sessOf n.val).st = 1 ∧
        (t.sessOf n.val).prev = (s.sessOf n.val).st ∧ (t.sessOf n.val).helloAt = s.cyc ∧ (t.sessOf n.val).hello.length = 4864 ∧
        t.out = .hostWrite (s.rd64 R.KCU_HSADDR_LO R.KCU_HSADDR_HI) (t.sessOf n.val).hello :: s.out) ∧
      ((s.sessOf n.val).endo = none → Does (.hsStart n) s fun t => s.Only t [R.KCU_HSCMD.key 0 0]) ∧
      ((s.sessOf n.val).st = 1 → (s.sessOf n.val).hello ≠ [] → Does (.hsResp n b) s fun t =>
        if (s.respOk n.val b).isSome = true
        then (t.sessOf n.val).st = 2 ∧ (t.sessOf n.val).next.length = (s.sessOf n.val).next.length + 1 ∧ (t.sessOf n.val).key = (s.sessOf n.val).key ∧
          t.out.length = s.out.length + 1
        else (t.sessOf n.val).st = (s.sessOf n.val).prev ∧ t.flt S.KCU_HS_FAIL = true ∧ (t.sessOf n.val).key = (s.sessOf n.val).key) ∧
      (Does .quote s fun t => ∃ o, t.out.head? = some o ∧ o = .hostWrite (s.rd64 R.KCU_QADDR_LO R.KCU_QADDR_HI) o.hostBytes ∧
        o.hostBytes.take s.quoteBody.length = s.quoteBody ∧ o.hostBytes.length = s.quoteBody.length + 3456 ∧ t.regs = s.regs)) ∧
    (s.Takes 23 →
      ((s.sessOf n.val).st = 1 → Does (.hsDrop n) s fun t => (t.sessOf n.val).st = (s.sessOf n.val).prev ∧ t.flt S.KCU_HS_FAIL = true) ∧
      (2 ≤ (s.sessOf n.val).st → Does (.hsDrop n) s fun t => (t.sessOf n.val).st = 0 ∧ (t.sessOf n.val).key = none ∧
        (t.sessOf n.val).endo = (s.sessOf n.val).endo ∧ t.flt S.KCU_SESS_NONE = true)) ∧
    ((s.sessOf n.val).st = 1 → (s.sessOf n.val).hello ≠ [] → Does (.hsTimeout n) s fun t => t.cyc = max s.cyc ((s.sessOf n.val).helloAt + 800000000) ∧
      (t.sessOf n.val).st = (s.sessOf n.val).prev ∧ (t.sessOf n.val).hello = [] ∧ t.flt S.KCU_HS_FAIL = true) ∧
    ((s.sessOf n.val).st = 2 → (s.sessOf n.val).next = (key, at_) :: rest → s.kcu.wait = [] → Does (.sessionActivate n) s fun t =>
      (t.sessOf n.val).key = some key ∧ (t.sessOf n.val).next = rest ∧ (t.sessOf n.val).st = (if rest = [] then 3 else 2) ∧
      t.tbu = (s.reachNs at_).tbu ∧ t.regs = s.regs) ∧
    (Does .hvkeyRead s fun t => t.rd F.KCU_HVSTAT_AVAIL = 0 ∧ s.Only t [R.KCU_HVSTAT.key 0 0]) ∧
    (s.kcu.entFails = [] → Does .entHealth s fun t => t.rd F.KCU_STAT_DRBG = 2 ∧ t.kcu.entFails = [s.cyc] ∧ t.flt S.KCU_ENT_HEALTH = true) ∧
    (s.kcu.entFails = [s.cyc, s.cyc] → Does .entHealth s fun t => t.rd F.KCU_STAT_DRBG = 3 ∧ t.flt S.KCU_ENT_FAIL = true) ∧
    (s.rd F.KCU_STAT_DRBG = 2 → Does .drbgReady s fun t => t.rd F.KCU_STAT_DRBG = 1 ∧
      ((s.sessOf n.val).st = 1 → (s.sessOf n.val).hello = [] → (t.sessOf n.val).hello.length = 4864)) ∧
    (2 ^ 20 ≤ s.kcu.draws → Does .drbgReseed s fun t => t.rd F.KCU_NRESEED_N = satAdd 32 (s.rd F.KCU_NRESEED_N) 1 ∧
      t.kcu.draws = 0 ∧ t.kcu.seedAt = s.cyc ∧ t.cyc = s.cyc ∧ ∀ k, k ≠ R.KCU_NRESEED.key 0 0 → Store.look t.regs k = Store.look s.regs k) ∧
    (s.kcu.draws < 2 ^ 20 → Does .drbgReseed s fun t => t.rd F.KCU_NRESEED_N = satAdd 32 (s.rd F.KCU_NRESEED_N) 1 ∧ t.kcu.draws = 0 ∧
      t.cyc = max s.cyc (s.kcu.seedAt + secC (s.rd F.PST_EPOCH_SEC)) ∧ t.kcu.seedAt = t.cyc)

/-! ### Clocks, power and maintenance -/

/-- R720 to R723, R725, R727, R728, R733: a request for P1 or P2 is taken where its conditions hold and refused elsewhere, and one for P0 starts the exit tests,
whose end enters P0; the cap shows its millisecond; a lost reference, an unlocked PLL and a domain whose count leaves its window are reported, and an engine's
domain takes the engine OUT. -/
def Obligations.PowerAndClocksAreKept : Prop :=
  ∀ (s : State) (r : BitVec 2) (te : BitVec 4) (sh : BitVec 2) (mean pest cnt : Nat) (d : Fin 40) (e : Fin 4) (x : Fin 2), s.Shape →
    (s.Takes 1 →
      (r.toNat = 1 ∨ r.toNat = 2 → s.pwrOk = true → Does (.pwrRequest r) s fun t => t.rd F.CLK_PWR_STATE = r.toNat ∧ t.rd F.CLK_STAT_PSTATE = r.toNat ∧
        t.rd F.CLK_PWR_REQ = r.toNat ∧ t.rd F.MEM_STAT_SREF = b2n (r.toNat == 2) ∧ t.rd F.CLK_PWR_BUSY = 0 ∧ t.clk.testing = false) ∧
      (r.toNat = 1 ∨ r.toNat = 2 → s.pwrOk = false → Does (.pwrRequest r) s fun t => t.flt S.CLK_PWR_REFUSED = true ∧
        t.rd F.CLK_PWR_STATE = s.rd F.CLK_PWR_STATE ∧ t.clk = s.clk) ∧
      (r.toNat = 0 → s.rd F.CLK_PWR_STATE ≠ 0 → s.clk.testing = false → Does (.pwrRequest r) s fun t => t.clk.testing = true ∧ t.rd F.CLK_PWR_BUSY = 1 ∧
        t.rd F.CLK_PWR_STATE = s.rd F.CLK_PWR_STATE ∧ (s.on F.TE_CTRL_EN e.val = true → s.roleOf e.val < 6 → t.roleOf e.val = 3))) ∧
    (s.clk.testing = true → Does (.p0ExitTestDone te sh) s fun t => t.clk.testing = false ∧ t.rd F.CLK_PWR_STATE = 0 ∧ t.rd F.CLK_PWR_BUSY = 0 ∧
      (s.roleOf e.val = 3 → bit e.val te.toNat = true → t.rd F.TE_STAT_STPASS e.val = 1) ∧
      ((s.sh x.val).testing = true → (t.sh x.val).testing = false ∧ t.rd F.SH_STAT_STPASS x.val = b2n (bit x.val sh.toNat) ∧
        (bit x.val sh.toNat = false → (t.sh x.val).out = true))) ∧
    (s.clk.bursts = [] → Does (.powerCapEval mean pest) s fun t => t.rd F.CLK_PEST_MW = min pest 65535 ∧ t.clk.ms = s.clk.ms + 1 ∧
      t.rd F.CLK_BURSTMS_MS = b2n (decide (25000 < mean)) ∧ t.rd F.CLK_STAT_BURSTOK = b2n (!s.clk.ended && decide (pest ≤ 34000)) ∧
      (s.clk.measures = 0 → pest ≤ 25000 → s.clk.ended = false → t.rd F.CLK_STAT_CAP = 0) ∧
      (34000 < pest → t.rd F.CLK_STAT_CAP = 1 ∧ t.clk.measures = min 17 (s.clk.measures + 1) ∧ (s.on F.CLK_STAT_CAP = false → t.flt S.CLK_PWR_CAP = true))) ∧
    (Does (.refLoss false) s fun t => t.rd F.CLK_STAT_REFOK = 0 ∧ t.flt S.CLK_REF_LOSS = true ∧ t.host = s.host) ∧
    (Does (.refLoss true) s fun t => t.host.linkUp = false ∧ (∀ p < 12, t.rd F.TSN_PPSTAT_LINKUP p = 0) ∧ ∀ p < 4, t.rUp p = false) ∧
    (Does .pllUnlock s fun t => t.flt S.CLK_PLL_UNLOCK = true) ∧
    (s.domRuns d.val = true → 0 < d.val →
      (1024 * domMhz d.val / 800 = cnt → Does (.domainFreqFault d cnt) s fun t => t.rd F.CLK_DCNT_N d.val = cnt ∧ t.rd F.CLK_DSTAT_MONFAIL d.val = 0 ∧
        s.Only t [R.CLK_DCNT.key d.val 0, R.CLK_DSTAT.key d.val 0]) ∧
      (1024 * domMhz d.val / 800 + 2 < cnt → 8 ≤ d.val → Does (.domainFreqFault d cnt) s fun t => t.rd F.CLK_DSTAT_MONFAIL d.val = 1 ∧ t.flt S.CLK_DOM_FREQ = true) ∧
      (1024 * domMhz d.val / 800 + 2 < cnt → d.val = e.val + 2 → s.roleOf e.val ≠ 0 → s.roleOf e.val ≠ 6 → Does (.domainFreqFault d cnt) s fun t =>
        t.roleOf e.val = 6 ∧ t.rd F.TE_OUTCAUSE_SRC e.val = 3 ∧ t.flt S.CLK_ENG_FREQ = true)) ∧
    (d.val = 0 → Does (.domainFreqFault d cnt) s fun t => t.balls.coreLoss = true)

/-- R729 to R731, R733, R736, R737, R739, R741: a conversion shows each site's warmer diode and the warmest site, ends bursts at 105 °C and stops the engines at
125 °C; the thermal factor steps at its times and bursts return after 1 s; each millisecond is a slot of the maintenance arbiter, in which the comparator test
moves on; late scrubs, tests and rotations are reported. -/
def Obligations.HeatAndMaintenanceAreTimed : Prop :=
  ∀ (s : State) (ds : List (BitVec 12 × BitVec 12)) (a b : BitVec 12) (k : Fin 8) (c : Nat) (rows : List ScrubRow) (e : Fin 4) (l : Bool), s.Shape →
    (Does (.tempConversion ds) s fun t => t.rd F.CLK_TMAX_T = ofSigned 12 t.tjMax ∧
      (s.clk.diff.length = 8 → ds[k.val]? = some (a, b) → s.on F.CLK_TS_EXCL k.val = false → t.rd F.CLK_TS_VALID k.val = 1 ∧
        t.rd F.CLK_TS_T k.val = ofSigned 12 (max (toSigned 12 a.toNat) (toSigned 12 b.toNat))) ∧
      (840 ≤ t.tjMax → t.clk.ended = true ∧ (s.clk.ended = false → t.flt S.CLK_TH_BURST = true)) ∧
      (1000 ≤ t.tjMax → t.clk.stopped = true ∧ (s.clk.stopped = false → t.flt S.CLK_THERM_FATAL = true)) ∧
      (t.tjMax < 840 → t.clk.ended = s.clk.ended ∧ t.clk.stopped = s.clk.stopped)) ∧
    (s.clk.hotAt = some c → 1 < s.rd F.CLK_STAT_FTH → Does .thermalFactorStep s fun t => t.rd F.CLK_STAT_FTH = s.rd F.CLK_STAT_FTH - 1 ∧
      t.cyc = max s.cyc c ∧ t.clk.hotAt = some (t.cyc + 8000000) ∧ (s.rd F.CLK_STAT_FTH = 8 → t.flt S.CLK_TH_SHED = true)) ∧
    (s.clk.hotAt = none → s.clk.lowAt = some c → s.rd F.CLK_STAT_FTH < 8 → Does .thermalFactorStep s fun t => t.rd F.CLK_STAT_FTH = s.rd F.CLK_STAT_FTH + 1 ∧
      t.cyc = max s.cyc (c + 80000000) ∧ s.Only { t with cyc := s.cyc, tbu := s.tbu, clk := s.clk } [R.CLK_STAT.key 0 0]) ∧
    (s.clk.coolAt = some c → s.clk.ended = true → Does .thBurstEnd s fun t => t.clk = { s.clk with ended := false } ∧ t.cyc = max s.cyc (c + 800000000)) ∧
    (s.on F.BOOT_STAT_READY = true → s.balls.coreLoss = false → Does (.mnaSlot rows) s fun t => t.cyc = (s.cyc / 800000 + 1) * 800000 ∧
      t.mna.slots = s.mna.slots + 1 ∧ (s.inj.length ≤ 30 → t.mna.started = true ∧ t.mna.cmpAt = t.cyc ∧
        t.rd F.MNA_CMPPOS_BLK = (if s.mna.started then (s.rd F.MNA_CMPPOS_BLK + 1) % 14 else 0))) ∧
    (s.mna.slots ≠ 0 → s.mna.late = [] → Does (.scrubLate l) s fun t => t.flt S.MNA_SCRUB_LATE = true ∧ t.mna.late = [b2n l] ∧
      t.cyc = max s.cyc (if l then s.mna.dramAt + 1000000000 * max 60 (s.rd F.MNA_DRAMPER_S) else s.mna.sramAt + 1000000000 * max 1 (s.rd F.MNA_SRAMPER_S))) ∧
    (s.mna.started = true → Does .cmpLate s fun t => t.flt S.MNA_CMP_LATE = true ∧ t.cyc = max s.cyc (s.mna.cmpAt + 800001)) ∧
    ((∀ y < 4, s.roleOf y = 1) → Does (.rotLate e) s fun t => t.flt S.MNA_ROT_LATE = true ∧ t.cyc = max s.cyc ((s.te e.val).lastPass + 9600000))

/-! ### Event recorder, service port and test port -/

/-- R767, R769, R770, R772: the oldest queued record takes the next ESEQ, and where records were lost a record of their number follows; an annotation is
appended as the next record, and REPLACE rewrites one that exists and draws ACCESS where none does; two annotations of one slot refuse the service port's; the
service port's index shows a snapshot. -/
def Obligations.RecorderKeepsAndAnnotates : Prop :=
  ∀ (s : State) (e : EvRec) (q : List EvRec) (a : Fin 3) (c hi : Bool) (v : BitVec 32), s.Shape →
    (s.on F.ERC_RINGCFG_EN = false → s.erc.queue = e :: q →
      (Does .recordWriteDone s fun t => t.erc.head = (s.erc.head + 1) % 2 ^ 64 ∧ t.regs = s.regs ∧ ∃ x, t.erc.mram.head? = some x ∧
        x = { e with eseq := s.erc.head, lock := x.lock }) ∧
      (s.erc.lost = 0 → Does .recordWriteDone s fun t => t.erc.queue = q ∧ t.erc.lost = 0) ∧
      (s.erc.lost ≠ 0 → q.length < 1024 → Does .recordWriteDone s fun t => t.erc.lost = 0 ∧ t.erc.queue.take q.length = q ∧
        ∃ x, t.erc.queue[q.length]? = some x ∧ x.typ = 0x92 ∧ x.detail = natLe 4 s.erc.lost)) ∧
    (s.on F.ERC_RINGCFG_EN = false → c = false ∨ a.val ≠ 1 → Does (.annAppend a c) s fun t => t.erc.head = (s.erc.head + 1) % 2 ^ 64 ∧ t.rd F.ERC_RSTAT_BUSY a.val = 0 ∧
      t.erc.queue = s.erc.queue ∧ s.Only { t with erc := s.erc, freeCtr := s.freeCtr } [R.ERC_RSTAT.key a.val 0] ∧ ∃ x, t.erc.mram.head? = some x ∧ x.typ = 0x91 ∧
        x.eseq = s.erc.head ∧ x.stream = s.word R.ERC_ANN a.val 0 % 256 ∧ x.page = 0x1F ∧ x.code = (if a.val = 1 then 2 else 1)) ∧
    (c = false ∨ a.val ≠ 1 → s.erc.mram = [e] → e.typ = 0x91 → e.eseq = s.ercIdx a.val → Does (.annReplace a c) s fun t => t.rd F.ERC_RSTAT_BUSY a.val = 0 ∧
      ∃ x, t.erc.mram = [x] ∧ x = { e.annotate (s.annBytes a.val) with lock := x.lock }) ∧
    (c = false ∨ a.val ≠ 1 → (∀ x ∈ s.erc.mram, x.eseq ≠ s.ercIdx a.val) → Does (.annReplace a c) s fun t => t.flt S.GLB_ACCESS = true ∧ t.erc.mram = s.erc.mram) ∧
    (∀ i ∈ [Instr.annAppend 1 true, .annReplace 1 true], Does i s fun t => t.rd F.ERC_RSTAT_BUSY 1 = 1 ∧ s.Only t [R.ERC_RSTAT.key 1 0]) ∧
    Does (.ercIdx hi v) s fun t => t.word (if hi then R.ERC_IDX_HI else R.ERC_IDX_LO) 1 = v.toNat ∧ t.erc.snap = t.slotRec (t.ercIdx 1) ∧
      s.Only { t with erc := s.erc } [(if hi then R.ERC_IDX_HI else R.ERC_IDX_LO).key 1 0]

/-- R60, R794 to R797, R710: a service frame is answered with data, CRC and STATUS, and applies nothing when it is malformed, damaged, not permitted or
cut off; the test port selects its register by the instruction, opens debug for a token that verifies, accesses a register, dumps and captures where the
lifecycle or an open debug session allows it, and selects BYPASS where it does not. -/
def Obligations.ServiceAndTestPortsAnswer : Prop :=
  ∀ (s : State) (ad : BitVec 24) (ch : BitVec 16) (nw b7 op : BitVec 8) (ws : List (BitVec 32)) (w : BitVec 32) (crc : BitVec 16) (cl : Bool) (b : List Byte)
    (wo : BitVec 22) (v : List Bool),
    (s.on F.BOOT_STAT_READY = false → s.on F.BOOT_STAT_STUCK = false → (Does (.svcRead ad ch nw b7) s fun t => t = s) ∧
      (Does (.svcWrite op ad ch b7 ws crc cl) s fun t => t = s)) ∧
    (s.on F.BOOT_STAT_READY = true ∨ s.on F.BOOT_STAT_STUCK = true →
      (nw.toNat = 0 ∨ 64 < nw.toNat → Does (.svcRead ad ch nw b7) s fun t => t = s.emit (.spi [4])) ∧
      (svcPage (ad.toNat / 0x10000) = true → Does (.svcRead ad 0xFFFF 1 b7) s fun t => t = s.emit (.spi (natLe 4 (s.readReg 1 (ad.toNat / 4 * 4)) ++
        natBe 2 (crcOf crc16 (natBe 1 0x0B ++ natBe 3 ad.toNat ++ natBe 2 0xFFFF ++ natBe 1 1 ++ natBe 1 b7.toNat ++ natLe 4 (s.readReg 1 (ad.toNat / 4 * 4)))) ++ [0]))) ∧
      (op ≠ 2 ∨ ws = [] ∨ 64 < ws.length → Does (.svcWrite op ad ch b7 ws crc cl) s fun t => t = s.emit (.spi [4])) ∧
      (crcOf crc16 (natBe 1 2 ++ natBe 3 ad.toNat ++ natBe 2 0xFFFF ++ natBe 1 1 ++ natBe 1 b7.toNat ++ natLe 4 w.toNat) ≠ crc.toNat →
        Does (.svcWrite 2 ad 0xFFFF b7 [w] crc cl) s fun t => t = s.emit (.spi [1])) ∧
      (crcOf crc16 (natBe 1 2 ++ natBe 3 ad.toNat ++ natBe 2 0xFFFF ++ natBe 1 1 ++ natBe 1 b7.toNat ++ natLe 4 w.toNat) = crc.toNat →
        (mayWrite 1 (ad.toNat / 4 * 4) = false → Does (.svcWrite 2 ad 0xFFFF b7 [w] crc cl) s fun t => t.out.head? = some (.spi [2]) ∧ t.flt S.GLB_ACCESS = true) ∧
        (mayWrite 1 (ad.toNat / 4 * 4) = true → ad.toNat / 4 * 4 ≠ 0x190498 → Does (.svcWrite 2 ad 0xFFFF b7 [w] crc cl) s fun t =>
          t = (s.regWrite 1 (ad.toNat / 4 * 4) w.toNat []).emit (.spi [0])))) ∧
    (Does .svcFrameAbort s fun t => t = s) ∧
    (Does .idcode s fun t => t.jtag = { s.jtag with ir := 1 } ∧ t.out = .jtag 32 (s.rd F.GLB_DEVID_STEP % 16 * 2 ^ 28 + 0x064005AF) :: s.out ∧
      t = { s with jtag := t.jtag, out := t.out }) ∧
    (Does .bypass s fun t => t = { s with jtag := { s.jtag with ir := 0xFF }, out := .jtag 1 0 :: s.out }) ∧
    (s.on F.KCU_LIFE_PUFOK = false → ∀ c ∈ [Instr.challenge, .token b], Does c s fun t => t = { s with jtag := { s.jtag with ir := 0xFF }, out := .jtag 1 0 :: s.out }) ∧
    (s.on F.KCU_LIFE_PUFOK = true →
      (Does .challenge s fun t => t.jtag.ir = 0x20 ∧ t.otp = s.otp ∧ (s.noDraws = false → t.regs = s.regs ∧ ∃ n, t.kcu.nonce = some n ∧
        n.2 = s.cyc ∧ t.out = .jtag 320 (s.otp.serial % 2 ^ 64 + 2 ^ 64 * n.1) :: s.out) ∧
        (s.noDraws = true → t.kcu.nonce = none ∧ t.regs = s.regs)) ∧
      (s.on F.KCU_LIFE_DBGOPEN = false → s.Shape → Does (.token b) s fun t =>
        if s.otp.life ≠ 3 ∧ s.tokenOk b = true
        then t.rd F.KCU_LIFE_DBGOPEN = 1 ∧ t.kcu.scope = le 5 1 b ∧ t.kcu.ks = 0 ∧ t.flt S.KCU_DBG_OPEN = true
        else t.rd F.KCU_LIFE_DBGOPEN = 0 ∧ t.flt S.KCU_DBG_BAD = true ∧ t.kcu = s.kcu)) ∧
    (s.debugMay false = true →
      (Does (.regacc wo false w) s fun t => t.jtag = { s.jtag with ir := 0x30, data := s.readReg 2 (4 * wo.toNat), done := true, refused := false } ∧
        t.out = .jtag 64 (s.jtag.data * 2 ^ 32 + 2 * b2n s.jtag.refused + b2n s.jtag.done) :: s.out ∧ t = { s with jtag := t.jtag, out := t.out }) ∧
      (Does (.regacc wo true w) s fun t => t.jtag.ir = 0x30 ∧ t.jtag.done = true ∧ t.jtag.refused = !mayWrite 2 (4 * wo.toNat) ∧
        (mayWrite 2 (4 * wo.toNat) = false → t.flt S.GLB_ACCESS = true))) ∧
    (s.debugMay false = false → Does (.regacc wo cl w) s fun t => t = { s with jtag := { s.jtag with ir := 0xFF }, out := .jtag 1 0 :: s.out }) ∧
    (s.debugMay true = true → Does .scandump s fun t => t.jtag = { s.jtag with ir := 0x40 } ∧ t.out.drop 1 = s.out ∧
      t = { s with jtag := t.jtag, out := t.out, freeCtr := s.freeCtr + 1 }) ∧
    (Does (.samplePreload v) s fun t => t.jtag = { s.jtag with ir := 2, cells := v } ∧ t.out.drop 1 = s.out ∧
      t = { s with jtag := t.jtag, out := t.out, freeCtr := s.freeCtr + 1 }) ∧
    (s.otp.life ≤ 1 → Does (.extest v) s fun t => t.jtag = { s.jtag with ir := 0, cells := v } ∧ t.out.drop 1 = s.out ∧
      t = { s with jtag := t.jtag, out := t.out, freeCtr := s.freeCtr + 1 }) ∧
    (1 < s.otp.life → Does (.extest v) s fun t => t = { s with jtag := { s.jtag with ir := 0xFF }, out := .jtag 1 0 :: s.out })

/-! ### The machine as a whole -/

/-- Every command is one step: with a command at the front of the queue a step is that command on the state with the queue's rest. With nothing waiting one
fabric cycle passes (the model's choice, log entry 1). -/
def Obligations.StepRunsTheFrontCommand : Prop :=  ∀ (s : State) (c : Instr), step { s with pending := c :: s.pending } = exec c s ∧ (s.pending = [] → step s = .next (s.advance 1))

/-- No command stops the block: each answers a next state and leaves the queue as it is, so that no step of any run, from any state, stops. What a command may
not do it answers by a fault report of the spec (R523), by ACCESS, or by no effect. -/
def Obligations.EveryCommandCompletes : Prop :=  (∀ (c : Instr) (s : State), ∃ t, exec c s = .next t ∧ t.pending = s.pending) ∧ ∀ s : State, s.Safe

/-- R14, R54, R56, R71, R524, R531, R684, R751: the reset state meets what every step keeps; the fatal latch is set, the safe levels stand, the time is 0, and
nothing has been sent. -/
def Obligations.ResetMeetsTheInvariants : Prop :=
  State.reset.Canon ∧ State.reset.Shape ∧ State.reset.LevelsOk ∧ State.reset.Sized ∧ State.reset.fatal = true ∧ State.reset.balls = Balls.reset ∧
  State.reset.tbu = 0 ∧ State.reset.cyc = 0 ∧ State.reset.out = [] ∧ State.reset.pending = []

/-- The register store keeps its canonical form: equal contents stay equal data. -/
def Obligations.StepKeepsTheStoreCanonical : Prop := ∀ s t : State, s.Canon → Steps s t → t.Canon

/-- The numbers of joints, ports, streams, contexts, queues, engines, inputs, outputs, entries, units, rings, sessions and slots stay as the spec fixes them
(R2, R286, R423, R489, R604, R611, R699). -/
def Obligations.StepKeepsTheShape : Prop := ∀ s t : State, s.Shape → Steps s t → t.Shape

/-- R684, R687, R688, R696: nothing programmed into the one-time-programmable memory is ever undone, by any command or reset: hashes stay, fuses stay blown,
counters only grow. -/
def Obligations.StepNeverUndoesTheOtp : Prop := ∀ s t : State, Steps s t → s.otp.le t.otp

/-- R524, R526: the level of a source whose bit is set stays at or above its class through every step. -/
def Obligations.StepKeepsTheLevels : Prop := ∀ s t : State, s.LevelsOk → Steps s t → t.LevelsOk

/-- R547, R592, R769: the table of expected injections holds at most 32 entries, the recorder's queue at most 1,024 records, and the time stays below 2^48 s,
through every step; and what has left the companion stays sent. -/
def Obligations.StepKeepsTablesWithinTheirSizes : Prop :=  ∀ s t : State, s.Sized → Steps s t → t.Sized ∧ ∃ new, t.out = new ++ s.out
end

