-- ==== Sys2Proof/Laws/Store.lean ====
section
/-!
SUPPORT. The register store: what a read gives after a write, and that every write keeps the canonical form.
-/
namespace Sys2Proof.Machine

/-! ### Bit fields -/

/-- A field cut from a word lies below the field's bound. -/
theorem bits_lt (hi lo v : Nat) : bits hi lo v < 2 ^ (hi + 1 - lo) :=
  Nat.mod_lt _ (Nat.two_pow_pos _)

/-- Bit `i` of a field is bit `i + lo` of the word. -/
theorem bits_testBit (hi lo v i : Nat) :
    (bits hi lo v).testBit i = (decide (i < hi + 1 - lo) && v.testBit (lo + i)) := by
  simp [bits, Nat.testBit_mod_two_pow, Nat.testBit_div_two_pow, Nat.add_comm]

/-- Replacing a field changes the bits of that field and no others. -/
theorem setBits_testBit {hi lo : Nat} (h : lo ≤ hi) (x v i : Nat) :
    (setBits hi lo x v).testBit i = if lo ≤ i ∧ i ≤ hi then x.testBit (i - lo) else v.testBit i := by
  have e : setBits hi lo x v =
      2 ^ (hi + 1) * (v / 2 ^ (hi + 1)) + (2 ^ lo * (x % 2 ^ (hi + 1 - lo)) + v % 2 ^ lo) := by
    unfold setBits; rw [Nat.mul_comm (2 ^ (hi + 1)), Nat.mul_comm (2 ^ lo)]; omega
  have l1 : v % 2 ^ lo < 2 ^ lo := Nat.mod_lt _ (Nat.two_pow_pos _)
  have l2 : x % 2 ^ (hi + 1 - lo) < 2 ^ (hi + 1 - lo) := Nat.mod_lt _ (Nat.two_pow_pos _)
  have l3 : 2 ^ lo * (x % 2 ^ (hi + 1 - lo)) + v % 2 ^ lo < 2 ^ (hi + 1) := by
    have : 2 ^ (hi + 1) = 2 ^ lo * 2 ^ (hi + 1 - lo) := by rw [← Nat.pow_add]; congr 1; omega
    rw [this]
    calc _ < 2 ^ lo * (x % 2 ^ (hi + 1 - lo)) + 2 ^ lo := by omega
      _ = 2 ^ lo * (x % 2 ^ (hi + 1 - lo) + 1) := by rw [Nat.mul_add, Nat.mul_one]
      _ ≤ _ := Nat.mul_le_mul_left _ l2
  rw [e, Nat.testBit_two_pow_mul_add _ l3, Nat.testBit_two_pow_mul_add _ l1]
  simp only [Nat.testBit_mod_two_pow, Nat.testBit_div_two_pow]
  by_cases a : i < hi + 1
  · by_cases b : i < lo
    · rw [if_pos a, if_pos b, if_neg (by omega)]; simp [b]
    · rw [if_pos a, if_neg b, if_pos (by omega)]; simp; omega
  · rw [if_neg a, if_neg (by omega)]; congr 1; omega

/-- A field reads back what was put into it, cut to its width. -/
theorem bits_setBits_same {hi lo : Nat} (h : lo ≤ hi) (x v : Nat) :
    bits hi lo (setBits hi lo x v) = x % 2 ^ (hi + 1 - lo) := by
  apply Nat.eq_of_testBit_eq
  intro i
  rw [bits_testBit, setBits_testBit h, Nat.testBit_mod_two_pow]
  by_cases a : i < hi + 1 - lo
  · rw [if_pos (by omega)]; simp [a]
  · simp [a]

/-- A field keeps its value when a field beside it is replaced. -/
theorem bits_setBits_other {hi lo hi' lo' : Nat} (h : lo ≤ hi) (d : hi' < lo ∨ hi < lo') (x v : Nat) :
    bits hi' lo' (setBits hi lo x v) = bits hi' lo' v := by
  apply Nat.eq_of_testBit_eq
  intro i
  rw [bits_testBit, bits_testBit, setBits_testBit h]
  by_cases a : i < hi' + 1 - lo'
  · rw [if_neg (by omega)]
  · simp [a]

/-- A register word stays a register word when a field of it is replaced. -/
theorem setBits_lt {hi lo : Nat} (h : lo ≤ hi) (hw : hi < 32) {v : Nat} (hv : v < 2 ^ 32) (x : Nat) :
    setBits hi lo x v < 2 ^ 32 := by
  apply Nat.lt_pow_two_of_testBit
  intro i hi'
  rw [setBits_testBit h, if_neg (by omega)]
  exact Nat.testBit_lt_two_pow (Nat.lt_of_lt_of_le hv (Nat.pow_le_pow_right (by decide) hi'))

/-! ### The store -/

theorem Store.look_filter_ne (m : List (Nat × Word)) (i j : Nat) :
    Store.look (m.filter fun e => e.1 != i) j = if j = i then 0 else Store.look m j := by
  induction m with
  | nil => simp [Store.look]
  | cons e m ih =>
    obtain ⟨k, v⟩ := e
    by_cases h : k = i
    · subst h
      simp only [List.filter_cons, bne_self_eq_false, Bool.false_eq_true, if_false, ih, Store.look]
      by_cases h' : j = k <;> simp [h']
    · rw [List.filter_cons_of_pos (by simpa using h)]
      simp only [Store.look, ih]
      by_cases h' : j = k
      · subst h'; simp [h]
      · simp [h']

theorem Store.look_ins (m : List (Nat × Word)) (i j : Nat) (w : Word) (hm : ∀ e ∈ m, e.1 ≠ i) :
    Store.look (Store.ins m i w) j = if j = i then w else Store.look m j := by
  induction m with
  | nil => simp [Store.ins, Store.look]
  | cons e m ih =>
    obtain ⟨k, v⟩ := e
    have hk : k ≠ i := hm (k, v) (by simp)
    have ih := ih fun e he => hm e (by simp [he])
    unfold Store.ins
    split
    · simp [Store.look]
    · simp only [Store.look, ih]
      by_cases h' : j = k
      · subst h'; simp [hk]
      · simp [h']

/-- A key reads the difference last put there; every other key reads as before. -/
@[simp] theorem Store.look_put (m : List (Nat × Word)) (i j : Nat) (w : Word) :
    Store.look (Store.put m i w) j = if j = i then w else Store.look m j := by
  unfold Store.put
  split
  · next h => rw [Store.look_filter_ne, h]
  · have hm : ∀ e ∈ m.filter (fun e => e.1 != i), e.1 ≠ i := by
      intro e he; simpa using (List.mem_filter.mp he).2
    rw [Store.look_ins _ _ _ _ hm, Store.look_filter_ne]
    by_cases h' : j = i <;> simp [h']

theorem Store.wfFrom_mono {m : List (Nat × Word)} {a b : Nat} (h : a ≤ b) :
    Store.wfFrom b m = true → Store.wfFrom a m = true := by
  cases m with
  | nil => simp [Store.wfFrom]
  | cons e m =>
    obtain ⟨k, v⟩ := e
    simp only [Store.wfFrom, Bool.and_eq_true, decide_eq_true_eq]
    rintro ⟨⟨h1, h2⟩, h3⟩
    exact ⟨⟨by omega, h2⟩, h3⟩

theorem Store.wfFrom_filter (p : Nat × Word → Bool) {m : List (Nat × Word)} :
    ∀ {lo : Nat}, Store.wfFrom lo m = true → Store.wfFrom lo (m.filter p) = true := by
  induction m with
  | nil => intro lo h; simpa using h
  | cons e m ih =>
    obtain ⟨k, v⟩ := e
    intro lo h
    simp only [Store.wfFrom, Bool.and_eq_true, decide_eq_true_eq] at h
    by_cases hp : p (k, v) = true
    · rw [List.filter_cons_of_pos hp]
      simp only [Store.wfFrom, Bool.and_eq_true, decide_eq_true_eq]
      exact ⟨h.1, ih h.2⟩
    · rw [List.filter_cons_of_neg hp]
      exact Store.wfFrom_mono (by omega) (ih h.2)

theorem Store.wfFrom_ins {m : List (Nat × Word)} {i : Nat} {w : Word} (hw : w ≠ 0) :
    ∀ {lo : Nat}, lo ≤ i → (∀ e ∈ m, e.1 ≠ i) → Store.wfFrom lo m = true → Store.wfFrom lo (Store.ins m i w) = true := by
  induction m with
  | nil => intro lo h _ _; simpa [Store.ins, Store.wfFrom, h] using hw
  | cons e m ih =>
    obtain ⟨k, v⟩ := e
    intro lo hlo hm h
    have hk : k ≠ i := hm (k, v) (by simp)
    unfold Store.ins
    simp only [Store.wfFrom, Bool.and_eq_true, decide_eq_true_eq] at h
    split
    · next hik =>
      simp only [Store.wfFrom, Bool.and_eq_true, decide_eq_true_eq]
      exact ⟨⟨hlo, hw⟩, ⟨by omega, h.1.2⟩, h.2⟩
    · next hik =>
      simp only [Store.wfFrom, Bool.and_eq_true, decide_eq_true_eq]
      exact ⟨h.1, ih (by omega) (fun e he => hm e (by simp [he])) h.2⟩

/-- Every write keeps the canonical form. -/
theorem Store.wf_put {m : List (Nat × Word)} (h : Store.wf m = true) (i : Nat) (w : Word) :
    Store.wf (Store.put m i w) = true := by
  unfold Store.put Store.wf
  split
  · exact Store.wfFrom_filter _ h
  · next hw =>
    refine Store.wfFrom_ins hw (Nat.zero_le _) ?_ (Store.wfFrom_filter _ h)
    intro e he; simpa using (List.mem_filter.mp he).2

/-- Dropping entries keeps the canonical form. -/
theorem Store.wf_filter {m : List (Nat × Word)} (h : Store.wf m = true) (p : Nat × Word → Bool) :
    Store.wf (m.filter p) = true := Store.wfFrom_filter p h

/-! ### Registers and fields -/

/-- A register word has 32 bits. -/
theorem word_lt (s : State) (r : Reg) (a b : Nat) : s.word r a b < 2 ^ 32 := BitVec.isLt _

/-- A register reads the word last written to it. -/
theorem word_setWord_same (s : State) (r : Reg) (v a b : Nat) : (s.setWord r v a b).word r a b = v % 2 ^ 32 := by
  simp [State.word, State.setWord, BitVec.xor_assoc]

/-- A write leaves every register with another key as it was. -/
theorem word_setWord_other (s : State) {r r' : Reg} {a b a' b' : Nat} (h : r'.key a' b' ≠ r.key a b) (v : Nat) :
    (s.setWord r v a b).word r' a' b' = s.word r' a' b' := by
  simp [State.word, State.setWord, h]

/-- A field reads back what was written to it, cut to its width. -/
theorem rd_wr_same (s : State) {f : Fld} (h : f.lo ≤ f.hi) (hw : f.hi < 32) (v a b : Nat) :
    (s.wr f v a b).rd f a b = v % 2 ^ (f.hi + 1 - f.lo) := by
  unfold State.rd State.wr
  rw [word_setWord_same, Nat.mod_eq_of_lt (setBits_lt h hw (word_lt s _ _ _) v), bits_setBits_same h]

/-- Another field of the written register keeps its value. -/
theorem rd_wr_beside (s : State) {f g : Fld} (h : f.lo ≤ f.hi) (hw : f.hi < 32) (e : g.reg = f.reg)
    (d : g.hi < f.lo ∨ f.hi < g.lo) (v a b : Nat) : (s.wr f v a b).rd g a b = s.rd g a b := by
  unfold State.rd State.wr
  rw [e, word_setWord_same, Nat.mod_eq_of_lt (setBits_lt h hw (word_lt s _ _ _) v), bits_setBits_other h d]

/-- A field of a register with another key keeps its value. -/
theorem rd_wr_other (s : State) {f g : Fld} {a b a' b' : Nat} (h : g.reg.key a' b' ≠ f.reg.key a b) (v : Nat) :
    (s.wr f v a b).rd g a' b' = s.rd g a' b' := by
  unfold State.rd State.wr; rw [word_setWord_other _ h]

/-- A field reads the bits of the word its register was written with. -/
theorem rd_setWord_same (s : State) (f : Fld) (v a b : Nat) :
    (s.setWord f.reg v a b).rd f a b = bits f.hi f.lo (v % 2 ^ 32) := by
  unfold State.rd; rw [word_setWord_same]

/-- A field of another register keeps its value when a register is written. -/
theorem rd_setWord_other (s : State) {f : Fld} {r : Reg} {a b a' b' : Nat} (h : f.reg.key a' b' ≠ r.key a b) (v : Nat) :
    (s.setWord r v a b).rd f a' b' = s.rd f a' b' := by
  unfold State.rd; rw [word_setWord_other _ h]

/-- A register of another key keeps its word when a field is written. -/
theorem word_wr_other (s : State) {f : Fld} {r : Reg} {a b a' b' : Nat} (h : r.key a' b' ≠ f.reg.key a b) (v : Nat) :
    (s.wr f v a b).word r a' b' = s.word r a' b' := by
  unfold State.wr; rw [word_setWord_other _ h]

/-- Every register write keeps the store canonical. -/
theorem canon_setWord {s : State} (h : Store.wf s.regs = true) (r : Reg) (v a b : Nat) :
    Store.wf (s.setWord r v a b).regs = true := Store.wf_put h _ _

end Sys2Proof.Machine
end

