-- ==== Sys2Proof/Laws/State.lean ====
section
/-!
SUPPORT. What each of the shared updates of Machine/Ops.lean leaves unchanged, field by field.
-/
namespace Sys2Proof.Machine

/-! ### A register takes a word -/

@[simp] theorem setWord_pending (s : State) (r : Reg) (v a b : Nat) : (s.setWord r v a b).pending = s.pending := rfl
@[simp] theorem setWord_out (s : State) (r : Reg) (v a b : Nat) : (s.setWord r v a b).out = s.out := rfl
@[simp] theorem setWord_freeCtr (s : State) (r : Reg) (v a b : Nat) : (s.setWord r v a b).freeCtr = s.freeCtr := rfl
@[simp] theorem setWord_tbu (s : State) (r : Reg) (v a b : Nat) : (s.setWord r v a b).tbu = s.tbu := rfl
@[simp] theorem setWord_cyc (s : State) (r : Reg) (v a b : Nat) : (s.setWord r v a b).cyc = s.cyc := rfl
@[simp] theorem setWord_txn (s : State) (r : Reg) (v a b : Nat) : (s.setWord r v a b).txn = s.txn := rfl
@[simp] theorem setWord_before (s : State) (r : Reg) (v a b : Nat) : (s.setWord r v a b).before = s.before := rfl
@[simp] theorem setWord_inj (s : State) (r : Reg) (v a b : Nat) : (s.setWord r v a b).inj = s.inj := rfl
@[simp] theorem setWord_ssc (s : State) (r : Reg) (v a b : Nat) : (s.setWord r v a b).ssc = s.ssc := rfl
@[simp] theorem setWord_acb (s : State) (r : Reg) (v a b : Nat) : (s.setWord r v a b).acb = s.acb := rfl
@[simp] theorem setWord_boot (s : State) (r : Reg) (v a b : Nat) : (s.setWord r v a b).boot = s.boot := rfl
@[simp] theorem setWord_erc (s : State) (r : Reg) (v a b : Nat) : (s.setWord r v a b).erc = s.erc := rfl
@[simp] theorem setWord_host (s : State) (r : Reg) (v a b : Nat) : (s.setWord r v a b).host = s.host := rfl
@[simp] theorem setWord_balls (s : State) (r : Reg) (v a b : Nat) : (s.setWord r v a b).balls = s.balls := rfl
@[simp] theorem setWord_reed (s : State) (r : Reg) (v a b : Nat) : (s.setWord r v a b).reed = s.reed := rfl
@[simp] theorem setWord_sio (s : State) (r : Reg) (v a b : Nat) : (s.setWord r v a b).sio = s.sio := rfl
@[simp] theorem setWord_tsn (s : State) (r : Reg) (v a b : Nat) : (s.setWord r v a b).tsn = s.tsn := rfl
@[simp] theorem setWord_joints (s : State) (r : Reg) (v a b : Nat) : (s.setWord r v a b).joints = s.joints := rfl
@[simp] theorem setWord_mnt (s : State) (r : Reg) (v a b : Nat) : (s.setWord r v a b).mnt = s.mnt := rfl
@[simp] theorem setWord_taps (s : State) (r : Reg) (v a b : Nat) : (s.setWord r v a b).taps = s.taps := rfl
@[simp] theorem setWord_slots (s : State) (r : Reg) (v a b : Nat) : (s.setWord r v a b).slots = s.slots := rfl
@[simp] theorem setWord_streams (s : State) (r : Reg) (v a b : Nat) : (s.setWord r v a b).streams = s.streams := rfl
@[simp] theorem setWord_vdu (s : State) (r : Reg) (v a b : Nat) : (s.setWord r v a b).vdu = s.vdu := rfl
@[simp] theorem setWord_ctxs (s : State) (r : Reg) (v a b : Nat) : (s.setWord r v a b).ctxs = s.ctxs := rfl
@[simp] theorem setWord_pst (s : State) (r : Reg) (v a b : Nat) : (s.setWord r v a b).pst = s.pst := rfl
@[simp] theorem setWord_lqs (s : State) (r : Reg) (v a b : Nat) : (s.setWord r v a b).lqs = s.lqs := rfl
@[simp] theorem setWord_tes (s : State) (r : Reg) (v a b : Nat) : (s.setWord r v a b).tes = s.tes := rfl
@[simp] theorem setWord_sem (s : State) (r : Reg) (v a b : Nat) : (s.setWord r v a b).sem = s.sem := rfl
@[simp] theorem setWord_otp (s : State) (r : Reg) (v a b : Nat) : (s.setWord r v a b).otp = s.otp := rfl
@[simp] theorem setWord_kcu (s : State) (r : Reg) (v a b : Nat) : (s.setWord r v a b).kcu = s.kcu := rfl
@[simp] theorem setWord_clk (s : State) (r : Reg) (v a b : Nat) : (s.setWord r v a b).clk = s.clk := rfl
@[simp] theorem setWord_mna (s : State) (r : Reg) (v a b : Nat) : (s.setWord r v a b).mna = s.mna := rfl
@[simp] theorem setWord_jtag (s : State) (r : Reg) (v a b : Nat) : (s.setWord r v a b).jtag = s.jtag := rfl

/-! ### A field takes a value -/

@[simp] theorem wr_pending (s : State) (f : Fld) (v a b : Nat) : (s.wr f v a b).pending = s.pending := rfl
@[simp] theorem wr_out (s : State) (f : Fld) (v a b : Nat) : (s.wr f v a b).out = s.out := rfl
@[simp] theorem wr_freeCtr (s : State) (f : Fld) (v a b : Nat) : (s.wr f v a b).freeCtr = s.freeCtr := rfl
@[simp] theorem wr_tbu (s : State) (f : Fld) (v a b : Nat) : (s.wr f v a b).tbu = s.tbu := rfl
@[simp] theorem wr_cyc (s : State) (f : Fld) (v a b : Nat) : (s.wr f v a b).cyc = s.cyc := rfl
@[simp] theorem wr_txn (s : State) (f : Fld) (v a b : Nat) : (s.wr f v a b).txn = s.txn := rfl
@[simp] theorem wr_before (s : State) (f : Fld) (v a b : Nat) : (s.wr f v a b).before = s.before := rfl
@[simp] theorem wr_inj (s : State) (f : Fld) (v a b : Nat) : (s.wr f v a b).inj = s.inj := rfl
@[simp] theorem wr_ssc (s : State) (f : Fld) (v a b : Nat) : (s.wr f v a b).ssc = s.ssc := rfl
@[simp] theorem wr_acb (s : State) (f : Fld) (v a b : Nat) : (s.wr f v a b).acb = s.acb := rfl
@[simp] theorem wr_boot (s : State) (f : Fld) (v a b : Nat) : (s.wr f v a b).boot = s.boot := rfl
@[simp] theorem wr_erc (s : State) (f : Fld) (v a b : Nat) : (s.wr f v a b).erc = s.erc := rfl
@[simp] theorem wr_host (s : State) (f : Fld) (v a b : Nat) : (s.wr f v a b).host = s.host := rfl
@[simp] theorem wr_balls (s : State) (f : Fld) (v a b : Nat) : (s.wr f v a b).balls = s.balls := rfl
@[simp] theorem wr_reed (s : State) (f : Fld) (v a b : Nat) : (s.wr f v a b).reed = s.reed := rfl
@[simp] theorem wr_sio (s : State) (f : Fld) (v a b : Nat) : (s.wr f v a b).sio = s.sio := rfl
@[simp] theorem wr_tsn (s : State) (f : Fld) (v a b : Nat) : (s.wr f v a b).tsn = s.tsn := rfl
@[simp] theorem wr_joints (s : State) (f : Fld) (v a b : Nat) : (s.wr f v a b).joints = s.joints := rfl
@[simp] theorem wr_mnt (s : State) (f : Fld) (v a b : Nat) : (s.wr f v a b).mnt = s.mnt := rfl
@[simp] theorem wr_taps (s : State) (f : Fld) (v a b : Nat) : (s.wr f v a b).taps = s.taps := rfl
@[simp] theorem wr_slots (s : State) (f : Fld) (v a b : Nat) : (s.wr f v a b).slots = s.slots := rfl
@[simp] theorem wr_streams (s : State) (f : Fld) (v a b : Nat) : (s.wr f v a b).streams = s.streams := rfl
@[simp] theorem wr_vdu (s : State) (f : Fld) (v a b : Nat) : (s.wr f v a b).vdu = s.vdu := rfl
@[simp] theorem wr_ctxs (s : State) (f : Fld) (v a b : Nat) : (s.wr f v a b).ctxs = s.ctxs := rfl
@[simp] theorem wr_pst (s : State) (f : Fld) (v a b : Nat) : (s.wr f v a b).pst = s.pst := rfl
@[simp] theorem wr_lqs (s : State) (f : Fld) (v a b : Nat) : (s.wr f v a b).lqs = s.lqs := rfl
@[simp] theorem wr_tes (s : State) (f : Fld) (v a b : Nat) : (s.wr f v a b).tes = s.tes := rfl
@[simp] theorem wr_sem (s : State) (f : Fld) (v a b : Nat) : (s.wr f v a b).sem = s.sem := rfl
@[simp] theorem wr_otp (s : State) (f : Fld) (v a b : Nat) : (s.wr f v a b).otp = s.otp := rfl
@[simp] theorem wr_kcu (s : State) (f : Fld) (v a b : Nat) : (s.wr f v a b).kcu = s.kcu := rfl
@[simp] theorem wr_clk (s : State) (f : Fld) (v a b : Nat) : (s.wr f v a b).clk = s.clk := rfl
@[simp] theorem wr_mna (s : State) (f : Fld) (v a b : Nat) : (s.wr f v a b).mna = s.mna := rfl
@[simp] theorem wr_jtag (s : State) (f : Fld) (v a b : Nat) : (s.wr f v a b).jtag = s.jtag := rfl

/-! ### Something leaves -/

@[simp] theorem emit_regs (s : State) (o : Out) : (s.emit o).regs = s.regs := rfl
@[simp] theorem emit_pending (s : State) (o : Out) : (s.emit o).pending = s.pending := rfl
@[simp] theorem emit_freeCtr (s : State) (o : Out) : (s.emit o).freeCtr = s.freeCtr := rfl
@[simp] theorem emit_tbu (s : State) (o : Out) : (s.emit o).tbu = s.tbu := rfl
@[simp] theorem emit_cyc (s : State) (o : Out) : (s.emit o).cyc = s.cyc := rfl
@[simp] theorem emit_txn (s : State) (o : Out) : (s.emit o).txn = s.txn := rfl
@[simp] theorem emit_before (s : State) (o : Out) : (s.emit o).before = s.before := rfl
@[simp] theorem emit_inj (s : State) (o : Out) : (s.emit o).inj = s.inj := rfl
@[simp] theorem emit_ssc (s : State) (o : Out) : (s.emit o).ssc = s.ssc := rfl
@[simp] theorem emit_acb (s : State) (o : Out) : (s.emit o).acb = s.acb := rfl
@[simp] theorem emit_boot (s : State) (o : Out) : (s.emit o).boot = s.boot := rfl
@[simp] theorem emit_erc (s : State) (o : Out) : (s.emit o).erc = s.erc := rfl
@[simp] theorem emit_host (s : State) (o : Out) : (s.emit o).host = s.host := rfl
@[simp] theorem emit_balls (s : State) (o : Out) : (s.emit o).balls = s.balls := rfl
@[simp] theorem emit_reed (s : State) (o : Out) : (s.emit o).reed = s.reed := rfl
@[simp] theorem emit_sio (s : State) (o : Out) : (s.emit o).sio = s.sio := rfl
@[simp] theorem emit_tsn (s : State) (o : Out) : (s.emit o).tsn = s.tsn := rfl
@[simp] theorem emit_joints (s : State) (o : Out) : (s.emit o).joints = s.joints := rfl
@[simp] theorem emit_mnt (s : State) (o : Out) : (s.emit o).mnt = s.mnt := rfl
@[simp] theorem emit_taps (s : State) (o : Out) : (s.emit o).taps = s.taps := rfl
@[simp] theorem emit_slots (s : State) (o : Out) : (s.emit o).slots = s.slots := rfl
@[simp] theorem emit_streams (s : State) (o : Out) : (s.emit o).streams = s.streams := rfl
@[simp] theorem emit_vdu (s : State) (o : Out) : (s.emit o).vdu = s.vdu := rfl
@[simp] theorem emit_ctxs (s : State) (o : Out) : (s.emit o).ctxs = s.ctxs := rfl
@[simp] theorem emit_pst (s : State) (o : Out) : (s.emit o).pst = s.pst := rfl
@[simp] theorem emit_lqs (s : State) (o : Out) : (s.emit o).lqs = s.lqs := rfl
@[simp] theorem emit_tes (s : State) (o : Out) : (s.emit o).tes = s.tes := rfl
@[simp] theorem emit_sem (s : State) (o : Out) : (s.emit o).sem = s.sem := rfl
@[simp] theorem emit_otp (s : State) (o : Out) : (s.emit o).otp = s.otp := rfl
@[simp] theorem emit_kcu (s : State) (o : Out) : (s.emit o).kcu = s.kcu := rfl
@[simp] theorem emit_clk (s : State) (o : Out) : (s.emit o).clk = s.clk := rfl
@[simp] theorem emit_mna (s : State) (o : Out) : (s.emit o).mna = s.mna := rfl
@[simp] theorem emit_jtag (s : State) (o : Out) : (s.emit o).jtag = s.jtag := rfl
@[simp] theorem emit_out (s : State) (o : Out) : (s.emit o).out = o :: s.out := rfl

/-! ### A free value is drawn -/

@[simp] theorem drew_regs (s : State) : (s.drew).regs = s.regs := rfl
@[simp] theorem drew_pending (s : State) : (s.drew).pending = s.pending := rfl
@[simp] theorem drew_out (s : State) : (s.drew).out = s.out := rfl
@[simp] theorem drew_tbu (s : State) : (s.drew).tbu = s.tbu := rfl
@[simp] theorem drew_cyc (s : State) : (s.drew).cyc = s.cyc := rfl
@[simp] theorem drew_txn (s : State) : (s.drew).txn = s.txn := rfl
@[simp] theorem drew_before (s : State) : (s.drew).before = s.before := rfl
@[simp] theorem drew_inj (s : State) : (s.drew).inj = s.inj := rfl
@[simp] theorem drew_ssc (s : State) : (s.drew).ssc = s.ssc := rfl
@[simp] theorem drew_acb (s : State) : (s.drew).acb = s.acb := rfl
@[simp] theorem drew_boot (s : State) : (s.drew).boot = s.boot := rfl
@[simp] theorem drew_erc (s : State) : (s.drew).erc = s.erc := rfl
@[simp] theorem drew_host (s : State) : (s.drew).host = s.host := rfl
@[simp] theorem drew_balls (s : State) : (s.drew).balls = s.balls := rfl
@[simp] theorem drew_reed (s : State) : (s.drew).reed = s.reed := rfl
@[simp] theorem drew_sio (s : State) : (s.drew).sio = s.sio := rfl
@[simp] theorem drew_tsn (s : State) : (s.drew).tsn = s.tsn := rfl
@[simp] theorem drew_joints (s : State) : (s.drew).joints = s.joints := rfl
@[simp] theorem drew_mnt (s : State) : (s.drew).mnt = s.mnt := rfl
@[simp] theorem drew_taps (s : State) : (s.drew).taps = s.taps := rfl
@[simp] theorem drew_slots (s : State) : (s.drew).slots = s.slots := rfl
@[simp] theorem drew_streams (s : State) : (s.drew).streams = s.streams := rfl
@[simp] theorem drew_vdu (s : State) : (s.drew).vdu = s.vdu := rfl
@[simp] theorem drew_ctxs (s : State) : (s.drew).ctxs = s.ctxs := rfl
@[simp] theorem drew_pst (s : State) : (s.drew).pst = s.pst := rfl
@[simp] theorem drew_lqs (s : State) : (s.drew).lqs = s.lqs := rfl
@[simp] theorem drew_tes (s : State) : (s.drew).tes = s.tes := rfl
@[simp] theorem drew_sem (s : State) : (s.drew).sem = s.sem := rfl
@[simp] theorem drew_otp (s : State) : (s.drew).otp = s.otp := rfl
@[simp] theorem drew_kcu (s : State) : (s.drew).kcu = s.kcu := rfl
@[simp] theorem drew_clk (s : State) : (s.drew).clk = s.clk := rfl
@[simp] theorem drew_mna (s : State) : (s.drew).mna = s.mna := rfl
@[simp] theorem drew_jtag (s : State) : (s.drew).jtag = s.jtag := rfl
@[simp] theorem drew_freeCtr (s : State) : s.drew.freeCtr = s.freeCtr + 1 := rfl

/-! ### Time passes -/

@[simp] theorem advance_regs (s : State) (k : Nat) : (s.advance k).regs = s.regs := rfl
@[simp] theorem advance_pending (s : State) (k : Nat) : (s.advance k).pending = s.pending := rfl
@[simp] theorem advance_out (s : State) (k : Nat) : (s.advance k).out = s.out := rfl
@[simp] theorem advance_freeCtr (s : State) (k : Nat) : (s.advance k).freeCtr = s.freeCtr := rfl
@[simp] theorem advance_txn (s : State) (k : Nat) : (s.advance k).txn = s.txn := rfl
@[simp] theorem advance_before (s : State) (k : Nat) : (s.advance k).before = s.before := rfl
@[simp] theorem advance_inj (s : State) (k : Nat) : (s.advance k).inj = s.inj := rfl
@[simp] theorem advance_ssc (s : State) (k : Nat) : (s.advance k).ssc = s.ssc := rfl
@[simp] theorem advance_acb (s : State) (k : Nat) : (s.advance k).acb = s.acb := rfl
@[simp] theorem advance_boot (s : State) (k : Nat) : (s.advance k).boot = s.boot := rfl
@[simp] theorem advance_erc (s : State) (k : Nat) : (s.advance k).erc = s.erc := rfl
@[simp] theorem advance_host (s : State) (k : Nat) : (s.advance k).host = s.host := rfl
@[simp] theorem advance_balls (s : State) (k : Nat) : (s.advance k).balls = s.balls := rfl
@[simp] theorem advance_reed (s : State) (k : Nat) : (s.advance k).reed = s.reed := rfl
@[simp] theorem advance_sio (s : State) (k : Nat) : (s.advance k).sio = s.sio := rfl
@[simp] theorem advance_tsn (s : State) (k : Nat) : (s.advance k).tsn = s.tsn := rfl
@[simp] theorem advance_joints (s : State) (k : Nat) : (s.advance k).joints = s.joints := rfl
@[simp] theorem advance_mnt (s : State) (k : Nat) : (s.advance k).mnt = s.mnt := rfl
@[simp] theorem advance_taps (s : State) (k : Nat) : (s.advance k).taps = s.taps := rfl
@[simp] theorem advance_slots (s : State) (k : Nat) : (s.advance k).slots = s.slots := rfl
@[simp] theorem advance_streams (s : State) (k : Nat) : (s.advance k).streams = s.streams := rfl
@[simp] theorem advance_vdu (s : State) (k : Nat) : (s.advance k).vdu = s.vdu := rfl
@[simp] theorem advance_ctxs (s : State) (k : Nat) : (s.advance k).ctxs = s.ctxs := rfl
@[simp] theorem advance_pst (s : State) (k : Nat) : (s.advance k).pst = s.pst := rfl
@[simp] theorem advance_lqs (s : State) (k : Nat) : (s.advance k).lqs = s.lqs := rfl
@[simp] theorem advance_tes (s : State) (k : Nat) : (s.advance k).tes = s.tes := rfl
@[simp] theorem advance_sem (s : State) (k : Nat) : (s.advance k).sem = s.sem := rfl
@[simp] theorem advance_otp (s : State) (k : Nat) : (s.advance k).otp = s.otp := rfl
@[simp] theorem advance_kcu (s : State) (k : Nat) : (s.advance k).kcu = s.kcu := rfl
@[simp] theorem advance_clk (s : State) (k : Nat) : (s.advance k).clk = s.clk := rfl
@[simp] theorem advance_mna (s : State) (k : Nat) : (s.advance k).mna = s.mna := rfl
@[simp] theorem advance_jtag (s : State) (k : Nat) : (s.advance k).jtag = s.jtag := rfl
@[simp] theorem advance_cyc (s : State) (k : Nat) : (s.advance k).cyc = s.cyc + k := rfl

/-! ### Fields read through an update that leaves the store -/

@[simp] theorem rd_emit (s : State) (o : Out) (f : Fld) (a b : Nat) : (s.emit o).rd f a b = s.rd f a b := rfl
@[simp] theorem rd_drew (s : State) (f : Fld) (a b : Nat) : s.drew.rd f a b = s.rd f a b := rfl
@[simp] theorem rd_advance (s : State) (k : Nat) (f : Fld) (a b : Nat) : (s.advance k).rd f a b = s.rd f a b := rfl
@[simp] theorem word_emit (s : State) (o : Out) (r : Reg) (a b : Nat) : (s.emit o).word r a b = s.word r a b := rfl
@[simp] theorem word_drew (s : State) (r : Reg) (a b : Nat) : s.drew.word r a b = s.word r a b := rfl
@[simp] theorem word_advance (s : State) (k : Nat) (r : Reg) (a b : Nat) : (s.advance k).word r a b = s.word r a b := rfl

/-- Time passes to a cycle, or not at all where that cycle lies in the past. -/
@[simp] theorem reachCyc_cyc (s : State) (c : Nat) : (s.reachCyc c).cyc = max s.cyc c := by
  simp only [State.reachCyc, advance_cyc]; omega

@[simp] theorem rd_reachCyc (s : State) (c : Nat) (f : Fld) (a b : Nat) : (s.reachCyc c).rd f a b = s.rd f a b := rfl
@[simp] theorem word_reachCyc (s : State) (c : Nat) (r : Reg) (a b : Nat) : (s.reachCyc c).word r a b = s.word r a b := rfl

end Sys2Proof.Machine
end

