-- ==== Sys2Proof/WellFormed.lean ====
section
/-!
DEFINITION. Which commands can arrive: the bounds that the spec puts on an event beyond the ranges its operand types hold. The machine
gives every command a meaning; a command that fails its check never arrives from a companion's surroundings.
-/
namespace Sys2Proof

/-- No element of a list stands in it twice. -/
def noRepeat : List Nat → Bool
  | [] => true
  | x :: xs => !xs.contains x && noRepeat xs

/-- A checker that can report (R65, R548): a fault source that its page implements, or one of the four further checkers of an engine's
page, of which only an injected report exists. -/
def sourceOk (p src : Nat) (inj : Bool) : Bool :=
  decide (src < Machine.nsrc p) ||
    (inj && decide (8 ≤ p) && decide (p ≤ 11) && decide (24 ≤ src) && decide (src ≤ 27))

/-- The check of each command: aligned register offsets (R55), at most 4,096 repair records (R765), a source that exists (R65), bytes inside
the 16 MiB ring (R131), eight sensors (R729), at most 255 words in a frame (R794), one to eight windows (R666), a ball of
one of the sampled groups (R492), and lists of distinct things. -/
def Instr.check : Instr → Bool
  | .powerOnReset => true
  | .wrstNAssert => true
  | .bootWrst _ => true
  | .supplyMonitorTrip _ => true
  | .coreLoss => true
  | .bootStepDone b => decide (b.repairs.length ≤ 4096)
  | .bootStepTimeout => true
  | .clrvar => true
  | .hostPerst => true
  | .pf0Flr => true
  | .pf1Flr => true
  | .d3hotEntry _ => true
  | .regWrite off _ _ _ => decide (off.toNat % 4 = 0)
  | .txnBegin => true
  | .txnCommit _ => true
  | .txnAbort => true
  | .txnOpenTimeout => true
  | .txnChecksDone images => noRepeat (images.map fun x => x.1.val)
  | .txnArmedExpiry => true
  | .txnApply => true
  | .txnApplyAcked => true
  | .applyIncomplete late => noRepeat (late.map fun p => p.val)
  | .contextEmpty _ => true
  | .glbLock => true
  | .blkRst _ => true
  | .injArm _ _ _ => true
  | .faultAck _ _ => true
  | .faultOccurrence p src _ _ _ _ inj => sourceOk p.val src.val inj
  | .injWindowExpiry _ _ _ => true
  | .injNotxn _ _ _ => true
  | .sscRel _ => true
  | .safenRb => true
  | .cicadaRb _ => true
  | .restartLineTimeout => true
  | .restartTo => true
  | .tapRingWrite _ off d _ => decide (0 < d.length) && decide (off.toNat + d.length ≤ 0x1000000)
  | .tapRingRead _ => true
  | .tapStatusWrite _ => true
  | .partTo _ => true
  | .bpLong _ => true
  | .tapLinkDown _ => true
  | .tapLinkUp _ => true
  | .tapFlr _ => true
  | .flush _ => true
  | .quiesceSet _ => true
  | .quiesceClear _ => true
  | .beginResult _ => true
  | .bankWaitTimeout _ => true
  | .endResult _ => true
  | .tensor _ => true
  | .kvAppend _ => true
  | .acc32 _ => true
  | .inputBind _ => true
  | .actionRec _ => true
  | .retract _ => true
  | .cmdBegin _ => true
  | .cmdEnd _ => true
  | .readyRec _ => true
  | .weightChunk _ => true
  | .pad _ => true
  | .tapSclr _ _ => true
  | .tapClr _ => true
  | .keyupComplete _ => true
  | .keyupTo _ => true
  | .abortKeyup _ => true
  | .rekeyAll _ => true
  | .rekeyRequest _ _ => true
  | .rekeyLate _ _ => true
  | .rekeyExpired _ _ => true
  | .matrixInstall _ _ => true
  | .pstClr => true
  | .jobStart _ => true
  | .ldp _ => true
  | .ldpLand _ _ _ => true
  | .pry _ => true
  | .dtxProj _ => true
  | .dtxSqsum _ => true
  | .dtxSum _ => true
  | .dtxDot _ => true
  | .cmpb _ => true
  | .resxAcc _ => true
  | .resxInput _ => true
  | .resxCmp _ => true
  | .elm _ => true
  | .rteSelect _ => true
  | .rteGate _ => true
  | .tokslice _ => true
  | .tokjoin _ => true
  | .envCheck _ => true
  | .envAddrow _ => true
  | .envCommit _ => true
  | .envRebuild _ => true
  | .envRecomp _ => true
  | .xfs _ => true
  | .xfc _ => true
  | .xferTo _ => true
  | .sig _ => true
  | .wai _ => true
  | .jobDone _ => true
  | .teClockGate _ => true
  | .spareHandoverDone _ => true
  | .teSelftestDone _ _ _ _ => true
  | .takeoverCopyDone _ lostQ lostSt => noRepeat (lostQ.map fun x => x.val) && noRepeat (lostSt.map fun x => x.val)
  | .teClr _ => true
  | .semSignal _ _ _ _ _ => true
  | .deadlock => true
  | .semInit _ => true
  | .semAbandon _ => true
  | .semClr => true
  | .verdictDeadline _ _ => true
  | .bindJudge _ _ => true
  | .outputGatePass _ => true
  | .cidxWrite _ _ => true
  | .ringModTimer _ => true
  | .ctxrst _ => true
  | .ctxResetApply _ => true
  | .shedEval => true
  | .shedRestore => true
  | .vduSclr _ => true
  | .vduClr => true
  | .holdReq => true
  | .handoverDone _ => true
  | .holdRelease => true
  | .splitReq => true
  | .policyStepStart _ => true
  | .policyStepDone _ => true
  | .holdStepDeadline => true
  | .holdFrameLaunch => true
  | .monitorStepStart => true
  | .monitorStepDone _ => true
  | .sarJobStart _ => true
  | .sarJobDone _ _ => true
  | .mantisSelftestStart _ => true
  | .mantisSelftestDone _ _ => true
  | .shReturn _ => true
  | .shClr _ => true
  | .mntClr => true
  | .actionJudge _ _ => true
  | .encStale _ => true
  | .atRestReached _ => true
  | .reseed _ => true
  | .aeuClr => true
  | .sioTick _ _ _ _ edges => edges.all fun x => decide (x.1.toNat < 112)
  | .filterChange _ _ _ => true
  | .discrep _ => true
  | .feedback _ => true
  | .readback _ _ _ => true
  | .testPulseStart _ => true
  | .testPulseEnd _ _ _ => true
  | .groupOn _ => true
  | .groupOff _ => true
  | .relatch _ => true
  | .btStart _ => true
  | .btAbort => true
  | .btNogrant => true
  | .btEngage => true
  | .btFbkDeadline => true
  | .btTorque => true
  | .btRelease => true
  | .btDue _ => true
  | .btOverdue _ => true
  | .dciSclr _ => true
  | .hang _ => true
  | .restartQuiesced => true
  | .restartResetLow => true
  | .restartHoldExpiry => true
  | .restartResetHigh => true
  | .readyTo => true
  | .replayDone => true
  | .replayTo => true
  | .rstRb _ => true
  | .accRun _ => true
  | .clrskip => true
  | .clrreload => true
  | .acbCclr _ => true
  | .acbClr => true
  | .tbuStep => true
  | .tbuClr => true
  | .syncLost => true
  | .ptpSync _ _ _ _ _ => true
  | .followUp _ _ _ _ => true
  | .pdelayReq _ _ => true
  | .pdelayResp _ _ _ _ => true
  | .pdelayReqSend _ => true
  | .gmSyncSend _ => true
  | .announceRx _ => true
  | .ethFrameRx _ _ _ => true
  | .ethFrameTx _ => true
  | .ltDrop _ => true
  | .gateEntryChange _ => true
  | .streamGateChange _ => true
  | .cbResetTimeout _ => true
  | .ethLinkDown _ => true
  | .ethLinkUp _ => true
  | .unblock _ => true
  | .tsnPclr _ => true
  | .tsnClr => true
  | .cvuStart _ => true
  | .cvuFinish _ => true
  | .cvuData _ _ => true
  | .cvuDatab _ _ => true
  | .cvuRun _ _ _ => true
  | .reedIdle _ => true
  | .reedNak _ => true
  | .reedReplayTimeout _ => true
  | .reedTime _ _ _ _ _ _ => true
  | .reedTimeRequest => true
  | .reedKey _ _ _ _ _ _ _ _ => true
  | .reedKeyack _ _ _ _ _ => true
  | .reedSig _ _ _ _ _ => true
  | .reedXval _ _ _ _ _ _ _ wins => decide (0 < wins.length) && decide (wins.length ≤ 8)
  | .accDown _ _ _ _ => true
  | .accUp _ _ _ _ => true
  | .auddata _ _ _ _ _ _ _ => true
  | .audres _ _ _ _ _ => true
  | .xvalExpiry => true
  | .remoteSigExpiry => true
  | .xferKeyRollover _ _ => true
  | .auditKeyRollover => true
  | .reedTrainDone _ _ _ => true
  | .reedKeyAgreed _ _ => true
  | .reedPortDown _ => true
  | .reedPclr _ => true
  | .reedClr => true
  | .loadkey _ _ => true
  | .loadendo _ _ => true
  | .revoke _ => true
  | .progslot _ _ => true
  | .arbadv _ _ => true
  | .hsStart _ => true
  | .hsResp _ _ => true
  | .hsDrop _ => true
  | .hsTimeout _ => true
  | .sessionActivate _ => true
  | .quote => true
  | .hvkeyRead => true
  | .entHealth => true
  | .drbgReady => true
  | .drbgReseed => true
  | .kcuClr => true
  | .pwrRequest _ => true
  | .p0ExitTestDone _ _ => true
  | .powerCapEval _ _ => true
  | .tempConversion ds => decide (ds.length = 8)
  | .thermalFactorStep => true
  | .thBurstEnd => true
  | .refLoss _ => true
  | .pllUnlock => true
  | .domainFreqFault _ _ => true
  | .clkClr => true
  | .mnaSlot rows => rows.all fun r => decide (r.src.val < Machine.nsrc r.page.val)
  | .scrubLate _ => true
  | .cmpLate => true
  | .rotLate _ => true
  | .mnaClr => true
  | .ercIdx _ _ => true
  | .annAppend _ _ => true
  | .annReplace _ _ => true
  | .ercClr => true
  | .memClr => true
  | .fcuClr => true
  | .clrfirst => true
  | .sscClr => true
  | .svcRead _ _ _ _ => true
  | .svcWrite _ _ _ _ data _ _ => decide (data.length ≤ 255)
  | .svcFrameAbort => true
  | .idcode => true
  | .bypass => true
  | .challenge => true
  | .token _ => true
  | .regacc _ _ _ => true
  | .scandump => true
  | .samplePreload _ => true
  | .extest _ => true
  | .resetRelease => true
  | .releaseSequenceExpiry => true
  | .hostLinkUp => true
  | .d0Entry _ => true
  | .busMasterEnable _ _ => true
  | .rowReloadDone => true
  | .recordWriteDone => true

/-- A well-formed command. -/
abbrev Instr.WellFormed (i : Instr) : Prop := i.check = true

end Sys2Proof
end

