-- ==== Sys2Proof/Tests/Slice0.lean ====
section
/-! SUPPORT. Small tests: for every statement with hypotheses, states that meet them clause by clause; the terms that WellFormed refuses; and
values that the spec gives. -/

namespace Sys2Proof.Tests
open Sys2Proof.Machine

set_option maxRecDepth 100000
set_option Elab.async false

def nostuck (s : State) := ((s.wr F.BOOT_STAT_STUCK 0).wr F.ACB_STAT_STEP 0).wr F.CLK_PWR_STATE 0
def run (k : Nat) (s : State) : State := { (nostuck s).wr F.BOOT_STAT_STEP k with boot := { s.boot with running := true, stepAt := s.cyc } }
def noF (s : State) : State := { s with regs := (((State.reset.wr F.BOOT_STAT_READY 1).wr F.SSC_RELCNT_N 7).wr F.TAP_STAT_PSTATE 2 0).regs }
def opn (s : State) : State := let s := (s.wr F.BOOT_STAT_READY 1).wr F.CLK_PWR_STATE 0; { s with host := { s.host with linkUp := true, d0 := #v[true,true,true,true] } }
def safe (s : State) : State := ((opn s).wr F.FCU_STAT_LATCH 1)
def relOk (s : State) : State := { ((safe s).setWord R.HEAD_FLT 0 2) with inj := [], ssc := { s.ssc with relKeyAt := some 7 }, balls := Balls.reset, cyc := 99}
def d3 (s : State) : State := { s with host := { s.host with d0 := #v[false,false,false,false] } }
def stB (k : Nat) (s : State) : State := (opn s).wr F.GLB_TXN_STAT_STATE k
def young (s : State) : State := { s with txn := { s.txn with openAt := s.cyc, timeoutMs := 100 } }
def md (m t : Nat) (s : State) : State := { s with txn := { s.txn with mode := m, commitNs := t, staging := [] } }
def stgE (r : Reg) (v : Nat) (a := 0) : StgEntry := ⟨r.key a 0, BitVec.ofNat 32 v, 0⟩
def stg (k : Nat) (s : State) : State := { s with txn := { s.txn with staging := ([stgE R.TSN_PCFG 0, stgE R.TE_CTRL 0, stgE R.REED_GCFG 0x1203, stgE R.REED_PCFG 1, stgE R.TAP_CTRL 0 1, stgE R.AEU_JCFG 1 3, stgE R.MNT_STPER 5, stgE R.TBU_CTRL 2, stgE R.SIO_CTRL 0, stgE R.ACB_CTRL 0, stgE R.MEM_PRJSIZE 4, stgE R.CVU_GT_CFG 0xF1 3, stgE R.SBO_CFG 7 2, stgE R.VDU_RING_CFG 1 0] : List StgEntry).drop (k % 14) |>.take (1 + k / 14) } }
def idle (s : State) : State := { (opn s).wr F.GLB_TXN_STAT_STATE 0 with slots := [] }
def opnD (s : State) : State := let s := (s.wr F.BOOT_STAT_READY 1).wr F.CLK_PWR_STATE 0; { s with host := { s.host with linkUp := true, d0 := #v[true,true,true,true] }, slots := [], taps := List.replicate 2 TapPort.reset }
def stD (k : Nat) (s : State) : State := {((opnD s).wr F.TAP_STAT_PSTATE k 0).wr F.TAP_STAT_LINKUP 1 0 with  taps := List.replicate 2 { TapPort.reset with buf := [1,2,3], lastAt := 7 } }
def sc : SiteC := ⟨5, 0, 2, 2, 9, false, 0, 0, 1, 0, 0, 0, 0, 0, 0, 0⟩
def slot : Slot := { num := 0, stream := 3, ctx := 0, resseq := 2, ctxpos := 0, ntok := 1, bank := 0, gen := 9, tfirst := 5, deadline := 20000000, dlast := none, nrec := 4, closed := false, incomplete := false, formed := false, suspended := false, noRate := false, engines := false, internal := false, fsum := 0, checks := [⟨3, 1, 5, none, 0, []⟩], issued := [3], out := [], aborted := [], failed := none, parts := [⟨some 5, 1, 0, 0, [5, 6], []⟩, ⟨some 5, 0, 0, 0, [0x3C00, 0x4000], []⟩, ⟨none, 2, 0, 0, [0x3F800000, 0x40000000], []⟩, ⟨none, 3, 0, 0, [1], []⟩], kvs := [], groups := [], sel := [], rteBad := [], binds := [], bindBad := false, bindEnd := false, acts := [], total := 9, minPpm := 0, required := 0, shedNd := 0, left := false, sarFails := [], sarToks := [] }
def plan (prog : List Nat := []) : Plan where
  hash := 7
  slot := 0
  rollback := 0
  imglen := 0
  sites := [sc, { sc with site := 6, stype := 2 }, {sc with site := 7 }]
  mats := [⟨5, 1, false, false, false, 2, 2, 0, 2⟩]
  manifest := [0, 0]
  prog := prog
  streams := [{ StreamC.none with semBanks := 2 }]
  shed := []
  lu := [(5, 10)]
  graph := { tensors := [⟨0, 2, 9, false⟩, ⟨1, 2, 2, false⟩, ⟨2, 2, 10, false⟩, ⟨3, 1, 1, false⟩], ports := [(5, 0, 0), (5, 1, 1), (6, 2, 2)],
             opnds := [(5, [0, 1, 2, 3])], attn := [⟨5, 0, 1, 1, 1, 0, 5, 0, 0, 0, 1, false⟩], routers := [⟨5, 2, 2, 1, false, 5, [[], []]⟩], inputs := [], retained := [] }
  groups := []
  queues := [⟨1, 3, 0, false⟩]
  sem := ⟨2, 1, [], [], [], [], [], [], []⟩
  modelId := []
  build := 0
  tok := [⟨5, false, 0, 0⟩]
  xfer := []
  binds := []
  bindKey := 0
  const := []
def base (x : Stream) (rs : List HeldRec) (slots : List Slot) (prog : List Nat := []) (s : State) : State :=
  let s := { s with streams := updAt (fun _ => x) 3 (List.replicate 64 Stream.reset), slots := slots,
                    taps := (List.replicate 2 { TapPort.reset with recs := rs }),
                    ctxs := updAt (fun _ => { PlanCtx.reset with plan := some (plan prog), lqs := [3], pwbase := 2, mats := [⟨5, [⟨0, false, 9, 0, [⟨1,0⟩,⟨2,0⟩], [⟨0,0⟩,⟨0,0⟩], [⟨0,0⟩,⟨0,0⟩], [1,2], [3,4], 0, 0⟩,⟨0, true, 9, 0, [⟨1,0⟩,⟨2,0⟩], [⟨0,0⟩,⟨0,0⟩], [⟨0,0⟩,⟨0,0⟩], [1,2], [3,4], 0, 0⟩], 0, false, false, true, [], [], [], false, false, false⟩] }) 0 (List.replicate 16 PlanCtx.reset) }
  { s with tbu := 60 * nsU }
def hrec (typ stm recseq resseq site token hinfo : Nat) (pl : List Byte) : HeldRec :=
  { raw := natLe 1 typ ++ natLe 1 1 ++ natLe 1 stm ++ natLe 1 0 ++ natLe 4 64 ++ natLe 4 recseq ++ natLe 8 resseq ++ natLe 2 site ++
      natLe 2 token ++ natLe 4 pl.length ++ natLe 4 hinfo ++ pl,
    off := 0, stamp := 50, arrival := 0, at_ := 5, done := false, bad := false, gap := false }
def bs : List HeldRec := [hrec 1 3 0 3 0 0 0 (natLe 4 0 ++ natLe 2 1 ++ natLe 2 0 ++ natLe 4 0 ++ natLe 12 0)]
def strm : Stream := { Stream.reset with admitted := true, ctx := 0, c := { StreamC.none with semBanks := 2 }, bucket := 4000000000 }
def job : Job := ⟨0, 0, 3, 2, 5, 0, 0, false, false, 0, 3, 0, true, false, false, false, 0, 0, 0, 0, 0, 0, none, 0, 0, 0, false, false, false, false⟩
def bind0 : List Byte := natLe 2 3 ++ natLe 1 1 ++ natLe 1 0 ++ natLe 4 8 ++ natLe 8 9 ++ natLe 16 10
def rsD : List HeldRec := [hrec 2 3 1 2 0 0 0 (natLe 8 4), hrec 3 3 1 2 5 1 9 (natLe 4 0 ++ natLe 4 2 ++ natLe 2 77), hrec 5 3 1 2 6 0 0 (natLe 4 0 ++ natLe 4 2 ++ natLe 8 77),
  hrec 4 3 1 2 5 0 0 (natLe 8 0), hrec 6 3 1 2 0 0 1 bind0, hrec 7 3 1 2 0 0 1 (natLe 8 77 ++ natLe 4 3 ++ natLe 4 500), hrec 8 3 1 2 0 0 0 [], hrec 9 3 1 0 0 0 5 [], hrec 9 3 1 0 0 0 3 [], hrec 10 3 1 0 0 0 3 [], hrec 0x10 64 1 0 0 0 0 (natLe 4 0 ++ natLe 4 1 ++ natLe 8 0 ++ natLe 48 0), hrec 0x1F 64 1 0 0 0 0 (natLe 8 0), hrec 0x11 64 1 0 5 0 0x200 (natLe 4 0 ++ natLe 4 0 ++ natLe 4 1 ++ natLe 4 0 ++ natLe 2 77)]
def strmOpen : Stream := { strm with kv := [⟨5, 0, [5, 6], [], false⟩, ⟨5, 1, [7, 9], [], false⟩, ⟨5, 2, [7, 9], [], true⟩], pend := [(0, 2)], open_ := some 2, last := some 2, maxUsed := some 2 }
def enD (s : State) : State := ((opnD s).wr F.ACB_CTRL_EN 1)
def with1 (k : Nat) (f : State → State) (s : State) : State := f (base strm [rsD.getD k (hrec 0 0 0 0 0 0 0 [])] [] [] (enD s))
def cmd (xs : List (Nat × Nat)) : Nat := xs.foldl (fun a x => a + x.2 * 2 ^ x.1) 0
def c_xfs : Nat := cmd [(0, 9), (24, 0), (60, 2), (80, 65535)]
def run_ (prog : List Nat) (j : Job) (s : State) : State :=
  let s := base strmOpen [] [slot] prog s
  let s := { s with lqs := updAt (fun _ => { LQ.reset with ctx := some (0, 0), eng := some 1, jobs := [j], scratch := [(0, .vec 5 0 0 0 [⟨1,0⟩,⟨2,0⟩])] }) 3 s.lqs }
  let s := { s with tes := List.replicate 4 { Te.reset with cache := [(0, (plan prog).commands)] } }
  (({ s with clk := Clk.reset } : State).wr F.CLK_PWR_STATE 0).wr F.TE_STAT_ROLE 1 1
def xp (pr : List Nat) : Plan := { plan pr with xfer := [⟨5, 1, 7, 4, true, [(0, 7)], [], []⟩] }
def xr (pr : List Nat) (f : State → State) (s : State) : State := let s := run_ pr job s; let s := s.updCtx 0 fun x => { x with plan := some (xp pr) }; f { s with reed := Reed.reset }
def c_xfc : Nat := cmd [(0, 10), (24, 0), (60, 2), (80, 65535)]
def rl (a b : Nat) (f : State → State) (s : State) : State := let s := run_ [] job s; f ({((((s.wr F.TE_STAT_ROLE a 1).wr F.TE_STAT_ROLE b 2).wr F.TE_STAT_ROLE 3 0).wr F.TE_STAT_ROLE 4 3) with tes := List.replicate 4 ⟨some 1, 0, 0, []⟩, slots := [] })
def mk : MatK := (base strm [] [] [] State.reset).mat 0 5 |>.getD (MatK.blank 5)
def ms (st : Nat) (m : MatK) (f : State → State) (s : State) : State := f (((run_ [] job s).wr F.PST_CSTAT_STATE st 0).wr F.CLK_PWR_STATE 0 |>.updCtx 0 fun x => { x with mats := [m] })
def c_ldp : Nat := cmd [(0, 1), (22, 1), (52, 2), (72, 16384), (88, 65535)]
def c_pry1 : Nat := cmd [(0, 2), (23, 1), (24, 512), (60, 2), (80, 65535)]
def sq (st : Nat) (s : State) : State := { (s.wr F.SEM_SSTAT_STATE st 7).wr F.CLK_PWR_STATE 0 with slots := [], sem := ⟨[], [], none⟩, mnt := Mantis.reset, streams := List.replicate 64 Stream.reset }
def wjob : Job := { job with cur := 0 }
def dl (s : State) : State := { (run_ [cmd [(0, 12), (8, 1), (16, 1), (32, 2)]] wjob s).updLq 3 (fun l => { l with waiting := true }) with sem := ⟨[⟨2, 3, 1⟩], [], none⟩, mnt := Mantis.reset, slots := [] }
def c_sig1 : Nat := cmd [(0, 11), (8, 1), (16, 1), (32, 7)]
def c_sig0 : Nat := cmd [(0, 11), (16, 1), (32, 7), (40, 63)]
def c_wai1 : Nat := cmd [(0, 12), (8, 1), (16, 1), (32, 2)]
def c_wai0 : Nat := cmd [(0, 12), (16, 1), (32, 5)]
def c_done : Nat := cmd [(0, 13), (16, 1), (20, 3), (36, 16383)]
def c_pry0 : Nat := cmd [(0, 2), (23, 1), (24, 0), (60, 2), (80, 65535)]
def c_prj0 : Nat := cmd [(0, 3), (8, 0), (24, 0), (40, 32768), (76, 2), (96, 65535)]
def c_sqs0 : Nat := cmd [(0, 3), (8, 1), (23, 1), (24, 0), (76, 2), (96, 65535)]
def c_sum0 : Nat := cmd [(0, 3), (8, 2), (24, 0), (76, 2), (96, 65535)]
def c_dot0 : Nat := cmd [(0, 3), (8, 3), (24, 0), (40, 512), (76, 2), (96, 65535)]
def c_cmpb : Nat := cmd [(0, 4), (80, 65535)]
def c_racc0 : Nat := cmd [(0, 5), (8, 0), (24, 0), (60, 2), (80, 65535)]
def c_rin1 : Nat := cmd [(0, 5), (8, 1), (24, 512), (60, 2), (80, 65535), (23, 1)]
def c_rcmp : Nat := cmd [(0, 5), (8, 2), (80, 65535)]
def c_elm : Nat := cmd [(0, 6), (16, 1), (32, 512), (48, 512), (64, 512), (80, 0), (97, 2), (112, 65535)]
def c_rsel : Nat := cmd [(0, 7), (8, 0), (32, 512), (48, 768), (112, 65535)]
def c_rgate : Nat := cmd [(0, 7), (8, 1), (32, 512), (48, 768), (64, 768), (112, 65535)]
def c_tsl : Nat := cmd [(0, 7), (8, 2), (20, 1), (32, 512), (64, 16384), (80, 0), (97, 2), (112, 65535)]
def c_tj : Nat := cmd [(0, 7), (8, 3), (16, 1), (32, 512), (48, 768), (64, 16384), (112, 65535)]
def c_env : Nat := cmd [(0, 8), (32, 256), (112, 65535)]
def c_adr : Nat := cmd [(0, 8), (8, 1), (80, 0), (100, 2)]
def c_com : Nat := cmd [(0, 8), (8, 2), (80, 1), (100, 1)]
def c_reb : Nat := cmd [(0, 8), (8, 3)]
def c_rec : Nat := cmd [(0, 8), (8, 4), (112,65535), (32, 0), (48, 0), (64, 16385), (80, 0), (100, 2)]
def c_rec2 : Nat := cmd [(0, 8), (8, 4), (112,65535), (30, 1), (32, 0), (48, 0), (64, 16385), (80, 5), (100, 2)]
def sl2 : Slot := { slot with checks := slot.checks ++ [⟨8, 5, 5, none, 0, []⟩, ⟨bindKey, 6, 0, none, 0, []⟩, ⟨actKey, 7, 0, none, 0, []⟩], issued := [3, 8, bindKey, actKey], binds := [⟨4, 0, 0, 0, 0, 0⟩], acts := [⟨50000, 10, [(3, 70)], false, []⟩] }
def w (s : State) : State := let s := run_ [] job s; {s with slots := [sl2], mnt := Mantis.reset, streams := updAt (fun x => {x with emitQ := [(2, none)]}) 3 s.streams}
def w2 (s : State) : State := let s := w s; {s with streams := updAt (fun x => {x with emitQ := [(2, some ⟨3, 2, 1, false, 0, 0, 0, 0, 0, 0, 0, 0, 0, 0, 0, 0⟩)]}) 3 s.streams}
def rg (s : State) : State := {(s.wr F.VDU_RING_MOD_US 100 3).wr F.VDU_RING_MOD_US 100 0 with vdu := {Vdu.reset with rings := List.replicate 8 ⟨{Ring.empty RingRec with pidx := 5, unsig := 3, unsigAt := 9}, 0, 0, 0⟩}}
def shd (s : State) : State := {s with vdu := {s.vdu with items := [(3, none, 0)], restAt := some 99}, erc := Erc.reset}
def jn (s : State) : State := let s := w s; {((s.wr F.AEU_JCFG_EN 1 3).wr F.AEU_JSTAT_ENC_OK 1 3).wr F.AEU_JCFG_STREAM 3 3 with joints := updAt (fun _ => ⟨[], some (9,9,9,9), none, 0, some (9, 9)⟩) 3 s.joints}
def im : SnImage := ⟨0, true, 0, 1000, 2, 3, 2, 16, 100, 0, [], [], [], 5⟩
def m0 : Mantis := {Mantis.reset with hold := some im, mon := some im}
def sl2JH : Slot := { slot with checks := slot.checks ++ [⟨8, 5, 5, none, 0, []⟩], issued := [3, 8]}
def b (st : Nat) (s : State) : State := let s := run_ [] job s; ({s with slots := [sl2JH], mnt := Mantis.reset} : State).wr F.MNT_STAT_PSTATE st
def mh (st : Nat) (m : Mantis) (s : State) : State := {b st s with mnt := m}
def dm (m : Mantis) : Mantis := { m with demandAt := some 9 }
def sr (f h q : Bool) : StepRun := ⟨3, [1,2], false, f, h, false, q, 50000, 0⟩
def sh1 (x : Sh) : Mantis := { Mantis.reset with shs := List.replicate 2 x }
def sjob : SarJob := ⟨3, 2, 9, 8, 1, 0, 0, false, false, none⟩
def sio (n : Nat) (s : State) : State := {s with sio := {Sio.reset with tick := n}}
def dc (f : State → Dci → Dci) (n : Nat) (s : State) : State := let s := sio n s; {s with sio := {s.sio with dci := updAt (fun d => f s {d with cfg := s.word R.DCI_CFG 3, cfgTd := s.word R.DCI_TD 3}) 3 s.sio.dci}}
def ws (l : List (Fld × Nat × Nat)) (s : State) : State := l.foldl (fun s x => s.wr x.1 x.2.2 x.2.1) s
def sb (f : State → Sbo → Sbo) (n : Nat) (s : State) : State := let s := sio n s; {s with sio := {s.sio with sbo := updAt (fun d => f s {d with cfg := s.word R.SBO_CFG 3, cfgBt := s.word R.SBO_BT 3}) 3 s.sio.sbo}}
def pl (s : State) : State := (ws [(F.SBO_STAT_STATE, 3, 1), (F.SBO_CFG_EN, 3, 1), (F.SBO_CFG_KIND, 3, 0), (F.SBO_CFG_TPEN, 3, 1), (F.SBO_STAT_BTFAILED, 3, 0), (F.SBO_STAT_OVERDUE, 3, 0), (F.SIO_BTSTAT_STATE, 0, 0), (F.CLK_STAT_PSTATE, 0, 1), (F.SIO_CTRL_EN, 0, 1), (F.SBO_CFG_GROUP, 3, 1), (F.SIO_G_CTRL_EN, 1, 1), (F.SIO_G_STAT_ONREQ, 1, 1), (F.SIO_G_CTRL_SENT, 1, 0), (F.SBO_TP_TPPER, 3, 5), (F.SBO_TP_TPW, 3, 20)] (((s.setWord R.SIO_G_DCI 0 1).setWord R.SIO_G_STR_LO 0 1).setWord R.SIO_G_STR_HI 0 1))
def fb (s : State) : State := sb (fun s d => {d with diffA := some 100, changed := 50, fLevA := s.on F.SBO_CFG_FBKPOL 3}) 1100 (ws [(F.SBO_CFG_EN, 3, 1), (F.SBO_STAT_STATE, 3, 0), (F.SIO_BTSTAT_STATE, 0, 0), (F.SBO_CFG_GROUP, 3, 1), (F.SIO_G_STAT_ONREQ, 1, 0), (F.SBO_CFG_TFB, 3, 10)] s)
def bt (st : Nat) (f : State → Bt → Bt) (n : Nat) (s : State) : State := let s := sio n (ws [(F.SIO_BTSTAT_STATE, 0, st), (F.SIO_BTSTAT_OUT, 0, 3), (F.CLK_STAT_PSTATE, 0, 1), (F.SBO_CFG_TFB, 3, 2)] s); {s with sio := {s.sio with bt := f s s.sio.bt}}
def hg (s : State) : State := {ws [(F.ACB_CCFG_EN, 2, 1)] s with acb := {s.acb with table := [⟨4,3,2,1,50⟩, ⟨5,3,2,1,50⟩]}}
def stL (n : Nat) (s : State) : State := {ws [(F.ACB_STAT_STEP, 0, n), (F.TAP_STAT_PSTATE, 0, 3),  (F.TAP_STAT_PSTATE, 1, 3)] s with ssc := {s.ssc with restartAt := some 7}, acb := {s.acb with set := {s.acb.set with attempts := 4}, admitted := [3], stepAt := 10}}
def rn (s : State) : State := base {strm with admitted := false} [] [] [] s
def up (s : State) : State := ws [(F.TSN_PCFG_EN, 3, 1), (F.TSN_PPSTAT_LINKUP, 3, 1), (F.TSN_PCFG_PTPROLE, 3, 2), (F.TSN_PPSTAT_ASCAP, 3, 1), (F.TSN_PCFG_PTPROLE, 0, 0), (F.TSN_PCFG_PTPROLE, 1, 0), (F.TSN_PCFG_PTPROLE, 2, 0)] s
def port (f : EthPort → EthPort) (s : State) : State := {s with tsn := {s.tsn with ports := updAt f 3 s.tsn.ports}}
def fre (s : State) : State := port (fun x => {x with queues := List.replicate 8 [], busyNs := 0}) (ws [(F.TSN_PCFG_GATE_EN, 3, 0), (F.TSN_PMAXLEN_BYTES, 3, 1500)] (up s))
def gm (s : State) : State := ws [(F.TSN_STAT_GMACT, 0, 1), (F.TSN_PCFG_PTPROLE, 3, 1)] (up s)
def br (s : State) : State := ws [(F.TSN_PCFG_EN, 5, 1), (F.TSN_PPSTAT_LINKUP, 5, 1), (F.SIO_BTSTAT_STATE, 0, 0), (F.TSN_PMAXLEN_BYTES, 3, 1500), (F.TSN_PCFG_PVID, 3, 1), (F.TSN_GCFG_GUARDET, 0, 0x4321)] (up {s with tsn := Tsn.reset})
def qf (f : QFrame) (s : State) : State := port (fun x => {x with queues := updAt (fun _ => [f]) 3 x.queues}) (br s)
def br2 (s : State) : State := (ws [(F.TSN_FDB_MACHI_VALID, 3, 1), (F.TSN_FDB_MACHI_VID, 3, 1), (F.TSN_FDB_FWD_SFI, 3, 255), (F.TSN_FDB_FWD_PORTS, 3, 32), (F.TSN_PTCMAP_TC 0, 5, 2), (F.TSN_PTCMAP_TC 1, 5, 2), (F.TSN_PTCMAP_TC 2, 5, 2), (F.TSN_PTCMAP_TC 3, 5, 2)] (br s)).setWord R.TSN_FDB_MACLO 0x123456 3
def br3 (s : State) : State := ((br s).setWord R.TSN_PMAC_LO 0x123456 3).setWord R.TSN_PMAC_HI 0 3
def br4 (s : State) : State := ws [(F.CVU_GT_CFG_VALID, 3, 1), (F.CVU_GT_CFG_ALG, 3, 0), (F.CVU_GT_CFG_DATA_ID, 3, 7), (F.CVU_GT_CFG_DIR, 3, 0), (F.CVU_GT_CB_TSSKEW, 3, 0), (F.CVU_GT_PORT_LEN, 3, 0), (F.CVU_GT_PORT_PORTS, 3, 8)] (br3 s)
def pt (r : RPort) (st : Nat) (s : State) : State := ws [(F.REED_PSTAT_LSTATE, 3, st), (F.REED_GCFG_DEV, 0, 9)] {s with reed := {Reed.reset with ports := List.replicate 4 r, bseq := 3}}
def fl : RFlit := ⟨0x20, 0, 1, 2, false, 5, 0, [1,2]⟩
def re : RetryE := ⟨3, fl, 40, 2⟩
def r0 : RPort := {RPort.reset with rxLast := 4, retry := [re]}
def tr (s : State) : State := ws [(F.REED_PCFG_EN, 3, 1), (F.REED_GCFG_TOPO, 0, 3), (F.REED_GCFG_NDEV, 0, 16), (F.REED_GCFG_W, 0, 4)] (pt r0 1 s)
def tm (st : Nat) (s : State) : State := let s := ws [(F.TBU_CTRL_SRC, 0, 2), (F.REED_GCFG_TUP, 0, 3)] (pt r0 st s); {s with tbu := 10 ^ 30}
def plx : Plan := { plan [] with xfer := [⟨5, 1, 7, 4, true, [(0, 6)], [], []⟩] }
def xpN (b : Bool) (s : State) : State := let s := pt r0 3 s; {s with reed := {s.reed with pend := [{ isSig := b, src := 7, xid := 1, resseq := 1, token := 5, stream := 3, arrived := 0, expires := 1000, prod := 0, kgen := 0, wins := [], sem := 2, cnt := 0 }]}}
def au (n : Nat) (s : State) : State := let s := pt r0 3 s; {s with reed := {s.reed with audits := [⟨7, 3, 1, 5, 0, n⟩]}}
def no (s : State) : State := let s := pt r0 3 s; {s with slots := [], streams := List.replicate 64 Stream.reset}
def kb : List Byte := List.replicate 2049 7
def hm (s : State) : State := {s with host := {s.host with linkUp := true, d0 := #v[true,true,true,true], bme := #v[true,true]}, out := []}
def ow (o : OwnerSlot) (s : State) : State := {hm s with otp := {Otp.blank with owners := List.replicate 4 o, life := 1}}
def eb (x : Nat) : List Byte := natLe 4 0x314E454B ++ natLe 1 3 ++ List.replicate 3 0 ++ natLe 4 x ++ List.replicate (5568-12) 9
def rb (n : Nat) : List Byte := natLe 4 0x3156524B ++ natLe 1 3 ++ natLe 1 n ++ List.replicate 10 0 ++ List.replicate (3520-16) 9
def enO : Endo := ⟨[], 0, 0⟩
def se (x : Sess) (s : State) : State := let s := hm s; {s with kcu := {s.kcu with sess := List.replicate 8 x, wait := []}}
def ok (s : State) : State := ws [(F.MNT_STAT_PSTATE, 0, 1), (F.GLB_TXN_STAT_STATE, 0, 0), (F.ACB_STAT_STEP, 0, 0)] ((List.range 16).foldl (fun s c => s.wr F.PST_CSTAT_STATE 0 c) {s with mnt := Mantis.reset})
def ck (f : Clk → Clk) (s : State) : State := {s with clk := f Clk.reset}
def tst (s : State) : State := ws [(F.TE_STAT_ROLE, 3, 3)] {ck (fun c => {c with testing := true}) s with mnt := {Mantis.reset with shs := [{Sh.reset with testing := true}, {Sh.reset with testing := true}]}}
def btP (s : State) : State := ws [(F.TE_STAT_ROLE, 3, 1), (F.BOOT_STAT_STUCK, 0, 0), (F.CLK_PWR_STATE, 0, 0), (F.TE_STAT_GATED, 3, 0)] {ck id s with boot := {s.boot with released := true}, balls := Balls.reset}
def er (f : Erc → Erc) (s : State) : State := {ws [(F.ERC_RINGCFG_EN, 0, 0)] s with erc := f Erc.reset}
def evQ : EvRec := { typ := 0x91, lvl := .u, esc := false, src := 19, n := 0, t := 6, page := 3, code := 0, chan := 0, eseq := 4, stream := 255, aux := 0, unit := 0, ref := 0, detail := [], ue := false }
def lf (n : Nat) (s : State) : State := {s with otp := {s.otp with life := n}}

/-- The conditions of a statement's hypothesis from their conjunction, which is decided at once. -/
theorem shape_of {s : State}
    (g : (s.joints.length = 64 ∧ s.taps.length = 2 ∧ s.streams.length = 64 ∧ s.ctxs.length = 16 ∧ s.lqs.length = 48 ∧ s.tes.length = 4 ∧
      s.mnt.shs.length = 2 ∧ s.reed.ports.length = 4 ∧ s.tsn.ports.length = 12 ∧ s.sio.dci.length = 32) ∧ (s.sio.sbo.length = 24 ∧
      s.tsn.guard.length = 256 ∧ s.tsn.cvu.length = 32 ∧ s.vdu.rings.length = 8 ∧ s.kcu.sess.length = 8 ∧ s.kcu.blobs.length = 4 ∧
      s.ssc.streams.length = 64) ∧ (∀ l ∈ s.lqs, l.wins.length = 8 ∧ l.flags.length = 3) ∧ s.before = none) : s.Shape :=
  let ⟨⟨a, b, c, d, e, f, k, l, m, n⟩, ⟨o, p, q, r, t, u, v⟩, w, x⟩ := g
  ⟨a, b, c, d, e, f, k, l, m, n, o, p, q, r, t, u, v, w, fun _ h => absurd (x.symm.trans h) (by simp)⟩
theorem atTurn_of {s : State} {i typ : Nat} {r : HeldRec} {sl : Slot} {p : Plan} (h : s.Shape)
    (g : i < 64 ∧ s.portOf i < 2 ∧ s.nextRec (s.portOf i) false i = some r ∧ r.typ = typ ∧ r.bad = false ∧ r.gap = false ∧
      (s.st i).open_ = some r.resseq ∧ s.slotOf i r.resseq = some sl ∧ s.planOf i = some p) : s.AtTurn i typ r sl p :=
  let ⟨a, b, c, d, e, f, k, l, m⟩ := g
  ⟨h, a, b, c, d, e, f, k, l, m⟩
theorem heads_of {s : State} {q : Nat} {j : Job} {p : Plan} {c : Cmd} (h : s.Shape)
    (g : s.headCmd q = some (j, p, c) ∧ cmdLegal (s.pagesOf q) c = true ∧ s.misfit q j p c = false) : s.Heads q j p c :=
  ⟨h, g.1, g.2.1, g.2.2⟩
theorem runs_of {s : State} {q : Nat} {j : Job} {r : Slot} {p : Plan} {c : Cmd} (h : s.Heads q j p c)
    (g : j.failed = false ∧ j.notDone = false ∧ j.purge = false ∧ s.slotOf j.stream j.resseq = some r) : s.Runs q j r p c :=
  ⟨h, g.1, g.2.1, g.2.2.1, g.2.2.2⟩
theorem pulses_of {s : State} {k : Nat}
    (g : s.rd F.SBO_STAT_STATE k = 1 ∧
      (s.on F.SBO_CFG_EN k = true ∧ s.on F.SBO_CFG_KIND k = false ∧ s.on F.SBO_CFG_TPEN k = true ∧ (s.sbo k).need = false) ∧
      (s.on F.SBO_STAT_BTFAILED k = false ∧ s.on F.SBO_STAT_OVERDUE k = false ∧ s.rd F.SIO_BTSTAT_STATE = 0 ∧ s.inP2 = false) ∧
      ((s.sbo k).diffA = none ∧ (s.sbo k).diffB = none) ∧
      (s.on F.SIO_CTRL_EN = true ∧ s.on F.SIO_G_CTRL_EN (s.rd F.SBO_CFG_GROUP k) = true ∧
        s.on F.SIO_G_STAT_ONREQ (s.rd F.SBO_CFG_GROUP k) = true) ∧
      s.word R.SIO_G_DCI (s.rd F.SBO_CFG_GROUP k) = 0 ∧ s.rd F.SIO_G_CTRL_SENT (s.rd F.SBO_CFG_GROUP k) = 0 ∧
        s.rd64 R.SIO_G_STR_LO R.SIO_G_STR_HI (s.rd F.SBO_CFG_GROUP k) = 0) : s.Pulses k :=
  ⟨g.1, g.2.1, g.2.2.1, g.2.2.2.1, g.2.2.2.2.1, g.2.2.2.2.2⟩

/-- What a witness takes from its state: the head command of a queue, the result of a job, and a stream's next record, slot and plan. -/
def headOf (s : State) (q : Nat) : Job × Plan × Cmd := (s.headCmd q).getD (job, plan, 0)
def resOf (s : State) (j : Job) : Slot := (s.slotOf j.stream j.resseq).getD slot
def recOf (s : State) (i : Nat) : HeldRec := (s.nextRec (s.portOf i) false i).getD (hrec 0 0 0 0 0 0 0 [])
def slotAt (s : State) (i : Nat) (r : HeldRec) : Slot := (s.slotOf i r.resseq).getD slot
def planAt (s : State) (i : Nat) : Plan := (s.planOf i).getD plan

/-- A power-on and a warm reset return everything to its reset value but what the spec says survives: states that meet the hypotheses of its clauses. -/
theorem test_ResetsKeepWhatSurvives :
  (∃ (s : State), s.on F.BOOT_STAT_STUCK = true) ∧
  (∃ (s : State), s.on F.BOOT_STAT_STUCK = false ∧ s.rd F.ACB_STAT_STEP = 0) :=
  ⟨⟨(fun (s : State) => s.wr F.BOOT_STAT_STUCK 1) State.reset, by decide +kernel⟩,
  ⟨nostuck State.reset, by decide +kernel⟩⟩

/-- A warm reset takes the two keys in order within 1 ms; any other write cancels the sequence: states that meet the hypotheses of its clauses. -/
theorem test_WarmResetTakesTwoKeys :
  (∃ (s : State), s.Takes 27 ∧ s.on F.BOOT_STAT_STUCK = true) ∧
  (∃ (s : State) (key : BitVec 8), s.Takes 27 ∧ s.on F.BOOT_STAT_STUCK = false ∧ key = 195) ∧
  (∃ (s : State) (key : BitVec 8) (c0 : Nat), s.Takes 27 ∧ s.on F.BOOT_STAT_STUCK = false ∧ key = 60 ∧ s.boot.wrstKeyAt = some c0 ∧
    s.cyc ≤ c0 + 800000) ∧
  (∃ (s : State) (key : BitVec 8), s.Takes 27 ∧ s.on F.BOOT_STAT_STUCK = false ∧ key ≠ 195 ∧
    (key ≠ 60 ∨ ∀ (c0 : Nat), s.boot.wrstKeyAt = some c0 → c0 + 800000 < s.cyc)) :=
  ⟨⟨(fun (s : State) => (nostuck s).wr F.BOOT_STAT_STUCK 1) State.reset, by unfold State.Takes; decide +kernel, by decide +kernel⟩,
  ⟨(fun (s : State) => { nostuck s with boot := {s.boot with wrstKeyAt := some (s.cyc - 5) }}) State.reset, (0xc3#8 : BitVec 8), by unfold State.Takes; decide +kernel, by decide +kernel⟩,
  ⟨(fun (s : State) => { nostuck s with boot := {s.boot with wrstKeyAt := some (s.cyc - 5) }}) State.reset, (0x3c#8 : BitVec 8), (0 : Nat), by unfold State.Takes; decide +kernel, by decide +kernel⟩,
  ⟨(fun (s : State) => { nostuck s with boot := {s.boot with wrstKeyAt := some (s.cyc - 5) }}) State.reset, (0x03#8 : BitVec 8), by unfold State.Takes; decide +kernel, by decide +kernel⟩⟩

/-- A boot attempt starts at the release, its steps follow in order, and a failure retries until the third sticks: states that meet the hypotheses of its clauses. -/
theorem test_BootAttemptsStartFollowAndFail :
  (∃ (s : State), s.boot.running = true ∧ s.rd F.ACB_STAT_STEP = 0 ∧ s.boot.clrvar = false ∧ s.boot.copyA.bfail < 2) ∧
  (∃ (s : State), s.boot.running = true ∧ s.rd F.ACB_STAT_STEP = 0 ∧ s.boot.clrvar = false ∧ s.boot.copyA.bfail = 2) ∧
  (∃ (s : State) (b : BootStep), s.boot.running = true ∧ b.ok = true ∧
    s.cyc ≤ s.boot.stepAt + stepMax (s.rd F.BOOT_STAT_STEP) s.boot.inForce (bootLen b.image) ∧ s.rd F.BOOT_STAT_STEP = 0) ∧
  (∃ (s : State) (b : BootStep), s.boot.running = true ∧ b.ok = true ∧
    s.cyc ≤ s.boot.stepAt + stepMax (s.rd F.BOOT_STAT_STEP) s.boot.inForce (bootLen b.image) ∧ s.rd F.BOOT_STAT_STEP = 1) ∧
  (∃ (s : State) (b : BootStep), s.boot.running = true ∧ b.ok = true ∧
    s.cyc ≤ s.boot.stepAt + stepMax (s.rd F.BOOT_STAT_STEP) s.boot.inForce (bootLen b.image) ∧ s.rd F.BOOT_STAT_STEP = 5) ∧
  (∃ (s : State) (b : BootStep), s.boot.running = true ∧ b.ok = true ∧
    s.cyc ≤ s.boot.stepAt + stepMax (s.rd F.BOOT_STAT_STEP) s.boot.inForce (bootLen b.image) ∧ s.rd F.BOOT_STAT_STEP = 7) ∧
  (∃ (s : State), s.boot.released = false ∧ s.on F.BOOT_STAT_STUCK = false ∧ s.balls.coreLoss = false) ∧
  (∃ (s : State), s.Takes 27) :=
  ⟨⟨(run 3) State.reset, by decide +kernel⟩,
  ⟨(fun (s : State) => {run 3 s with boot := { s.boot with running := true, copyA := {s.boot.copyA with bfail := 2, variant := 2} }}) State.reset, by decide +kernel⟩,
  ⟨(run 0) State.reset, ({ ok := true, copyA := false, copyB := true, image := [], repairs := [], engines := 0x03#6, detail := 0x00a5#16 } : BootStep), by decide +kernel⟩,
  ⟨(run 1) State.reset, ({ ok := true, copyA := false, copyB := true, image := [], repairs := [], engines := 0x03#6, detail := 0x0001#16 } : BootStep), by decide +kernel⟩,
  ⟨(run 5) State.reset, ({ ok := true, copyA := false, copyB := false, image := [], repairs := [], engines := 0x25#6, detail := 0x87af#16 } : BootStep), by decide +kernel⟩,
  ⟨(run 7) State.reset, ({ ok := true, copyA := false, copyB := false, image := [], repairs := [], engines := 0x0b#6, detail := 0x005a#16 } : BootStep), by decide +kernel⟩,
  ⟨nostuck State.reset, by decide +kernel⟩,
  ⟨nostuck State.reset, by unfold State.Takes; decide +kernel⟩⟩

/-- Core loss, readbacks and the restart timer force the safe state; two keys release it under every condition of the rule: states that meet the hypotheses of its clauses. -/
theorem test_SafeStateIsForcedAndReleased :
  (∃ (s : State) (c : Instr), s.balls.coreLoss = false ∧ c ∈ [Instr.coreLoss, Instr.supplyMonitorTrip 2, Instr.supplyMonitorTrip 3]) ∧
  (∃ (s : State) (c : Nat), s.LevelsOk ∧ s.ssc.restartAt = some c ∧ s.on F.SSC_STAT_RESTART = true) ∧
  (∃ (s : State) (c : Nat), s.LevelsOk ∧ (List.filterMap (fun x ↦ x.lineFall) s.ssc.streams = [c])) ∧
  (∃ (s : State) (key : BitVec 8), s.Takes 3 ∧ s.fatal = true ∧ key = 165) ∧
  (∃ (s : State) (key : BitVec 8) (c : Nat), s.Takes 3 ∧ s.fatal = true ∧ key = 90 ∧ s.ssc.relKeyAt = some c ∧ s.cyc ≤ c + 800000 ∧
    s.relCancel.relBlock = 0) ∧
  (∃ (s : State) (key : BitVec 8) (c : Nat), s.Takes 3 ∧ s.fatal = true ∧ key = 90 ∧ s.ssc.relKeyAt = some c ∧ s.cyc ≤ c + 800000 ∧
    s.relCancel.relBlock ≠ 0) ∧
  (∃ (s : State) (key : BitVec 8), s.Takes 3 ∧ s.fatal = true ∧ key ≠ 165 ∧ key ≠ 90) ∧
  (∃ (s : State), s.Takes 3 ∧ s.fatal = false) :=
  ⟨⟨State.reset, (Instr.coreLoss : Instr), by decide +kernel⟩,
  ⟨(fun (s : State) => {s.wr F.SSC_STAT_RESTART 1 with ssc := {s.ssc with restartAt := some 7, streams := updAt (fun x => { x with lineFall := some 7 }) 5 s.ssc.streams}}) State.reset, (7 : Nat), by unfold State.LevelsOk; decide +kernel, by decide +kernel⟩,
  ⟨(fun (s : State) => {s.wr F.SSC_STAT_RESTART 1 with ssc := {s.ssc with restartAt := some 7, streams := updAt (fun x => { x with lineFall := some 7 }) 5 s.ssc.streams}}) State.reset, (7 : Nat), by unfold State.LevelsOk; decide +kernel, by decide +kernel⟩,
  ⟨(fun (s : State) => { s with ssc := { s.ssc with relKeyAt := some 7 }}) State.reset, (0xa5#8 : BitVec 8), by unfold State.Takes; decide +kernel, by decide +kernel⟩,
  ⟨(fun (s : State) => relOk (noF s)) State.reset, (0x5a#8 : BitVec 8), (7 : Nat), by unfold State.Takes; decide +kernel, by decide +kernel⟩,
  ⟨(fun (s : State) => { s with ssc := { s.ssc with relKeyAt := some 7 }}) State.reset, (0x5a#8 : BitVec 8), (7 : Nat), by unfold State.Takes; decide +kernel, by decide +kernel⟩,
  ⟨State.reset, (0x03#8 : BitVec 8), by unfold State.Takes; decide +kernel, by decide +kernel⟩,
  ⟨(fun (s : State) => (opn s).wr F.FCU_STAT_LATCH 0) State.reset, by unfold State.Takes; decide +kernel, by decide +kernel⟩⟩

/-- Port and function resets and power states change the functions, not the registers, and end a transaction RESET: states that meet the hypotheses of its clauses. -/
theorem test_FunctionResetsAndPowerStates :
  (∃ (s : State), s.rd F.GLB_TXN_STAT_STATE = 0) ∧
  (∃ (s : State) (c : Instr), s.rd F.GLB_TXN_STAT_STATE = 1 ∧ s.timedOut = false ∧ c ∈ [Instr.hostPerst, Instr.pf0Flr, Instr.d3hotEntry 0]) ∧
  (∃ (s : State) (f : Fin 4), f.val = 0 ∧ s.host.d0.getD 0 true = false) ∧
  (∃ (s : State) (f : Fin 4), 2 ≤ f.val ∧ s.host.d0.getD (f.val) true = false ∧ s.rd F.TAP_STAT_PSTATE (f.val - 2) = 2) ∧
  (∃ (s : State), s.boot.released = true ∧ s.boot.running = false) ∧
  (∃ (s : State), s.host.linkUp = true ∧ s.on F.BOOT_STAT_READY = true) :=
  ⟨⟨(fun (s : State) => s.wr F.GLB_TXN_STAT_STATE 0) State.reset, by decide +kernel⟩,
  ⟨(fun (s : State) => s.wr F.GLB_TXN_STAT_STATE 1) State.reset, (Instr.hostPerst : Instr), by decide +kernel⟩,
  ⟨(fun (s : State) => ((d3 s).wr F.TAP_STAT_PSTATE 2 0).wr F.TAP_STAT_PSTATE 2 1) State.reset, (0 : Fin 4), by decide +kernel⟩,
  ⟨(fun (s : State) => ((d3 s).wr F.TAP_STAT_PSTATE 2 0).wr F.TAP_STAT_PSTATE 2 1) State.reset, (3 : Fin 4), by decide +kernel⟩,
  ⟨(fun (s : State) => {s.wr F.BOOT_STAT_READY 1 with boot := {s.boot with released := true}, host := {s.host with linkUp := true}}) State.reset, by decide +kernel⟩,
  ⟨(fun (s : State) => {s.wr F.BOOT_STAT_READY 1 with boot := {s.boot with released := true}, host := {s.host with linkUp := true}}) State.reset, by decide +kernel⟩⟩

/-- A register write acts at once, sets ACCESS or UNMAPPED, or has no effect through a closed port: states that meet the hypotheses of its clauses. -/
theorem test_PlainWritesActAtOnce :
  (∃ (s : State), s.Takes 0 ∧ s.pf0Open = true) ∧
  (∃ (s : State), s.Takes 0 ∧ s.pf0Open = false) ∧
  (∃ (s : State) (off : BitVec 26), s.pf0Open = true ∧ 1835007 < off.toNat) :=
  ⟨⟨opn State.reset, by unfold State.Takes; decide +kernel, by decide +kernel⟩,
  ⟨State.reset, by unfold State.Takes; decide +kernel, by decide +kernel⟩,
  ⟨opn State.reset, (0x2b5f12b#26 : BitVec 26), by decide +kernel⟩⟩

/-- A counting RWT write is staged or refused; a COMMIT samples its boundary and enters CHECKING or fails by cause: states that meet the hypotheses of its clauses. -/
theorem test_StagingThenCommitOrFailure :
  (∃ (s : State), s.Takes 0 ∧ s.rd F.GLB_TXN_STAT_STATE = 0) ∧
  (∃ (s : State) (ecc : Bool), s.Takes 0 ∧ s.rd F.GLB_TXN_STAT_STATE = 1 ∧ s.cyc < s.openEnd ∧ s.on F.GLB_TXN_STAT_OVF = false ∧ ecc = false ∧
    s.rd F.GLB_TXN_BOUND_MODE = 0 ∧ s.word R.GLB_TXN_TIME_NS ≤ 999999999) ∧
  (∃ (s : State), s.Takes 0 ∧ s.rd F.GLB_TXN_STAT_STATE = 1 ∧ s.cyc < s.openEnd ∧ s.on F.GLB_TXN_STAT_OVF = true) ∧
  (∃ (s : State) (ecc : Bool), s.Takes 0 ∧ s.rd F.GLB_TXN_STAT_STATE = 1 ∧ s.cyc < s.openEnd ∧ s.on F.GLB_TXN_STAT_OVF = false ∧ ecc = true) ∧
  (∃ (s : State) (ecc : Bool), s.Takes 0 ∧ s.rd F.GLB_TXN_STAT_STATE = 1 ∧ s.cyc < s.openEnd ∧ s.on F.GLB_TXN_STAT_OVF = false ∧ ecc = false ∧
    s.rd F.GLB_TXN_BOUND_MODE = 3) ∧
  (∃ (s : State) (ecc : Bool), s.Takes 0 ∧ s.rd F.GLB_TXN_STAT_STATE = 1 ∧ s.cyc < s.openEnd ∧ s.on F.GLB_TXN_STAT_OVF = false ∧ ecc = false ∧
    s.rd F.GLB_TXN_BOUND_MODE = 1 ∧ s.word R.GLB_TXN_TIME_NS ≤ 999999999 ∧ (s.st (s.rd F.GLB_TXN_BOUND_STREAM)).admitted = false) ∧
  (∃ (s : State) (v : BitVec 32), s.Takes 2 ∧ s.pf0Open = true ∧ 16 ≤ v.toNat ∧ v.toNat ≤ 1023 ∧ v.toNat ≠ s.rd F.FCU_INJWIN_CYC ∧
    s.rd F.GLB_TXN_STAT_STATE = 1 ∧ (∀ (e : StgEntry), e ∈ s.txn.staging → e.key ≠ R.FCU_INJWIN.base) ∧ s.txn.staging.length < 4096) ∧
  (∃ (s : State) (v : BitVec 32), s.Takes 2 ∧ s.pf0Open = true ∧ 16 ≤ v.toNat ∧ v.toNat ≤ 1023 ∧ v.toNat ≠ s.rd F.FCU_INJWIN_CYC ∧
    s.rd F.GLB_TXN_STAT_STATE = 0) :=
  ⟨⟨State.reset, by unfold State.Takes; decide +kernel, by decide +kernel⟩,
  ⟨(fun (s : State) => young (stB 1 s)) State.reset, (false : Bool), by unfold State.Takes; decide +kernel, by decide +kernel⟩,
  ⟨(fun (s : State) => young (((stB 1 s).wr F.GLB_TXN_STAT_OVF 1).wr F.GLB_TXN_BOUND_MODE 0)) State.reset, by unfold State.Takes; decide +kernel, by decide +kernel⟩,
  ⟨(fun (s : State) => young (((stB 1 s).wr F.GLB_TXN_STAT_OVF 0).wr F.GLB_TXN_BOUND_MODE 0)) State.reset, (true : Bool), by unfold State.Takes; decide +kernel, by decide +kernel⟩,
  ⟨(fun (s : State) => young (((stB 1 s).wr F.GLB_TXN_STAT_OVF 0).wr F.GLB_TXN_BOUND_MODE 3)) State.reset, (false : Bool), by unfold State.Takes; decide +kernel, by decide +kernel⟩,
  ⟨(fun (s : State) => young (((stB 1 s).wr F.GLB_TXN_STAT_OVF 0).wr F.GLB_TXN_BOUND_MODE 1)) State.reset, (false : Bool), by unfold State.Takes; decide +kernel, by decide +kernel⟩,
  ⟨(stB 1) State.reset, (0x0000001f#32 : BitVec 32), by unfold State.Takes; decide +kernel, by decide +kernel⟩,
  ⟨(stB 0) State.reset, (0x00000046#32 : BitVec 32), by unfold State.Takes; decide +kernel, by decide +kernel⟩⟩

/-- A BEGIN is accepted only from PF0 while IDLE, and clears staging and OVF, counts the ID and starts the timer: states that meet the hypotheses of its clauses. -/
theorem test_BeginOpensATransaction :
  (∃ (s : State), s.Takes 0 ∧ s.rd F.GLB_TXN_STAT_STATE = 0) ∧
  (∃ (s : State), s.Takes 0 ∧ s.rd F.GLB_TXN_STAT_STATE ≠ 0) :=
  ⟨⟨(stB 0) State.reset, by unfold State.Takes; decide +kernel, by decide +kernel⟩,
  ⟨(stB 1) State.reset, by unfold State.Takes; decide +kernel, by decide +kernel⟩⟩

/-- A transaction applies its entries, waits for the acknowledgement and ends with its outcome: states that meet the hypotheses of its clauses. -/
theorem test_TransactionsApplyAndEnd :
  (∃ (s : State), s.rd F.GLB_TXN_STAT_STATE = 3 ∧ s.txn.mode = 1 ∧ (s.st s.txn.stream).open_ = none ∧ s.cyc ≤ s.armedEnd) ∧
  (∃ (s : State), s.rd F.GLB_TXN_STAT_STATE = 4 ∧ s.cyc ≤ s.txn.applyAt + 1600) ∧
  (∃ (s : State), s.LevelsOk ∧ s.rd F.GLB_TXN_STAT_STATE = 4 ∧ s.txn.staging = []) ∧
  (∃ (s : State), s.Takes 0 ∧ (s.rd F.GLB_TXN_STAT_STATE = 1 ∧ s.cyc < s.openEnd ∨ s.rd F.GLB_TXN_STAT_STATE = 2 ∨ s.rd F.GLB_TXN_STAT_STATE = 3 ∧
    s.timeReached = false ∧ s.cyc ≤ s.armedEnd)) ∧
  (∃ (s : State), s.Takes 0 ∧ s.rd F.GLB_TXN_STAT_STATE = 4) ∧
  (∃ (s : State), s.Takes 0 ∧ s.rd F.GLB_TXN_STAT_STATE = 0) ∧
  (∃ (s : State), s.rd F.GLB_TXN_STAT_STATE = 1) ∧
  (∃ (s : State), s.rd F.GLB_TXN_STAT_STATE = 3 ∧ s.timeFirst = false) :=
  ⟨⟨(fun (s : State) => {stg 23 (md 1 0 (stB 3 s)) with streams := State.reset.streams}) State.reset, by decide +kernel⟩,
  ⟨(fun (s : State) => md 0 0 (stB 4 s)) State.reset, by decide +kernel⟩,
  ⟨(fun (s : State) => md 0 0 (stB 4 s)) State.reset, by unfold State.LevelsOk; decide +kernel, by decide +kernel⟩,
  ⟨(stB 1) State.reset, by unfold State.Takes; decide +kernel, by decide +kernel⟩,
  ⟨(stB 4) State.reset, by unfold State.Takes; decide +kernel, by decide +kernel⟩,
  ⟨(stB 0) State.reset, by unfold State.Takes; decide +kernel, by decide +kernel⟩,
  ⟨(stB 1) State.reset, by decide +kernel⟩,
  ⟨(stB 3) State.reset, by decide +kernel⟩⟩

/-- Checks without images arm the transaction; a lock waits for the end of a running one: states that meet the hypotheses of its clauses. -/
theorem test_ChecksArmAndLocksWait :
  (∃ (s : State) (im : List (Fin 6 × List Byte)) (b : List (Nat × List Byte)), (b = List.map (fun x ↦ (↑x.fst, x.snd)) im) ∧
    s.rd F.GLB_TXN_STAT_STATE = 2 ∧ (∀ (d : Nat), d < 6 → s.descOp d = 1 → s.intake b d = none) ∧ s.admission b = none ∧ s.txn.mode = 1 ∧
    (s.st s.txn.stream).open_ ≠ none ∧ s.watch = s) ∧
  (∃ (s : State) (im : List (Fin 6 × List Byte)) (b : List (Nat × List Byte)), (b = List.map (fun x ↦ (↑x.fst, x.snd)) im) ∧
    s.rd F.GLB_TXN_STAT_STATE = 2 ∧ (∀ (d : Nat), d < 6 → s.descOp d = 1 → s.intake b d = none) ∧ s.admission b = none ∧ s.txn.mode = 1 ∧
    (s.st s.txn.stream).open_ = none) ∧
  (∃ (s : State) (im : List (Fin 6 × List Byte)) (b : List (Nat × List Byte)), (b = List.map (fun x ↦ (↑x.fst, x.snd)) im) ∧
    s.rd F.GLB_TXN_STAT_STATE = 2 ∧ (∀ (d : Nat), d < 6 → s.descOp d = 1 → s.intake b d = none) ∧ s.admission b = none ∧ s.txn.mode = 2 ∧
    s.timeReached = false ∧ s.watch = s) ∧
  (∃ (s : State) (im : List (Fin 6 × List Byte)) (b : List (Nat × List Byte)), (b = List.map (fun x ↦ (↑x.fst, x.snd)) im) ∧
    s.rd F.GLB_TXN_STAT_STATE = 2 ∧ (∀ (d : Nat), d < 6 → s.descOp d = 1 → s.intake b d = none) ∧ s.admission b = none ∧ s.txn.mode = 2 ∧
    s.timeReached = true) ∧
  (∃ (s : State), s.Takes 0 ∧ s.rd F.GLB_TXN_STAT_STATE = 0) ∧
  (∃ (s : State), s.Takes 0 ∧ s.rd F.GLB_TXN_STAT_STATE ≠ 0 ∧ s.on F.GLB_LOCK_LOCKED = false) :=
  ⟨⟨(fun (s : State) => { s.wr F.GLB_TXN_STAT_STATE 2 with txn := { Txn.reset with mode := 1 }, streams := updAt (fun x => { x with open_ := some 2 }) 0 s.streams }) State.reset, ([] : List (Fin 6 × List Byte)), ([] : List (Nat × List Byte)), by decide +kernel⟩,
  ⟨(fun (s : State) => stg 2 (md 1 0 (stB 2 s))) State.reset, ([] : List (Fin 6 × List Byte)), ([] : List (Nat × List Byte)), by decide +kernel⟩,
  ⟨(fun (s : State) => md 2 (s.ns+ 5) (stB 2 s)) State.reset, ([] : List (Fin 6 × List Byte)), ([] : List (Nat × List Byte)), by decide +kernel⟩,
  ⟨(fun (s : State) => md 2 0 (stB 2 s)) State.reset, ([] : List (Fin 6 × List Byte)), ([] : List (Nat × List Byte)), by decide +kernel⟩,
  ⟨(stB 0) State.reset, by unfold State.Takes; decide +kernel, by decide +kernel⟩,
  ⟨(fun (s : State) => (stB 2 s).wr F.GLB_LOCK_LOCKED 0) State.reset, by unfold State.Takes; decide +kernel, by decide +kernel⟩⟩

/-- An unloading context empties, and a block reset acts on the pages that implement it: states that meet the hypotheses of its clauses. -/
theorem test_ContextEmptiesAndBlocksReset :
  (∃ (s : State) (c : Fin 16), s.ctxs.length = 16 ∧ s.rd F.PST_CSTAT_STATE c.val = 3 ∧ (∀ (x : PlanCtx), x ∈ s.ctxs → x.next = none)) ∧
  (∃ (s : State) (p : Fin 28), s.Takes p.val ∧ (p.val = 6 ∨ p.val = 7) ∧ s.rd F.TAP_STAT_PSTATE (p.val - 6) = 2) ∧
  (∃ (s : State) (p : Fin 28), s.Takes p.val ∧ 8 ≤ p.val ∧ p.val ≤ 11 ∧ s.slots = [] ∧ s.rd F.TE_STAT_ROLE (p.val - 8) = 6) ∧
  (∃ (s : State) (p : Fin 28), s.Takes p.val ∧ (p.val < 6 ∨ 14 ≤ p.val ∧ p.val ≠ 22)) :=
  ⟨⟨(fun (s : State) => (List.range 16).foldl (fun s c => s.wr F.PST_CSTAT_STATE 3 c) s) State.reset, (0 : Fin 16), by decide +kernel⟩,
  ⟨(fun (s : State) => ((opn s).wr F.TAP_STAT_PSTATE 2 0).wr F.TAP_STAT_PSTATE 2 1) State.reset, (6 : Fin 28), by unfold State.Takes; decide +kernel, by decide +kernel⟩,
  ⟨(fun (s : State) => {(List.range 4).foldl (fun s c => s.wr F.TE_STAT_ROLE 6 c) (opn s) with slots := []}) State.reset, (10 : Fin 28), by unfold State.Takes; decide +kernel, by decide +kernel⟩,
  ⟨(fun (s : State) => {(List.range 4).foldl (fun s c => s.wr F.TE_STAT_ROLE 6 c) (opn s) with slots := []}) State.reset, (3 : Fin 28), by unfold State.Takes; decide +kernel, by decide +kernel⟩⟩

/-- An occurrence sets its bit and escalates its level; an acknowledgement clears both: states that meet the hypotheses of its clauses. -/
theorem test_FaultBitsAndLevels :
  (∃ (s : State) (p : Fin 28), s.Takes 0 ∧ p.val = 0) ∧
  (∃ (s : State) (p : Fin 28) (src : Fin 32), p.val = 0 ∧ src.val < 11 ∧ src.val ≠ 4 ∧ s.slots = [] ∧ s.rd F.GLB_TXN_STAT_STATE = 0 ∧
    s.erc.queue.length < 1024 ∧ s.enabled { page := 0, num := src.val } = true) :=
  ⟨⟨opn State.reset, (0 : Fin 28), by unfold State.Takes; decide +kernel, by decide +kernel⟩,
  ⟨idle State.reset, (0 : Fin 28), (3 : Fin 32), by decide +kernel⟩⟩

/-- A disabled C-class source sets its _FLT bit and nothing more: states that meet the hypotheses of its clauses. -/
theorem test_DisabledSourceOnlySetsItsBit :
  (∃ (s : State) (p : Fin 28) (src : Fin 32) (r : Report), p.val = 0 ∧ src.val < 11 ∧ s.slots = [] ∧
    s.enabled { page := 0, num := src.val } = false ∧ r.inj = false ∧ s.enabled r.src = false ∧ r.src.num < 32) :=
  ⟨(fun (s : State) => (idle s).setWord R.HEAD_FLTDIS 0x3FF 0) State.reset, (0 : Fin 28), (3 : Fin 32), ({ src := { page := 0, num := 3 }, chan := 7, stream := some 5136533563, aux := 0, unit := 7, ref := 0, detail := [], inj := false, mark := false } : Report), by decide +kernel⟩

/-- An ARM creates an expected entry; the injected report consumes it, and silence is fatal: states that meet the hypotheses of its clauses. -/
theorem test_ExpectedInjectionIsConsumed :
  (∃ (s : State) (p : Fin 28) (src : BitVec 5), s.Takes p.val ∧ injSrcOk (p.val) src.toNat = true ∧ s.on F.HEAD_INJ_ARMED p.val = false ∧
    s.inj.length < 19) ∧
  (∃ (s : State) (p : Fin 28) (src : BitVec 5), s.Takes p.val ∧ injSrcOk (p.val) src.toNat = false) ∧
  (∃ (s : State) (p : Fin 28) (src : BitVec 5) (chan : BitVec 16) (a : Nat) (k : Fin 32), k.val = src.toNat ∧ p.val ≠ 2 ∧
    s.inj = [{ page := p.val, src := src.toNat, chan := chan.toNat, armedAt := a, injectedAt := none }]) ∧
  (∃ (s : State) (p : Fin 28) (src : BitVec 5) (chan : BitVec 16) (a : Nat) (c : Nat), s.LevelsOk ∧
    s.inj = [{ page := p.val, src := src.toNat, chan := chan.toNat, armedAt := a, injectedAt := some c }]) :=
  ⟨⟨(fun (s : State) => {(opn s) with inj := [⟨3, 3, 3, 7, some 7⟩]}) State.reset, (3 : Fin 28), (0x03#5 : BitVec 5), by unfold State.Takes; decide +kernel, by decide +kernel⟩,
  ⟨opn State.reset, (0 : Fin 28), (0x1a#5 : BitVec 5), by unfold State.Takes; decide +kernel, by decide +kernel⟩,
  ⟨(fun (s : State) => {(opn s) with inj := [⟨3, 3, 3, 7, none⟩]}) State.reset, (3 : Fin 28), (0x03#5 : BitVec 5), (0x0003#16 : BitVec 16), (7 : Nat), (3 : Fin 32), by decide +kernel⟩,
  ⟨(fun (s : State) => {(opn s) with inj := [⟨3, 3, 0, 7, some 7⟩]}) State.reset, (3 : Fin 28), (0x03#5 : BitVec 5), (0x0000#16 : BitVec 16), (7 : Nat), (7 : Nat), by unfold State.LevelsOk; decide +kernel, by decide +kernel⟩⟩

/-- Every clear sets the counters it names to 0 and changes nothing else: states that meet the hypotheses of its clauses. -/
theorem test_ClearsZeroTheirCounters :
  (∃ (s : State) (p : Fin 2), s.Takes (6 + p.val) ∧ s.taps.length = 2) ∧
  (∃ (s : State), s.Takes 15) ∧
  (∃ (s : State) (e : Fin 4), s.Takes (8 + e.val)) ∧
  (∃ (s : State), s.Takes 5) ∧
  (∃ (s : State), s.Takes 16) ∧
  (∃ (s : State) (h : Fin 2), s.Takes (12 + h.val)) ∧
  (∃ (s : State), s.Takes 14) ∧
  (∃ (s : State), s.Takes 17) ∧
  (∃ (s : State), s.Takes 18) ∧
  (∃ (s : State), s.Takes 22) ∧
  (∃ (s : State), s.Takes 23) ∧
  (∃ (s : State), s.Takes 1) ∧
  (∃ (s : State), s.Takes 26) ∧
  (∃ (s : State), s.Takes 25) ∧
  (∃ (s : State), s.Takes 24) ∧
  (∃ (s : State), s.Takes 2) ∧
  (∃ (s : State), s.Takes 3) ∧
  (∃ (s : State), s.Takes 19) ∧
  (∃ (s : State), s.Takes 4) ∧
  (∃ (s : State), s.Takes 20) :=
  ⟨⟨State.reset, (0 : Fin 2), by unfold State.Takes; decide +kernel, by decide +kernel⟩,
  ⟨State.reset, by unfold State.Takes; decide +kernel⟩,
  ⟨State.reset, (3 : Fin 4), by unfold State.Takes; decide +kernel⟩,
  ⟨State.reset, by unfold State.Takes; decide +kernel⟩,
  ⟨State.reset, by unfold State.Takes; decide +kernel⟩,
  ⟨State.reset, (1 : Fin 2), by unfold State.Takes; decide +kernel⟩,
  ⟨State.reset, by unfold State.Takes; decide +kernel⟩,
  ⟨State.reset, by unfold State.Takes; decide +kernel⟩,
  ⟨State.reset, by unfold State.Takes; decide +kernel⟩,
  ⟨State.reset, by unfold State.Takes; decide +kernel⟩,
  ⟨State.reset, by unfold State.Takes; decide +kernel⟩,
  ⟨State.reset, by unfold State.Takes; decide +kernel⟩,
  ⟨State.reset, by unfold State.Takes; decide +kernel⟩,
  ⟨State.reset, by unfold State.Takes; decide +kernel⟩,
  ⟨State.reset, by unfold State.Takes; decide +kernel⟩,
  ⟨State.reset, by unfold State.Takes; decide +kernel⟩,
  ⟨State.reset, by unfold State.Takes; decide +kernel⟩,
  ⟨State.reset, by unfold State.Takes; decide +kernel⟩,
  ⟨State.reset, by unfold State.Takes; decide +kernel⟩,
  ⟨State.reset, by unfold State.Takes; decide +kernel⟩⟩

/-- Ring bytes move the cursor or fail into RESYNC; partial records and long backpressure time out: states that meet the hypotheses of its clauses. -/
theorem test_RingBytesAndPortTimers :
  (∃ (s : State) (p : Fin 2) (off : BitVec 24) (d : List Byte), s.Calm p.val ∧ s.taps.length = 2 ∧ s.slots = [] ∧
    s.on F.TAP_STAT_LINKUP p.val = true ∧ s.host.d0.getD (2 + p.val) true = true ∧ d ≠ [] ∧ s.tlpLong (p.val) off.toNat d = false ∧
    s.rd F.TAP_STAT_PSTATE p.val = 2 ∧ off.toNat = s.rd F.TAP_CURSOR_PTR p.val ∧ (s.tap p.val).buf.length + d.length < 32) ∧
  (∃ (s : State) (p : Fin 2) (off : BitVec 24) (d : List Byte), s.Calm p.val ∧ s.taps.length = 2 ∧ s.slots = [] ∧
    s.on F.TAP_STAT_LINKUP p.val = true ∧ s.host.d0.getD (2 + p.val) true = true ∧ d ≠ [] ∧ s.tlpLong (p.val) off.toNat d = false ∧
    s.rd F.TAP_STAT_PSTATE p.val = 2 ∧ off.toNat ≠ s.rd F.TAP_CURSOR_PTR p.val ∧ off.toNat ≠ 0) ∧
  (∃ (s : State) (p : Fin 2) (off : BitVec 24) (d : List Byte), s.Calm p.val ∧ s.taps.length = 2 ∧ s.slots = [] ∧
    s.on F.TAP_STAT_LINKUP p.val = true ∧ s.host.d0.getD (2 + p.val) true = true ∧ d ≠ [] ∧ s.tlpLong (p.val) off.toNat d = false ∧
    s.rd F.TAP_STAT_PSTATE p.val = 3) :=
  ⟨⟨(fun (s : State) => (stD 2 s).wr F.TAP_CURSOR_PTR 3 0) State.reset, (0 : Fin 2), (0x000003#24 : BitVec 24), ([0x00#8, 0x5a#8, 0x3a#8, 0x03#8] : List Byte), by unfold State.Calm; decide +kernel, by decide +kernel⟩,
  ⟨(stD 2) State.reset, (0 : Fin 2), (0x000003#24 : BitVec 24), ([0x03#8, 0x45#8] : List Byte), by unfold State.Calm; decide +kernel, by decide +kernel⟩,
  ⟨(stD 3) State.reset, (0 : Fin 2), (0x00001f#24 : BitVec 24), ([0x5a#8, 0x5a#8] : List Byte), by unfold State.Calm; decide +kernel, by decide +kernel⟩⟩

/-- A read of the ring completes with UR, a status write is discarded, and both set RING_RD alone: states that meet the hypotheses of its clauses. -/
theorem test_RingAnswersNoRead :
  (∃ (s : State) (p : Fin 2), s.taps.length = 2 ∧ s.slots = [] ∧ (s.tap p.val).buf ≠ [] ∧ (s.tap p.val).bpAt = none ∧
    s.rd F.TAP_STAT_PSTATE p.val = 2) ∧
  (∃ (s : State) (p : Fin 2) (c : Nat), s.taps.length = 2 ∧ (s.tap p.val).bpAt = some c ∧ (s.tap p.val).bpLong = false ∧
    s.backpressure p.val = true) :=
  ⟨⟨(stD 2) State.reset, (0 : Fin 2), by decide +kernel⟩,
  ⟨(fun (s : State) => {stD 2 s with taps := List.replicate 2 {TapPort.reset with bpAt := some 7, buf := [0, 0, 64] ++ List.replicate 29 1}}) State.reset, (0 : Fin 2), (7 : Nat), by decide +kernel⟩⟩

/-- Link loss, flush, function reset and QUIESCE take a port into RESYNC or QUIESCED and keep its records: states that meet the hypotheses of its clauses. -/
theorem test_PortEntersResyncAndQuiesced :
  (∃ (s : State) (p : Fin 2), s.Calm p.val ∧ s.taps.length = 2 ∧ s.on F.TAP_STAT_LINKUP p.val = true ∧ s.rd F.TAP_STAT_PSTATE p.val = 2) ∧
  (∃ (s : State) (p : Fin 2), s.Calm p.val ∧ s.Takes (6 + p.val) ∧ s.taps.length = 2 ∧
    (s.rd F.TAP_STAT_PSTATE p.val = 1 ∨ s.rd F.TAP_STAT_PSTATE p.val = 2)) ∧
  (∃ (s : State) (p : Fin 2), s.Calm p.val ∧ s.Takes (6 + p.val) ∧ s.taps.length = 2 ∧
    (s.rd F.TAP_STAT_PSTATE p.val = 0 ∨ s.rd F.TAP_STAT_PSTATE p.val = 3)) ∧
  (∃ (s : State) (p : Fin 2), s.Calm p.val ∧ s.Takes (6 + p.val) ∧ s.taps.length = 2 ∧ s.rd F.TAP_STAT_PSTATE p.val ≠ 0) ∧
  (∃ (s : State) (p : Fin 2), s.Calm p.val ∧ s.Takes (6 + p.val) ∧ s.taps.length = 2 ∧ s.rd F.TAP_STAT_PSTATE p.val = 3 ∧
    s.on F.TAP_STAT_ACB_Q p.val = false) ∧
  (∃ (s : State) (p : Fin 2), s.Calm p.val ∧ s.Takes (6 + p.val) ∧ s.taps.length = 2 ∧ s.rd F.TAP_STAT_PSTATE p.val = 3 ∧
    s.on F.TAP_STAT_ACB_Q p.val = true ∧ s.rd F.ACB_STAT_STEP ≠ 0) :=
  ⟨⟨(stD 2) State.reset, (0 : Fin 2), by unfold State.Calm; decide +kernel, by decide +kernel⟩,
  ⟨(stD 2) State.reset, (0 : Fin 2), by unfold State.Calm; decide +kernel, by unfold State.Takes; decide +kernel, by decide +kernel⟩,
  ⟨State.reset, (0 : Fin 2), by unfold State.Calm; decide +kernel, by unfold State.Takes; decide +kernel, by decide +kernel⟩,
  ⟨(stD 2) State.reset, (0 : Fin 2), by unfold State.Calm; decide +kernel, by unfold State.Takes; decide +kernel, by decide +kernel⟩,
  ⟨(stD 3) State.reset, (0 : Fin 2), by unfold State.Calm; decide +kernel, by unfold State.Takes; decide +kernel, by decide +kernel⟩,
  ⟨(fun (s : State) => ((stD 3 s).wr F.TAP_STAT_ACB_Q 1 0).wr F.ACB_STAT_STEP 3) State.reset, (0 : Fin 2), by unfold State.Calm; decide +kernel, by unfold State.Takes; decide +kernel, by decide +kernel⟩⟩

/-- A BEGIN_RESULT at its turn opens a result with its slot, deadline and bank, or overruns waiting for a bank: states that meet the hypotheses of its clauses. -/
theorem test_BeginResultOpensAResult :
  (∃ (s : State) (i : Fin 64) (r : HeldRec) (plan : Plan) (bank : Nat), s.Shape ∧ s.portOf i.val < 2 ∧ (s.st i.val).admitted = true ∧
    s.nextRec (s.portOf i.val) false i.val = some r ∧ r.typ = 1 ∧ s.planOf i.val = some plan ∧ s.txnSt ≠ 3 ∧ s.slots = [] ∧ r.bad = false ∧
    (∀ (l : Nat), (s.st i.val).last = some l → r.resseq = l + 1) ∧ ((s.st i.val).last = none → (s.st i.val).maxUsed = none) ∧
    0 < (s.st i.val).c.semBanks ∧ (s.st i.val).nextBank plan = some bank) ∧
  (∃ (s : State) (i : Fin 64) (r : HeldRec) (plan : Plan), s.Shape ∧ s.portOf i.val < 2 ∧ (s.st i.val).admitted = true ∧
    s.nextRec (s.portOf i.val) false i.val = some r ∧ r.typ = 1 ∧ s.planOf i.val = some plan ∧ ((s.freeBanks i.val).st i.val).nextBank plan = none ∧
    s.slots = [] ∧ 0 < (s.st i.val).c.semBanks) :=
  ⟨⟨(fun (s : State) => base strm bs [] [] ((opnD s).wr F.TAP_SSTAT_BLOCKED 0 0 3 |>.wr F.GLB_TXN_STAT_STATE 0)) State.reset, (3 : Fin 64), (Option.get (((fun (s : State) => base strm bs [] [] ((opnD s).wr F.TAP_SSTAT_BLOCKED 0 0 3 |>.wr F.GLB_TXN_STAT_STATE 0)) State.reset).nextRec (((fun (s : State) => base strm bs [] [] ((opnD s).wr F.TAP_SSTAT_BLOCKED 0 0 3 |>.wr F.GLB_TXN_STAT_STATE 0)) State.reset).portOf (3 : Fin 64).val) false (3 : Fin 64).val) (by decide +kernel)), (Option.get (((fun (s : State) => base strm bs [] [] ((opnD s).wr F.TAP_SSTAT_BLOCKED 0 0 3 |>.wr F.GLB_TXN_STAT_STATE 0)) State.reset).planOf (3 : Fin 64).val) (by decide +kernel)), (1 : Nat), shape_of (by decide +kernel), by decide +kernel⟩,
  ⟨(fun (s : State) => (base {strm with banks := [⟨0, 1, false, false⟩, ⟨1, 0, false, false⟩] } bs [] [] (opnD s)).updLq 3 fun l => { l with jobs := [{job with resseq := 1}, {job with resseq := 0}] }) State.reset, (3 : Fin 64), (Option.get (((fun (s : State) => (base {strm with banks := [⟨0, 1, false, false⟩, ⟨1, 0, false, false⟩] } bs [] [] (opnD s)).updLq 3 fun l => { l with jobs := [{job with resseq := 1}, {job with resseq := 0}] }) State.reset).nextRec (((fun (s : State) => (base {strm with banks := [⟨0, 1, false, false⟩, ⟨1, 0, false, false⟩] } bs [] [] (opnD s)).updLq 3 fun l => { l with jobs := [{job with resseq := 1}, {job with resseq := 0}] }) State.reset).portOf (3 : Fin 64).val) false (3 : Fin 64).val) (by decide +kernel)), (Option.get (((fun (s : State) => (base {strm with banks := [⟨0, 1, false, false⟩, ⟨1, 0, false, false⟩] } bs [] [] (opnD s)).updLq 3 fun l => { l with jobs := [{job with resseq := 1}, {job with resseq := 0}] }) State.reset).planOf (3 : Fin 64).val) (by decide +kernel)), shape_of (by decide +kernel), by decide +kernel⟩⟩

/-- Each record of an open result at its turn has its effect on that result: states that meet the hypotheses of its clauses. -/
theorem test_RecordsFillTheOpenResult :
  (∃ (s : State) (i : Fin 64) (r : HeldRec) (sl : Slot) (p : Plan), s.AtTurn (i.val) 2 r sl p ∧ sl.left = false) ∧
  (∃ (s : State) (i : Fin 64) (r : HeldRec) (sl : Slot) (p : Plan) (td : TensD), s.AtTurn (i.val) 3 r sl p ∧ p.recTensor r = some td ∧
    sl.overlap (r.part td.num) = 0 ∧ s.partStall (i.val) r sl = false) ∧
  (∃ (s : State) (i : Fin 64) (r : HeldRec) (sl : Slot) (p : Plan) (td : TensD), s.AtTurn (i.val) 5 r sl p ∧ p.recTensor r = some td ∧
    sl.overlap (r.part td.num) = 0 ∧ s.partStall (i.val) r sl = false) ∧
  (∃ (s : State) (i : Fin 64) (r : HeldRec) (sl : Slot) (p : Plan) (td : TensD), s.AtTurn (i.val) 4 r sl p ∧ p.portTensor r.site 1 = some td ∧
    le 0 4 r.payload = sl.ctxpos + r.token ∧ sl.complete td r.token = true ∧ s.portOf i.val < 2) ∧
  (∃ (s : State) (i : Fin 64) (r : HeldRec) (sl : Slot) (p : Plan), s.AtTurn (i.val) 6 r sl p ∧ sl.binds = [] ∧ r.hinfo = 1) ∧
  (∃ (s : State) (i : Fin 64) (r : HeldRec) (sl : Slot) (p : Plan), s.AtTurn (i.val) 7 r sl p ∧ sl.barred = false) ∧
  (∃ (s : State) (i : Fin 64) (r : HeldRec) (sl : Slot) (p : Plan), s.AtTurn (i.val) 8 r sl p ∧ sl.formed = false ∧ sl.ready = false ∧
    s.slots = [sl] ∧ s.ns < sl.deadline ∧ (s.st i.val).last = some r.resseq) :=
  ⟨⟨(fun (s : State) => base strmOpen [rsD.getD 0 (hrec 0 0 0 0 0 0 0 [])] [{slot with parts := slot.parts}] [] (opnD s)) State.reset, (3 : Fin 64), ((recOf ((fun (s : State) => base strmOpen [rsD.getD 0 (hrec 0 0 0 0 0 0 0 [])] [{slot with parts := slot.parts}] [] (opnD s)) State.reset) ((3 : Fin 64).val)) : HeldRec), ((slotAt ((fun (s : State) => base strmOpen [rsD.getD 0 (hrec 0 0 0 0 0 0 0 [])] [{slot with parts := slot.parts}] [] (opnD s)) State.reset) ((3 : Fin 64).val) (recOf ((fun (s : State) => base strmOpen [rsD.getD 0 (hrec 0 0 0 0 0 0 0 [])] [{slot with parts := slot.parts}] [] (opnD s)) State.reset) ((3 : Fin 64).val))) : Slot), ((planAt ((fun (s : State) => base strmOpen [rsD.getD 0 (hrec 0 0 0 0 0 0 0 [])] [{slot with parts := slot.parts}] [] (opnD s)) State.reset) ((3 : Fin 64).val)) : Plan), atTurn_of (shape_of (by decide +kernel)) (by decide +kernel), by decide +kernel⟩,
  ⟨(fun (s : State) => base strmOpen [rsD.getD 1 (hrec 0 0 0 0 0 0 0 [])] [{slot with parts := []}] [] (opnD s)) State.reset, (3 : Fin 64), ((recOf ((fun (s : State) => base strmOpen [rsD.getD 1 (hrec 0 0 0 0 0 0 0 [])] [{slot with parts := []}] [] (opnD s)) State.reset) ((3 : Fin 64).val)) : HeldRec), ((slotAt ((fun (s : State) => base strmOpen [rsD.getD 1 (hrec 0 0 0 0 0 0 0 [])] [{slot with parts := []}] [] (opnD s)) State.reset) ((3 : Fin 64).val) (recOf ((fun (s : State) => base strmOpen [rsD.getD 1 (hrec 0 0 0 0 0 0 0 [])] [{slot with parts := []}] [] (opnD s)) State.reset) ((3 : Fin 64).val))) : Slot), ((planAt ((fun (s : State) => base strmOpen [rsD.getD 1 (hrec 0 0 0 0 0 0 0 [])] [{slot with parts := []}] [] (opnD s)) State.reset) ((3 : Fin 64).val)) : Plan), ({ num := 0, count := 2, fmt := 9, mx := false } : TensD), atTurn_of (shape_of (by decide +kernel)) (by decide +kernel), by decide +kernel⟩,
  ⟨(fun (s : State) => base strmOpen [rsD.getD 2 (hrec 0 0 0 0 0 0 0 [])] [{slot with parts := []}] [] (opnD s)) State.reset, (3 : Fin 64), ((recOf ((fun (s : State) => base strmOpen [rsD.getD 2 (hrec 0 0 0 0 0 0 0 [])] [{slot with parts := []}] [] (opnD s)) State.reset) ((3 : Fin 64).val)) : HeldRec), ((slotAt ((fun (s : State) => base strmOpen [rsD.getD 2 (hrec 0 0 0 0 0 0 0 [])] [{slot with parts := []}] [] (opnD s)) State.reset) ((3 : Fin 64).val) (recOf ((fun (s : State) => base strmOpen [rsD.getD 2 (hrec 0 0 0 0 0 0 0 [])] [{slot with parts := []}] [] (opnD s)) State.reset) ((3 : Fin 64).val))) : Slot), ((planAt ((fun (s : State) => base strmOpen [rsD.getD 2 (hrec 0 0 0 0 0 0 0 [])] [{slot with parts := []}] [] (opnD s)) State.reset) ((3 : Fin 64).val)) : Plan), (Option.get (((planAt ((fun (s : State) => base strmOpen [rsD.getD 2 (hrec 0 0 0 0 0 0 0 [])] [{slot with parts := []}] [] (opnD s)) State.reset) ((3 : Fin 64).val)) : Plan).recTensor ((recOf ((fun (s : State) => base strmOpen [rsD.getD 2 (hrec 0 0 0 0 0 0 0 [])] [{slot with parts := []}] [] (opnD s)) State.reset) ((3 : Fin 64).val)) : HeldRec)) (by decide +kernel)), atTurn_of (shape_of (by decide +kernel)) (by decide +kernel), by decide +kernel⟩,
  ⟨(fun (s : State) => base strmOpen [rsD.getD 3 (hrec 0 0 0 0 0 0 0 [])] [{slot with parts := slot.parts}] [] (opnD s)) State.reset, (3 : Fin 64), ((recOf ((fun (s : State) => base strmOpen [rsD.getD 3 (hrec 0 0 0 0 0 0 0 [])] [{slot with parts := slot.parts}] [] (opnD s)) State.reset) ((3 : Fin 64).val)) : HeldRec), ((slotAt ((fun (s : State) => base strmOpen [rsD.getD 3 (hrec 0 0 0 0 0 0 0 [])] [{slot with parts := slot.parts}] [] (opnD s)) State.reset) ((3 : Fin 64).val) (recOf ((fun (s : State) => base strmOpen [rsD.getD 3 (hrec 0 0 0 0 0 0 0 [])] [{slot with parts := slot.parts}] [] (opnD s)) State.reset) ((3 : Fin 64).val))) : Slot), ((planAt ((fun (s : State) => base strmOpen [rsD.getD 3 (hrec 0 0 0 0 0 0 0 [])] [{slot with parts := slot.parts}] [] (opnD s)) State.reset) ((3 : Fin 64).val)) : Plan), ({ num := 1, count := 2, fmt := 2, mx := false } : TensD), atTurn_of (shape_of (by decide +kernel)) (by decide +kernel), by decide +kernel⟩,
  ⟨(fun (s : State) => base strmOpen [rsD.getD 4 (hrec 0 0 0 0 0 0 0 [])] [{slot with parts := slot.parts}] [] (opnD s)) State.reset, (3 : Fin 64), ((recOf ((fun (s : State) => base strmOpen [rsD.getD 4 (hrec 0 0 0 0 0 0 0 [])] [{slot with parts := slot.parts}] [] (opnD s)) State.reset) ((3 : Fin 64).val)) : HeldRec), ((slotAt ((fun (s : State) => base strmOpen [rsD.getD 4 (hrec 0 0 0 0 0 0 0 [])] [{slot with parts := slot.parts}] [] (opnD s)) State.reset) ((3 : Fin 64).val) (recOf ((fun (s : State) => base strmOpen [rsD.getD 4 (hrec 0 0 0 0 0 0 0 [])] [{slot with parts := slot.parts}] [] (opnD s)) State.reset) ((3 : Fin 64).val))) : Slot), ((planAt ((fun (s : State) => base strmOpen [rsD.getD 4 (hrec 0 0 0 0 0 0 0 [])] [{slot with parts := slot.parts}] [] (opnD s)) State.reset) ((3 : Fin 64).val)) : Plan), atTurn_of (shape_of (by decide +kernel)) (by decide +kernel), by decide +kernel⟩,
  ⟨(fun (s : State) => base strmOpen [rsD.getD 5 (hrec 0 0 0 0 0 0 0 [])] [{slot with parts := slot.parts}] [] (opnD s)) State.reset, (3 : Fin 64), ((recOf ((fun (s : State) => base strmOpen [rsD.getD 5 (hrec 0 0 0 0 0 0 0 [])] [{slot with parts := slot.parts}] [] (opnD s)) State.reset) ((3 : Fin 64).val)) : HeldRec), ((slotAt ((fun (s : State) => base strmOpen [rsD.getD 5 (hrec 0 0 0 0 0 0 0 [])] [{slot with parts := slot.parts}] [] (opnD s)) State.reset) ((3 : Fin 64).val) (recOf ((fun (s : State) => base strmOpen [rsD.getD 5 (hrec 0 0 0 0 0 0 0 [])] [{slot with parts := slot.parts}] [] (opnD s)) State.reset) ((3 : Fin 64).val))) : Slot), ((planAt ((fun (s : State) => base strmOpen [rsD.getD 5 (hrec 0 0 0 0 0 0 0 [])] [{slot with parts := slot.parts}] [] (opnD s)) State.reset) ((3 : Fin 64).val)) : Plan), atTurn_of (shape_of (by decide +kernel)) (by decide +kernel), by decide +kernel⟩,
  ⟨(fun (s : State) => base strmOpen [rsD.getD 6 (hrec 0 0 0 0 0 0 0 [])] [{slot with parts := slot.parts}] [] (opnD s)) State.reset, (3 : Fin 64), ((recOf ((fun (s : State) => base strmOpen [rsD.getD 6 (hrec 0 0 0 0 0 0 0 [])] [{slot with parts := slot.parts}] [] (opnD s)) State.reset) ((3 : Fin 64).val)) : HeldRec), ((slotAt ((fun (s : State) => base strmOpen [rsD.getD 6 (hrec 0 0 0 0 0 0 0 [])] [{slot with parts := slot.parts}] [] (opnD s)) State.reset) ((3 : Fin 64).val) (recOf ((fun (s : State) => base strmOpen [rsD.getD 6 (hrec 0 0 0 0 0 0 0 [])] [{slot with parts := slot.parts}] [] (opnD s)) State.reset) ((3 : Fin 64).val))) : Slot), ((planAt ((fun (s : State) => base strmOpen [rsD.getD 6 (hrec 0 0 0 0 0 0 0 [])] [{slot with parts := slot.parts}] [] (opnD s)) State.reset) ((3 : Fin 64).val)) : Plan), atTurn_of (shape_of (by decide +kernel)) (by decide +kernel), by decide +kernel⟩⟩

/-- Command, READY, pad and weight-chunk records have their effect outside results: states that meet the hypotheses of its clauses. -/
theorem test_PortAndCommandRecords :
  (∃ (s : State) (i : Fin 64) (r : HeldRec), s.Shape ∧ s.portOf i.val < 2 ∧ s.nextRec (s.portOf i.val) false i.val = some r ∧
    (s.st i.val).admitted = true ∧ r.bad = false ∧ r.gap = false ∧ s.on F.ACB_CTRL_EN = true ∧ r.typ = 9 ∧
    (∀ (e : CmdEntry), e ∈ s.acb.table → e.cmdid ≠ bits 9 0 r.hinfo)) ∧
  (∃ (s : State) (i : Fin 64) (r : HeldRec), s.Shape ∧ s.portOf i.val < 2 ∧ s.nextRec (s.portOf i.val) false i.val = some r ∧
    (s.st i.val).admitted = true ∧ r.bad = false ∧ r.gap = false ∧ s.on F.ACB_CTRL_EN = true ∧ r.typ = 9 ∧ (∃ e, e ∈ s.acb.table ∧
    e.cmdid = bits 9 0 r.hinfo)) ∧
  (∃ (s : State) (i : Fin 64) (r : HeldRec) (e : CmdEntry), s.Shape ∧ s.portOf i.val < 2 ∧ s.nextRec (s.portOf i.val) false i.val = some r ∧
    (s.st i.val).admitted = true ∧ r.bad = false ∧ r.gap = false ∧ s.on F.ACB_CTRL_EN = true ∧ r.typ = 10 ∧ bit 24 r.hinfo = false ∧
    s.acb.table = [e] ∧ e.cmdid = bits 9 0 r.hinfo ∧ e.cls = bits 19 16 r.hinfo ∧ e.stream = i.val) ∧
  (∃ (s : State) (i : Fin 64) (r : HeldRec), s.Shape ∧ s.portOf i.val < 2 ∧ s.nextRec (s.portOf i.val) false i.val = some r ∧
    (s.st i.val).admitted = true ∧ r.bad = false ∧ r.gap = false ∧ s.on F.ACB_CTRL_EN = true ∧ r.typ = 10 ∧ s.acb.table = []) ∧
  (∃ (s : State) (p : Fin 2) (r : HeldRec), s.Shape ∧ s.nextRec (p.val) true 0 = some r ∧ r.typ = 16 ∧ s.rd F.ACB_STAT_STEP ≠ 5) ∧
  (∃ (s : State) (p : Fin 2) (r : HeldRec), s.Shape ∧ s.nextRec (p.val) true 0 = some r ∧ r.typ = 16 ∧ s.rd F.ACB_STAT_STEP = 5 ∧
    p.val = s.acb.set.rdyPort ∧ s.acb.vars = 0 ∧ s.acb.set.replay = true ∧ le 0 4 r.payload = s.word R.ACB_RCNT ∧ le 4 1 r.payload = 1 ∧
    le 8 4 r.payload = s.word R.ACB_RHN ∧ beNat (slice 16 48 r.payload) = s.acb.digest) ∧
  (∃ (s : State) (p : Fin 2) (r : HeldRec), s.Shape ∧ s.nextRec (p.val) true 0 = some r ∧ r.typ = 31) ∧
  (∃ (s : State) (p : Fin 2) (r : HeldRec) (m : MatK) (d : MatD) (plan : Plan), s.Shape ∧ (s.ctx (bits 3 0 r.hinfo)).plan = some plan ∧
    plan.manifest[d.firstEntry + le 0 4 r.payload]? = some (Config.sha384 r.payload) ∧ s.nextRec (p.val) true 0 = some r ∧ r.typ = 17 ∧
    r.bad = false ∧ s.slots = [] ∧ s.on F.TAP_CTRL_ACCEPT_WCHUNK p.val = true ∧ s.rd F.PST_CSTAT_STATE (bits 3 0 r.hinfo) = 1 ∧
    s.mat (bits 3 0 r.hinfo) r.site = some m ∧ s.matD (bits 3 0 r.hinfo) r.site = some d ∧ le 0 4 r.payload < d.nchunk ∧ m.openK = true ∧
    m.chunks.contains (le 0 4 r.payload) = false) :=
  ⟨⟨(with1 7 (fun (s : State) => { s with acb := { s.acb with table := [⟨3, 3, 0, 0, 40⟩] }})) State.reset, (3 : Fin 64), (Option.get (((with1 7 (fun (s : State) => { s with acb := { s.acb with table := [⟨3, 3, 0, 0, 40⟩] }})) State.reset).nextRec (((with1 7 (fun (s : State) => { s with acb := { s.acb with table := [⟨3, 3, 0, 0, 40⟩] }})) State.reset).portOf (3 : Fin 64).val) false (3 : Fin 64).val) (by decide +kernel)), shape_of (by decide +kernel), by decide +kernel⟩,
  ⟨(with1 8 (fun (s : State) => { s with acb := { s.acb with table := [⟨3, 3, 0, 0, 40⟩] }})) State.reset, (3 : Fin 64), (Option.get (((with1 8 (fun (s : State) => { s with acb := { s.acb with table := [⟨3, 3, 0, 0, 40⟩] }})) State.reset).nextRec (((with1 8 (fun (s : State) => { s with acb := { s.acb with table := [⟨3, 3, 0, 0, 40⟩] }})) State.reset).portOf (3 : Fin 64).val) false (3 : Fin 64).val) (by decide +kernel)), shape_of (by decide +kernel), by decide +kernel⟩,
  ⟨(with1 9 (fun (s : State) => { s with acb := { s.acb with table := [⟨3, 3, 0, 0, 40⟩] }})) State.reset, (3 : Fin 64), (Option.get (((with1 9 (fun (s : State) => { s with acb := { s.acb with table := [⟨3, 3, 0, 0, 40⟩] }})) State.reset).nextRec (((with1 9 (fun (s : State) => { s with acb := { s.acb with table := [⟨3, 3, 0, 0, 40⟩] }})) State.reset).portOf (3 : Fin 64).val) false (3 : Fin 64).val) (by decide +kernel)), ({ cmdid := 3, stream := 3, cls := 0, opNum := 0, begunNs := 40 } : CmdEntry), shape_of (by decide +kernel), by decide +kernel⟩,
  ⟨(with1 9 (fun (s : State) => { s with acb := { s.acb with table := [] }})) State.reset, (3 : Fin 64), (Option.get (((with1 9 (fun (s : State) => { s with acb := { s.acb with table := [] }})) State.reset).nextRec (((with1 9 (fun (s : State) => { s with acb := { s.acb with table := [] }})) State.reset).portOf (3 : Fin 64).val) false (3 : Fin 64).val) (by decide +kernel)), shape_of (by decide +kernel), by decide +kernel⟩,
  ⟨(with1 10 id) State.reset, (0 : Fin 2), (Option.get (((with1 10 id) State.reset).nextRec ((0 : Fin 2).val) true 0) (by decide +kernel)), shape_of (by decide +kernel), by decide +kernel⟩,
  ⟨(with1 10 (fun (s : State) => (({s with acb := { s.acb with vars := 0}} : State).wr F.ACB_STAT_STEP 5).setWord R.ACB_RCNT 0 |>.setWord R.ACB_RHN 0)) State.reset, (0 : Fin 2), (Option.get (((with1 10 (fun (s : State) => (({s with acb := { s.acb with vars := 0}} : State).wr F.ACB_STAT_STEP 5).setWord R.ACB_RCNT 0 |>.setWord R.ACB_RHN 0)) State.reset).nextRec ((0 : Fin 2).val) true 0) (by decide +kernel)), shape_of (by decide +kernel), by decide +kernel⟩,
  ⟨(with1 11 (fun (s : State) => { s with acb := { s.acb with table := [⟨3, 3, 0, 0, 40⟩] }})) State.reset, (0 : Fin 2), (Option.get (((with1 11 (fun (s : State) => { s with acb := { s.acb with table := [⟨3, 3, 0, 0, 40⟩] }})) State.reset).nextRec ((0 : Fin 2).val) true 0) (by decide +kernel)), shape_of (by decide +kernel), by decide +kernel⟩,
  ⟨(fun (s : State) => with1 12 (fun (s : State) => (((s.wr F.PST_CSTAT_STATE 1 0).wr F.TAP_CTRL_ACCEPT_WCHUNK 1 0).updCtx 0 fun x => { x with plan := x.plan.map fun p => { p with manifest := List.replicate 2 (Config.sha384 (natLe 4 0 ++ natLe 4 0 ++ natLe 4 1 ++ natLe 4 0 ++ natLe 2 77)) } })) s) State.reset, (0 : Fin 2), (Option.get (((fun (s : State) => with1 12 (fun (s : State) => (((s.wr F.PST_CSTAT_STATE 1 0).wr F.TAP_CTRL_ACCEPT_WCHUNK 1 0).updCtx 0 fun x => { x with plan := x.plan.map fun p => { p with manifest := List.replicate 2 (Config.sha384 (natLe 4 0 ++ natLe 4 0 ++ natLe 4 1 ++ natLe 4 0 ++ natLe 2 77)) } })) s) State.reset).nextRec ((0 : Fin 2).val) true 0) (by decide +kernel)), (Option.get (((fun (s : State) => with1 12 (fun (s : State) => (((s.wr F.PST_CSTAT_STATE 1 0).wr F.TAP_CTRL_ACCEPT_WCHUNK 1 0).updCtx 0 fun x => { x with plan := x.plan.map fun p => { p with manifest := List.replicate 2 (Config.sha384 (natLe 4 0 ++ natLe 4 0 ++ natLe 4 1 ++ natLe 4 0 ++ natLe 2 77)) } })) s) State.reset).mat (bits 3 0 (Option.get (((fun (s : State) => with1 12 (fun (s : State) => (((s.wr F.PST_CSTAT_STATE 1 0).wr F.TAP_CTRL_ACCEPT_WCHUNK 1 0).updCtx 0 fun x => { x with plan := x.plan.map fun p => { p with manifest := List.replicate 2 (Config.sha384 (natLe 4 0 ++ natLe 4 0 ++ natLe 4 1 ++ natLe 4 0 ++ natLe 2 77)) } })) s) State.reset).nextRec ((0 : Fin 2).val) true 0) (by decide +kernel)).hinfo) (Option.get (((fun (s : State) => with1 12 (fun (s : State) => (((s.wr F.PST_CSTAT_STATE 1 0).wr F.TAP_CTRL_ACCEPT_WCHUNK 1 0).updCtx 0 fun x => { x with plan := x.plan.map fun p => { p with manifest := List.replicate 2 (Config.sha384 (natLe 4 0 ++ natLe 4 0 ++ natLe 4 1 ++ natLe 4 0 ++ natLe 2 77)) } })) s) State.reset).nextRec ((0 : Fin 2).val) true 0) (by decide +kernel)).site) (by decide +kernel)), (Option.get (((fun (s : State) => with1 12 (fun (s : State) => (((s.wr F.PST_CSTAT_STATE 1 0).wr F.TAP_CTRL_ACCEPT_WCHUNK 1 0).updCtx 0 fun x => { x with plan := x.plan.map fun p => { p with manifest := List.replicate 2 (Config.sha384 (natLe 4 0 ++ natLe 4 0 ++ natLe 4 1 ++ natLe 4 0 ++ natLe 2 77)) } })) s) State.reset).matD (bits 3 0 (Option.get (((fun (s : State) => with1 12 (fun (s : State) => (((s.wr F.PST_CSTAT_STATE 1 0).wr F.TAP_CTRL_ACCEPT_WCHUNK 1 0).updCtx 0 fun x => { x with plan := x.plan.map fun p => { p with manifest := List.replicate 2 (Config.sha384 (natLe 4 0 ++ natLe 4 0 ++ natLe 4 1 ++ natLe 4 0 ++ natLe 2 77)) } })) s) State.reset).nextRec ((0 : Fin 2).val) true 0) (by decide +kernel)).hinfo) (Option.get (((fun (s : State) => with1 12 (fun (s : State) => (((s.wr F.PST_CSTAT_STATE 1 0).wr F.TAP_CTRL_ACCEPT_WCHUNK 1 0).updCtx 0 fun x => { x with plan := x.plan.map fun p => { p with manifest := List.replicate 2 (Config.sha384 (natLe 4 0 ++ natLe 4 0 ++ natLe 4 1 ++ natLe 4 0 ++ natLe 2 77)) } })) s) State.reset).nextRec ((0 : Fin 2).val) true 0) (by decide +kernel)).site) (by decide +kernel)), (Option.get ((((fun (s : State) => with1 12 (fun (s : State) => (((s.wr F.PST_CSTAT_STATE 1 0).wr F.TAP_CTRL_ACCEPT_WCHUNK 1 0).updCtx 0 fun x => { x with plan := x.plan.map fun p => { p with manifest := List.replicate 2 (Config.sha384 (natLe 4 0 ++ natLe 4 0 ++ natLe 4 1 ++ natLe 4 0 ++ natLe 2 77)) } })) s) State.reset).ctx (bits 3 0 (Option.get (((fun (s : State) => with1 12 (fun (s : State) => (((s.wr F.PST_CSTAT_STATE 1 0).wr F.TAP_CTRL_ACCEPT_WCHUNK 1 0).updCtx 0 fun x => { x with plan := x.plan.map fun p => { p with manifest := List.replicate 2 (Config.sha384 (natLe 4 0 ++ natLe 4 0 ++ natLe 4 1 ++ natLe 4 0 ++ natLe 2 77)) } })) s) State.reset).nextRec ((0 : Fin 2).val) true 0) (by decide +kernel)).hinfo)).plan) (by decide +kernel)), shape_of (by decide +kernel), by rfl, by rfl, by decide +kernel⟩⟩

/-- XFS sends and XFC compares a projected transfer, or they end NOT DONE: states that meet the hypotheses of its clauses. -/
theorem test_TransferCommands :
  (∃ (s : State) (q : Fin 48) (j : Job) (r : Slot) (p : Plan) (c : Cmd) (d : XferD), s.Runs (q.val) j r p c ∧ c.sub = 0 ∧
    p.xferD (j.siteOf (bits 95 80 c)) = some d ∧ d.site = j.siteOf (bits 95 80 c) ∧ c.opc = 9 ∧ (∀ (x : XKey), x ∈ s.reed.sent → x.purpose ≠ 1)) ∧
  (∃ (s : State) (q : Fin 48) (j : Job) (r : Slot) (p : Plan) (c : Cmd) (d : XferD) (td : TensD) (ys : List Dy) (k : XKey), s.Runs (q.val) j r p c ∧
    c.sub = 0 ∧ p.xferD (j.siteOf (bits 95 80 c)) = some d ∧ d.site = j.siteOf (bits 95 80 c) ∧
    p.tref (j.siteOf (bits 95 80 c)) (bits 39 24 c) = some td ∧ grouped td.fmt = false ∧ bits 18 16 c = 0 ∧
    (finite (List.map (fun k ↦ r.val td j.token (bits 59 40 c + k)) (List.range (bits 79 60 c))) = some (some ys)) ∧ c.opc = 9 ∧
    d.pairs = [((s.st j.stream).sidx, 7)] ∧ s.sendKeyFor d.site 7 j.resseq = some k) ∧
  (∃ (s : State) (q : Fin 48) (j : Job) (r : Slot) (p : Plan) (c : Cmd) (d : XferD) (td : TensD) (ys : List Dy) (k : XKey), s.Runs (q.val) j r p c ∧
    c.sub = 0 ∧ p.xferD (j.siteOf (bits 95 80 c)) = some d ∧ d.site = j.siteOf (bits 95 80 c) ∧
    p.tref (j.siteOf (bits 95 80 c)) (bits 39 24 c) = some td ∧ grouped td.fmt = false ∧ bits 18 16 c = 0 ∧
    (finite (List.map (fun k ↦ r.val td j.token (bits 59 40 c + k)) (List.range (bits 79 60 c))) = some (some ys)) ∧ c.opc = 10 ∧
    s.peerGone d.peer = false ∧ s.reed.pend = [] ∧ keyFor s.reed.recv d.site j.stream j.resseq = some k ∧
    ((s.lq q.val).wins.getD (bits 21 19 c) Win.zero).n + bits 79 60 c ≤ 262144) ∧
  (∃ (s : State) (q : Fin 48) (j : Job) (r : Slot) (p : Plan) (c : Cmd) (d : XferD), s.Runs (q.val) j r p c ∧ c.sub = 0 ∧
    p.xferD (j.siteOf (bits 95 80 c)) = some d ∧ d.site = j.siteOf (bits 95 80 c) ∧ c.opc = 10 ∧ s.peerGone d.peer = true) ∧
  (∃ (s : State) (q : Fin 48) (j : Job) (p : Plan) (c : Cmd) (d : XferD) (at_ : Nat), s.xfcHead q.val = some (j, p, c, d) ∧ j.xfc = some at_ ∧
    j.purge = false ∧ j.failed = false) :=
  ⟨⟨(xr [c_xfs] id) State.reset, (3 : Fin 48), ((headOf ((xr [c_xfs] id) State.reset) ((3 : Fin 48).val)).1), ((resOf ((xr [c_xfs] id) State.reset) (headOf ((xr [c_xfs] id) State.reset) ((3 : Fin 48).val)).1)), ((headOf ((xr [c_xfs] id) State.reset) ((3 : Fin 48).val)).2.1), ((headOf ((xr [c_xfs] id) State.reset) ((3 : Fin 48).val)).2.2), ({ site := 5, k := 1, peer := 7, timeoutUs := 4, sends := true, pairs := [(0, 7)], producers := [], sems := [] } : XferD), runs_of (heads_of (shape_of (by decide +kernel)) (by decide +kernel)) (by decide +kernel), by decide +kernel⟩,
  ⟨(xr [c_xfs] fun (s : State) => { s with reed := { s.reed with sent := [⟨1, 5, 7, 1, 1, 0, 9, 0, true⟩] } }) State.reset, (3 : Fin 48), ((headOf ((xr [c_xfs] fun (s : State) => { s with reed := { s.reed with sent := [⟨1, 5, 7, 1, 1, 0, 9, 0, true⟩] } }) State.reset) ((3 : Fin 48).val)).1), ((resOf ((xr [c_xfs] fun (s : State) => { s with reed := { s.reed with sent := [⟨1, 5, 7, 1, 1, 0, 9, 0, true⟩] } }) State.reset) (headOf ((xr [c_xfs] fun (s : State) => { s with reed := { s.reed with sent := [⟨1, 5, 7, 1, 1, 0, 9, 0, true⟩] } }) State.reset) ((3 : Fin 48).val)).1)), ((headOf ((xr [c_xfs] fun (s : State) => { s with reed := { s.reed with sent := [⟨1, 5, 7, 1, 1, 0, 9, 0, true⟩] } }) State.reset) ((3 : Fin 48).val)).2.1), ((headOf ((xr [c_xfs] fun (s : State) => { s with reed := { s.reed with sent := [⟨1, 5, 7, 1, 1, 0, 9, 0, true⟩] } }) State.reset) ((3 : Fin 48).val)).2.2), ({ site := 5, k := 1, peer := 7, timeoutUs := 4, sends := true, pairs := [(0, 7)], producers := [], sems := [] } : XferD), ({ num := 0, count := 2, fmt := 9, mx := false } : TensD), ([{ m := 1024, e := -10 }, { m := 1024, e := -9 }] : List Dy), ({ purpose := 1, site := 5, stream := 7, peer := 1, kgen := 1, fromRes := 0, key := 9, drawnAt := 0, acked := true } : XKey), runs_of (heads_of (shape_of (by decide +kernel)) (by decide +kernel)) (by decide +kernel), by decide +kernel⟩,
  ⟨(xr [c_xfc] fun (s : State) => { s with reed := { s.reed with recv := [⟨1, 5, 3, 1, 1, 0, 9, 0, true⟩] } }) State.reset, (3 : Fin 48), ((headOf ((xr [c_xfc] fun (s : State) => { s with reed := { s.reed with recv := [⟨1, 5, 3, 1, 1, 0, 9, 0, true⟩] } }) State.reset) ((3 : Fin 48).val)).1), ((resOf ((xr [c_xfc] fun (s : State) => { s with reed := { s.reed with recv := [⟨1, 5, 3, 1, 1, 0, 9, 0, true⟩] } }) State.reset) (headOf ((xr [c_xfc] fun (s : State) => { s with reed := { s.reed with recv := [⟨1, 5, 3, 1, 1, 0, 9, 0, true⟩] } }) State.reset) ((3 : Fin 48).val)).1)), ((headOf ((xr [c_xfc] fun (s : State) => { s with reed := { s.reed with recv := [⟨1, 5, 3, 1, 1, 0, 9, 0, true⟩] } }) State.reset) ((3 : Fin 48).val)).2.1), ((headOf ((xr [c_xfc] fun (s : State) => { s with reed := { s.reed with recv := [⟨1, 5, 3, 1, 1, 0, 9, 0, true⟩] } }) State.reset) ((3 : Fin 48).val)).2.2), ({ site := 5, k := 1, peer := 7, timeoutUs := 4, sends := true, pairs := [(0, 7)], producers := [], sems := [] } : XferD), ({ num := 0, count := 2, fmt := 9, mx := false } : TensD), ([{ m := 1024, e := -10 }, { m := 1024, e := -9 }] : List Dy), ({ purpose := 1, site := 5, stream := 3, peer := 1, kgen := 1, fromRes := 0, key := 9, drawnAt := 0, acked := true } : XKey), runs_of (heads_of (shape_of (by decide +kernel)) (by decide +kernel)) (by decide +kernel), by decide +kernel⟩,
  ⟨(xr [c_xfc] fun (s : State) => { s with reed := { s.reed with down := [7] } }) State.reset, (3 : Fin 48), ((headOf ((xr [c_xfc] fun (s : State) => { s with reed := { s.reed with down := [7] } }) State.reset) ((3 : Fin 48).val)).1), ((resOf ((xr [c_xfc] fun (s : State) => { s with reed := { s.reed with down := [7] } }) State.reset) (headOf ((xr [c_xfc] fun (s : State) => { s with reed := { s.reed with down := [7] } }) State.reset) ((3 : Fin 48).val)).1)), ((headOf ((xr [c_xfc] fun (s : State) => { s with reed := { s.reed with down := [7] } }) State.reset) ((3 : Fin 48).val)).2.1), ((headOf ((xr [c_xfc] fun (s : State) => { s with reed := { s.reed with down := [7] } }) State.reset) ((3 : Fin 48).val)).2.2), (Option.get ((((headOf ((xr [c_xfc] fun (s : State) => { s with reed := { s.reed with down := [7] } }) State.reset) ((3 : Fin 48).val)).2.1) : Plan).xferD ((((headOf ((xr [c_xfc] fun (s : State) => { s with reed := { s.reed with down := [7] } }) State.reset) ((3 : Fin 48).val)).1) : Job).siteOf (bits 95 80 (((headOf ((xr [c_xfc] fun (s : State) => { s with reed := { s.reed with down := [7] } }) State.reset) ((3 : Fin 48).val)).2.2) : Cmd)))) (by decide +kernel)), runs_of (heads_of (shape_of (by decide +kernel)) (by decide +kernel)) (by decide +kernel), by decide +kernel⟩,
  ⟨(xr [c_xfc] fun (s : State) => s.updLq 3 fun l => { l with waiting := true, jobs := l.jobs.map fun j => { j with xfc := some 77 } }) State.reset, (3 : Fin 48), ({ pc := 0, ctx := 0, stream := 3, resseq := 2, site := 5, token := 0, bank := 0, replay := false, fallback := false, enq := 0, chk := 3, cur := 0, started := true, failed := false, notDone := false, purge := false, sigs := 0, wais := 0, ldps := 0, skipS := 0, skipW := 0, skipL := 0, xfc := some 77, xgen := 0, rslot := 0, pos := 0, again := false, lost := false, vdu := false, sat := false } : Job), ({ hash := 7, slot := 0, rollback := 0, imglen := 0, modelId := [], build := 0, sites := [{ site := 5, stype := 0, fmtIn := 2, fmtW := 2, fmtOut := 9, mx := false, rnd := 0, subn := 0, sat := 1, accFmt := 0, accDepth := 0, tolc := 0, ftol := 0, func := 0, gammaAcc := 0, epsAbs := 0 }, { site := 6, stype := 2, fmtIn := 2, fmtW := 2, fmtOut := 9, mx := false, rnd := 0, subn := 0, sat := 1, accFmt := 0, accDepth := 0, tolc := 0, ftol := 0, func := 0, gammaAcc := 0, epsAbs := 0 }, { site := 7, stype := 0, fmtIn := 2, fmtW := 2, fmtOut := 9, mx := false, rnd := 0, subn := 0, sat := 1, accFmt := 0, accDepth := 0, tolc := 0, ftol := 0, func := 0, gammaAcc := 0, epsAbs := 0 }], mats := [{ site := 5, k := 1, resid := false, streamed := false, gather := false, dOut := 2, dIn := 2, firstEntry := 0, nchunk := 2 }], manifest := [0, 0], prog := [79226953590750565973582938122], streams := [{ sidx := 0, cls := 2, port := 0, ovr := 0, rateMax := 1, deadlineUs := 20, ntokMax := 1, minPpm := 0, planPpm := 0, required := 0, sarPairs := 0, retain := 0, nPlan := 0, kvwin := 256, semBanks := 2, ingressPeak := 0, tPlan := 0, laneops := 0, vslots := 0, macs := 0, dramBytes := 0, tapBytes := 0, latUs := 0, envState := 0 }], shed := [], lu := [(5, 10)], graph := { tensors := [{ num := 0, count := 2, fmt := 9, mx := false }, { num := 1, count := 2, fmt := 2, mx := false }, { num := 2, count := 2, fmt := 10, mx := false }, { num := 3, count := 1, fmt := 1, mx := false }], ports := [(5, 0, 0), (5, 1, 1), (6, 2, 2)], opnds := [(5, [0, 1, 2, 3])], attn := [{ site := 5, layer := 0, qHeads := 1, kvHeads := 1, dHead := 1, window := 0, kvSite := 5, qOff := 0, kOff := 0, vOff := 0, outTensor := 1, plain := false }], routers := [{ site := 5, logits := 2, experts := 2, topK := 1, renorm := false, gateSite := 5, expertSites := [[], []] }], inputs := [], retained := [] }, groups := [], queues := [{ pages := 1, flags := 3, state := 0, fallback := false }], sem := { bank := 2, planWide := 1, sar := [], cmds := [], commit := [], rebuild := [], landed := [], commitJobs := [], rebuildJobs := [] }, tok := [{ site := 5, gumbel := false, temp := 0, topK := 0 }], xfer := [{ site := 5, k := 1, peer := 7, timeoutUs := 4, sends := true, pairs := [(0, 7)], producers := [], sems := [] }], binds := [], bindKey := 0, const := [] } : Plan), (79226953590750565973582938122 : Cmd), ({ site := 5, k := 1, peer := 7, timeoutUs := 4, sends := true, pairs := [(0, 7)], producers := [], sems := [] } : XferD), (77 : Nat), by decide +kernel⟩⟩

/-- Faults, rotation, hand-over, self-test and return change the roles of the tally engines: states that meet the hypotheses of its clauses. -/
theorem test_RolesOfTheTallyEngines :
  (∃ (s : State) (e : Fin 4), s.tes.length = 4 ∧ s.lqs.length = 48 ∧ s.engClk = true ∧ s.teRuns e.val = true ∧ s.teIdle e.val = true ∧
    s.on F.TE_CTRL_NOGATE e.val = false ∧ s.on F.TE_STAT_GATED e.val = false) ∧
  (∃ (s : State) (e : Fin 4) (u : Fin 4), s.tes.length = 4 ∧ s.lqs.length = 48 ∧ s.engClk = true ∧ s.roleOf e.val = 2 ∧ s.handable e.val = true ∧
    s.roleOf u.val = 5 ∧ (∀ (v : Fin 4), s.roleOf ↑v = 5 → v = u) ∧ (s.te u.val).taking = some e.val ∧ s.on F.TE_CTRL_EN e.val = true ∧
    s.on F.TE_CTRL_EN u.val = true) ∧
  (∃ (s : State) (e : Fin 4), s.tes.length = 4 ∧ s.lqs.length = 48 ∧ s.engClk = true ∧ (s.roleOf e.val = 3 ∨ s.roleOf e.val = 7) ∧ s.slots = []) ∧
  (∃ (s : State) (e : Fin 4) (q : Fin 48), s.tes.length = 4 ∧ s.lqs.length = 48 ∧ s.engClk = true ∧ s.roleOf e.val = 5 ∧ s.slots = [] ∧
    s.on F.TE_CTRL_EN e.val = true ∧ (∀ (v : Nat), (s.te e.val).taking = some v → s.roleOf v ≠ 2) ∧ (s.lq q.val).eng = some e.val ∧
    (s.lq q.val).copying = true ∧ (s.lq q.val).jobs ≠ []) :=
  ⟨⟨(rl 2 5 fun (s : State) => (s.wr F.TE_CTRL_EN 1 1).updLq 3 fun l => { l with waiting := true }) State.reset, (2 : Fin 4), by decide +kernel⟩,
  ⟨(rl 2 5 fun (s : State) => s.updLq 3 fun l => { l with waiting := true }) State.reset, (1 : Fin 4), (2 : Fin 4), by decide +kernel⟩,
  ⟨(rl 3 7 id) State.reset, (1 : Fin 4), by decide +kernel⟩,
  ⟨(rl 5 1 fun (s : State) => s.wr F.TE_CTRL_EN 1 1 |>.updLq 3 fun l => { l with copying := true }) State.reset, (1 : Fin 4), (3 : Fin 48), by decide +kernel⟩⟩

/-- Key-up installs a matrix, and keys are renewed by age and on demand: states that meet the hypotheses of its clauses. -/
theorem test_KeyUpInstallAndRekey :
  (∃ (s : State) (c : Fin 16), s.ctxs.length = 16 ∧ s.rd F.PST_CSTAT_STATE c.val = 1 ∧ (∀ (x : MatK), x ∈ (s.ctx c.val).mats → x.vecs ≠ [])) ∧
  (∃ (s : State) (c : Fin 16), s.ctxs.length = 16 ∧ s.rd F.PST_CSTAT_STATE c.val = 1 ∧ (∃ x, x ∈ (s.ctx c.val).mats ∧ x.vecs = [])) ∧
  (∃ (s : State) (c : Fin 16), s.Takes 15 ∧ s.ctxs.length = 16 ∧ s.rd F.PST_CSTAT_STATE c.val = 1) ∧
  (∃ (s : State) (c : Fin 16), s.ctxs.length = 16 ∧ s.rd F.PST_CSTAT_STATE c.val = 1 ∧ (s.ctx c.val).kupTo = false) ∧
  (∃ (s : State) (c : Fin 16) (site : BitVec 16) (m : MatK) (d : MatD), s.ctxs.length = 16 ∧ s.mat (c.val) site.toNat = some m ∧
    s.matD (c.val) site.toNat = some d ∧ m.openK = true ∧ m.keys ≠ [] ∧ d.nchunk ≤ m.chunks.length ∧ s.bgLane = true ∧
    s.pst.cur ≠ some (c.val, site.toNat)) ∧
  (∃ (s : State) (c : Fin 16) (site : BitVec 16) (m : MatK) (d : MatD), s.ctxs.length = 16 ∧ s.mat (c.val) site.toNat = some m ∧
    s.matD (c.val) site.toNat = some d ∧ m.openK = true ∧ m.keys ≠ [] ∧ d.nchunk ≤ m.chunks.length ∧ s.bgLane = true ∧
    s.pst.cur = some (c.val, site.toNat)) ∧
  (∃ (s : State) (c : Fin 16) (site : BitVec 16) (m : MatK), s.ctxs.length = 16 ∧ s.installed (c.val) site.toNat = some m ∧ m.req = false) ∧
  (∃ (s : State) (c : Fin 16) (site : BitVec 16) (m : MatK), s.ctxs.length = 16 ∧ s.installed (c.val) site.toNat = some m ∧ m.late = false) ∧
  (∃ (s : State) (c : Fin 16) (site : BitVec 16) (m : MatK), s.ctxs.length = 16 ∧ s.installed (c.val) site.toNat = some m ∧ m.expired = false) :=
  ⟨⟨(ms 1 mk id) State.reset, (0 : Fin 16), by decide +kernel⟩,
  ⟨(fun (s : State) => ms 1 { mk with vecs := [] } id s) State.reset, (0 : Fin 16), by decide +kernel⟩,
  ⟨(ms 1 mk id) State.reset, (0 : Fin 16), by unfold State.Takes; decide +kernel, by decide +kernel⟩,
  ⟨(ms 1 mk id) State.reset, (0 : Fin 16), by decide +kernel⟩,
  ⟨(ms 1 { mk with keys := [9], chunks := [1, 0], openK := true } fun (s : State) => { s with pst := ⟨[], none, [], 0⟩ }) State.reset, (0 : Fin 16), (0x0005#16 : BitVec 16), (Option.get (((ms 1 { mk with keys := [9], chunks := [1, 0], openK := true } fun (s : State) => { s with pst := ⟨[], none, [], 0⟩ }) State.reset).mat ((0 : Fin 16).val) (0x0005#16 : BitVec 16).toNat) (by decide +kernel)), ({ site := 5, k := 1, resid := false, streamed := false, gather := false, dOut := 2, dIn := 2, firstEntry := 0, nchunk := 2 } : MatD), by decide +kernel⟩,
  ⟨(ms 2 { mk with keys := [9], chunks := [1, 0], openK := true } fun (s : State) => { s with pst := ⟨[], some (0, 5), [], 0⟩ }) State.reset, (0 : Fin 16), (0x0005#16 : BitVec 16), (Option.get (((ms 2 { mk with keys := [9], chunks := [1, 0], openK := true } fun (s : State) => { s with pst := ⟨[], some (0, 5), [], 0⟩ }) State.reset).mat ((0 : Fin 16).val) (0x0005#16 : BitVec 16).toNat) (by decide +kernel)), ({ site := 5, k := 1, resid := false, streamed := false, gather := false, dOut := 2, dIn := 2, firstEntry := 0, nchunk := 2 } : MatD), by decide +kernel⟩,
  ⟨(ms 2 { mk with openK := false } id) State.reset, (0 : Fin 16), (0x0005#16 : BitVec 16), (Option.get (((ms 2 { mk with openK := false } id) State.reset).installed ((0 : Fin 16).val) (0x0005#16 : BitVec 16).toNat) (by decide +kernel)), by decide +kernel⟩,
  ⟨(ms 2 { mk with openK := false } id) State.reset, (0 : Fin 16), (0x0005#16 : BitVec 16), (Option.get (((ms 2 { mk with openK := false } id) State.reset).installed ((0 : Fin 16).val) (0x0005#16 : BitVec 16).toNat) (by decide +kernel)), by decide +kernel⟩,
  ⟨(ms 2 { mk with openK := false } id) State.reset, (0 : Fin 16), (0x0005#16 : BitVec 16), (Option.get (((ms 2 { mk with openK := false } id) State.reset).installed ((0 : Fin 16).val) (0x0005#16 : BitVec 16).toNat) (by decide +kernel)), by decide +kernel⟩⟩

/-- Jobs start and load; a job that failed, is not done or is purged passes its compute commands over: states that meet the hypotheses of its clauses. -/
theorem test_JobsStartLoadAndSkip :
  (∃ (s : State) (q : Fin 48) (j : Job) (js : List Job) (e : Nat), s.Shape ∧ (s.lq q.val).eng = some e ∧ (s.lq q.val).jobs = j :: js ∧
    s.teStarts e = true ∧ s.moving q.val = false ∧ j.started = false ∧ (s.lq q.val).ldps = [] ∧ s.bpAll = s) ∧
  (∃ (s : State) (q : Fin 48) (j : Job) (p : Plan) (c : Cmd), s.Shape ∧ s.Heads (q.val) j p c ∧ c.opc = 1 ∧ j.skipL = 0 ∧
    s.ldpCount (s.engOf q.val) < 4 ∧ (s.slotOf j.stream j.resseq).isSome = true ∧ (p.matD (j.siteOf (bits 103 88 c))).isSome = true) ∧
  (∃ (s : State) (q : Fin 48) (d : Ldp) (ds : List Ldp) (x : Scr), s.Shape ∧ (s.lq q.val).ldps = d :: ds ∧ d.data = some x ∧
    (s.lq q.val).waiting = false) ∧
  (∃ (s : State) (q : Fin 48) (d : Ldp) (ds : List Ldp) (x : Scr), s.Shape ∧ (s.lq q.val).ldps = d :: ds ∧ d.data = some x ∧ d.segs ≠ [] ∧
    (Option.map (fun x ↦ x.started) (s.lq q.val).jobs.head? = some true)) ∧
  (∃ (s : State) (q : Fin 48) (j : Job) (js : List Job) (p : Plan) (c : Cmd) (x : Instr × Nat × Nat), s.Heads (q.val) j p c ∧
    (s.lq q.val).jobs = j :: js ∧ (j.failed || j.notDone || j.purge) = true ∧
    x ∈ [(Instr.pry q, 2, 0), (Instr.dtxProj q, 3, 0), (Instr.dtxSqsum q, 3, 1), (Instr.dtxSum q, 3, 2), (Instr.dtxDot q, 3, 3), (Instr.cmpb q, 4, 0), (Instr.resxAcc q, 5, 0), (Instr.resxInput q, 5, 1), (Instr.resxCmp q, 5, 2), (Instr.elm q, 6, 0), (Instr.rteSelect q, 7, 0), (Instr.rteGate q, 7, 1), (Instr.tokslice q, 7, 2), (Instr.tokjoin q, 7, 3), (Instr.envCheck q, 8, 0), (Instr.envAddrow q, 8, 1), (Instr.envCommit q, 8, 2), (Instr.envRebuild q, 8, 3), (Instr.envRecomp q, 8, 4), (Instr.xfs q, 9, 0), (Instr.xfc q, 10, 0)] ∧
    c.opc = x.snd.fst ∧ c.sub = x.snd.snd) :=
  ⟨⟨(fun (s : State) => (fun (s : State) => {s with mnt := Mantis.reset, lqs := updAt (fun l => { l with jobs := [{job with started := false}] }) 3 s.lqs}) (run_ [c_ldp] job s)) State.reset, (3 : Fin 48), ({ pc := 0, ctx := 0, stream := 3, resseq := 2, site := 5, token := 0, bank := 0, replay := false, fallback := false, enq := 0, chk := 3, cur := 0, started := false, failed := false, notDone := false, purge := false, sigs := 0, wais := 0, ldps := 0, skipS := 0, skipW := 0, skipL := 0, xfc := none, xgen := 0, rslot := 0, pos := 0, again := false, lost := false, vdu := false, sat := false } : Job), ([] : List Job), (1 : Nat), shape_of (by decide +kernel), by decide +kernel⟩,
  ⟨(fun (s : State) => (fun (s : State) => {s with mnt := Mantis.reset, lqs := updAt (fun l => { l with flags := [3,3,3], ldps := [⟨1, 5, some (.vec 5 0 0 0 []), [0]⟩] }) 3 s.lqs}) (run_ [c_ldp] job s)) State.reset, (3 : Fin 48), ((headOf ((fun (s : State) => (fun (s : State) => {s with mnt := Mantis.reset, lqs := updAt (fun l => { l with flags := [3,3,3], ldps := [⟨1, 5, some (.vec 5 0 0 0 []), [0]⟩] }) 3 s.lqs}) (run_ [c_ldp] job s)) State.reset) ((3 : Fin 48).val)).1), ((headOf ((fun (s : State) => (fun (s : State) => {s with mnt := Mantis.reset, lqs := updAt (fun l => { l with flags := [3,3,3], ldps := [⟨1, 5, some (.vec 5 0 0 0 []), [0]⟩] }) 3 s.lqs}) (run_ [c_ldp] job s)) State.reset) ((3 : Fin 48).val)).2.1), ((headOf ((fun (s : State) => (fun (s : State) => {s with mnt := Mantis.reset, lqs := updAt (fun l => { l with flags := [3,3,3], ldps := [⟨1, 5, some (.vec 5 0 0 0 []), [0]⟩] }) 3 s.lqs}) (run_ [c_ldp] job s)) State.reset) ((3 : Fin 48).val)).2.2), shape_of (by decide +kernel), heads_of (shape_of (by decide +kernel)) (by decide +kernel), by decide +kernel⟩,
  ⟨(fun (s : State) => (fun (s : State) => {s with mnt := Mantis.reset, lqs := updAt (fun l => { l with flags := [3,3,3], ldps := [⟨1, 5, some (.vec 5 0 0 0 []), [0]⟩] }) 3 s.lqs}) (run_ [c_ldp] job s)) State.reset, (3 : Fin 48), ({ flag := 1, dst := 5, data := some (Scr.vec 5 0 0 0 []), segs := [0] } : Ldp), ([] : List Ldp), (Scr.vec 5 0 0 0 [] : Scr), shape_of (by decide +kernel), by decide +kernel⟩,
  ⟨(fun (s : State) => (fun (s : State) => {s with mnt := Mantis.reset, lqs := updAt (fun l => { l with flags := [3,3,3], ldps := [⟨1, 5, some (.vec 5 0 0 0 []), [0]⟩] }) 3 s.lqs}) (run_ [c_ldp] job s)) State.reset, (3 : Fin 48), ({ flag := 1, dst := 5, data := some (Scr.vec 5 0 0 0 []), segs := [0] } : Ldp), ([] : List Ldp), (Scr.vec 5 0 0 0 [] : Scr), shape_of (by decide +kernel), by decide +kernel⟩,
  ⟨(fun (s : State) => (fun (s : State) => {s with mnt := Mantis.reset, lqs := updAt (fun l => { l with jobs := [{job with failed := true}] }) 3 s.lqs}) (run_ [c_pry1] job s)) State.reset, (3 : Fin 48), ((headOf ((fun (s : State) => (fun (s : State) => {s with mnt := Mantis.reset, lqs := updAt (fun l => { l with jobs := [{job with failed := true}] }) 3 s.lqs}) (run_ [c_pry1] job s)) State.reset) ((3 : Fin 48).val)).1), ([] : List Job), ((headOf ((fun (s : State) => (fun (s : State) => {s with mnt := Mantis.reset, lqs := updAt (fun l => { l with jobs := [{job with failed := true}] }) 3 s.lqs}) (run_ [c_pry1] job s)) State.reset) ((3 : Fin 48).val)).2.1), ((headOf ((fun (s : State) => (fun (s : State) => {s with mnt := Mantis.reset, lqs := updAt (fun l => { l with jobs := [{job with failed := true}] }) 3 s.lqs}) (run_ [c_pry1] job s)) State.reset) ((3 : Fin 48).val)).2.2), ((Instr.pry 3, 2, 0) : Instr × Nat × Nat), heads_of (shape_of (by decide +kernel)) (by decide +kernel), by decide +kernel⟩⟩

/-- Signals count, waits block and subtract, DONE reports, and semaphores are initialised, abandoned and unlocked: states that meet the hypotheses of its clauses. -/
theorem test_SignalsWaitsAndSemaphores :
  (∃ (s : State) (src : BitVec 4) (c : Fin 16) (n : BitVec 14), s.slots = [] ∧ s.mnt.waitSar = [] ∧ src ≠ 9 ∧ s.rd F.SEM_SSTAT_STATE n.toNat = 1 ∧
    s.rd F.SEM_SSTAT_CTX n.toNat = c.val ∧ (∀ (w : SemWait), w ∈ s.sem.waits → w.sem ≠ n.toNat)) ∧
  (∃ (s : State) (src : BitVec 4) (n : BitVec 14), s.slots = [] ∧ s.mnt.waitSar = [] ∧ src = 9 ∧ s.rd F.SEM_SSTAT_REMOTE n.toNat = 0) ∧
  (∃ (s : State), s.slots = [] ∧ s.mnt.waitSar = [] ∧ s.deadlocked = true) ∧
  (∃ (s : State), s.slots = [] ∧ s.mnt.waitSar = [] ∧ s.deadlocked = false ∧ s.watch = s) ∧
  (∃ (s : State) (n : BitVec 14), s.Takes 5 ∧ s.slots = [] ∧ s.mnt.waitSar = [] ∧ s.rd F.SEM_SSTAT_STATE n.toNat = 2) ∧
  (∃ (s : State) (n : BitVec 14), s.Takes 5 ∧ s.slots = [] ∧ s.mnt.waitSar = [] ∧ s.rd F.SEM_SSTAT_STATE n.toNat ≠ 2) ∧
  (∃ (s : State) (n : BitVec 14), s.Takes 5 ∧ s.slots = [] ∧ s.mnt.waitSar = [] ∧ s.rd F.SEM_SSTAT_STATE n.toNat = 1 ∧
    (∀ (x : Machine.Stream), x ∈ s.streams → x.banks = [])) ∧
  (∃ (s : State) (n : BitVec 14), s.Takes 5 ∧ s.slots = [] ∧ s.mnt.waitSar = [] ∧ s.rd F.SEM_SSTAT_STATE n.toNat ≠ 1) ∧
  (∃ (s : State) (q : Fin 48) (j : Job) (p : Plan) (c : Cmd), s.Heads (q.val) j p c ∧ s.Still ∧ c.opc = 11 ∧ j.skipS = 0 ∧ bit 0 c.sub = true ∧
    bits 17 16 c < s.flagsOf q.val) ∧
  (∃ (s : State) (q : Fin 48) (j : Job) (p : Plan) (c : Cmd) (k : Nat), s.Heads (q.val) j p c ∧ s.Still ∧ c.opc = 11 ∧ j.skipS = 0 ∧
    bit 0 c.sub = false ∧ bits 45 40 c = 63 ∧ bit 30 c = false ∧ s.semAbs j.ctx j.bank (bits 29 16 c) false = some k ∧ s.rd F.SEM_SSTAT_STATE k = 1 ∧
    s.rd F.SEM_SSTAT_CTX k = j.ctx ∧ (∀ (w : SemWait), w ∈ s.sem.waits → w.sem ≠ k)) ∧
  (∃ (s : State) (q : Fin 48) (j : Job) (p : Plan) (c : Cmd), s.Heads (q.val) j p c ∧ s.Still ∧ c.opc = 12 ∧ j.skipW = 0 ∧ bit 0 c.sub = true ∧
    bits 17 16 c < s.flagsOf q.val ∧ bits 47 32 c ≤ s.flag (q.val) (bits 17 16 c)) ∧
  (∃ (s : State) (q : Fin 48) (j : Job) (p : Plan) (c : Cmd) (k : Nat), s.Heads (q.val) j p c ∧ s.Still ∧ c.opc = 12 ∧ j.skipW = 0 ∧
    bit 0 c.sub = false ∧ bit 30 c = false ∧ s.semAbs j.ctx j.bank (bits 29 16 c) false = some k ∧ s.rd F.SEM_SSTAT_STATE k = 1 ∧
    (∀ (w : SemWait), w ∈ s.sem.waits → w.sem ≠ k) ∧ bits 47 32 c ≤ s.rd F.SEM_SSTAT_COUNT k) ∧
  (∃ (s : State) (q : Fin 48) (j : Job) (p : Plan) (c : Cmd) (k : Nat), s.Heads (q.val) j p c ∧ s.Still ∧ c.opc = 12 ∧ j.skipW = 0 ∧
    bit 0 c.sub = false ∧ bit 30 c = false ∧ s.semAbs j.ctx j.bank (bits 29 16 c) false = some k ∧ s.rd F.SEM_SSTAT_STATE k = 1 ∧
    (∀ (w : SemWait), w ∈ s.sem.waits → w.sem ≠ k) ∧ s.rd F.SEM_SSTAT_COUNT k < bits 47 32 c) ∧
  (∃ (s : State) (q : Fin 48) (j : Job) (p : Plan) (c : Cmd) (r : Slot), s.Heads (q.val) j p c ∧ s.Still ∧ c.opc = 13 ∧ bits 19 16 c ≠ 0 ∧
    j.purge = false ∧ j.fallback = false ∧ s.slotOf j.stream j.resseq = some r ∧ r.formed = false ∧
    (∀ (o : Nat × Nat), o ∈ r.out → o.fst ≠ chkKey (bits 35 20 c) j.token)) :=
  ⟨⟨(sq 1) State.reset, (0x2#4 : BitVec 4), (0 : Fin 16), (0x0007#14 : BitVec 14), by decide +kernel⟩,
  ⟨(sq 0) State.reset, (0x9#4 : BitVec 4), (0x0007#14 : BitVec 14), by decide +kernel⟩,
  ⟨dl State.reset, by decide +kernel⟩,
  ⟨(sq 0) State.reset, by decide +kernel⟩,
  ⟨(sq 2) State.reset, (0x0007#14 : BitVec 14), by unfold State.Takes; decide +kernel, by decide +kernel⟩,
  ⟨(sq 0) State.reset, (0x0007#14 : BitVec 14), by unfold State.Takes; decide +kernel, by decide +kernel⟩,
  ⟨(sq 1) State.reset, (0x0007#14 : BitVec 14), by unfold State.Takes; decide +kernel, by decide +kernel⟩,
  ⟨(sq 0) State.reset, (0x0007#14 : BitVec 14), by unfold State.Takes; decide +kernel, by decide +kernel⟩,
  ⟨(fun (s : State) => (fun (s : State) => {s with mnt := Mantis.reset, lqs := updAt (fun l => { l with flags := [3,3,3] }) 3 s.lqs}) (run_ [c_sig1] job s)) State.reset, (3 : Fin 48), ((headOf ((fun (s : State) => (fun (s : State) => {s with mnt := Mantis.reset, lqs := updAt (fun l => { l with flags := [3,3,3] }) 3 s.lqs}) (run_ [c_sig1] job s)) State.reset) ((3 : Fin 48).val)).1), ((headOf ((fun (s : State) => (fun (s : State) => {s with mnt := Mantis.reset, lqs := updAt (fun l => { l with flags := [3,3,3] }) 3 s.lqs}) (run_ [c_sig1] job s)) State.reset) ((3 : Fin 48).val)).2.1), ((headOf ((fun (s : State) => (fun (s : State) => {s with mnt := Mantis.reset, lqs := updAt (fun l => { l with flags := [3,3,3] }) 3 s.lqs}) (run_ [c_sig1] job s)) State.reset) ((3 : Fin 48).val)).2.2), heads_of (shape_of (by decide +kernel)) (by decide +kernel), by unfold State.Still; decide +kernel, by decide +kernel⟩,
  ⟨(fun (s : State) => (fun (s : State) => ((({s with sem := ⟨[], [], none⟩, mnt := Mantis.reset} : State).wr F.SEM_SSTAT_STATE 1 4).wr F.SEM_SSTAT_CTX 0 4).wr F.SEM_SSTAT_COUNT 9 4) (run_ [c_sig0] job s)) State.reset, (3 : Fin 48), ((headOf ((fun (s : State) => (fun (s : State) => ((({s with sem := ⟨[], [], none⟩, mnt := Mantis.reset} : State).wr F.SEM_SSTAT_STATE 1 4).wr F.SEM_SSTAT_CTX 0 4).wr F.SEM_SSTAT_COUNT 9 4) (run_ [c_sig0] job s)) State.reset) ((3 : Fin 48).val)).1), ((headOf ((fun (s : State) => (fun (s : State) => ((({s with sem := ⟨[], [], none⟩, mnt := Mantis.reset} : State).wr F.SEM_SSTAT_STATE 1 4).wr F.SEM_SSTAT_CTX 0 4).wr F.SEM_SSTAT_COUNT 9 4) (run_ [c_sig0] job s)) State.reset) ((3 : Fin 48).val)).2.1), ((headOf ((fun (s : State) => (fun (s : State) => ((({s with sem := ⟨[], [], none⟩, mnt := Mantis.reset} : State).wr F.SEM_SSTAT_STATE 1 4).wr F.SEM_SSTAT_CTX 0 4).wr F.SEM_SSTAT_COUNT 9 4) (run_ [c_sig0] job s)) State.reset) ((3 : Fin 48).val)).2.2), (4 : Nat), heads_of (shape_of (by decide +kernel)) (by decide +kernel), by unfold State.Still; decide +kernel, by decide +kernel⟩,
  ⟨(fun (s : State) => (fun (s : State) => {s with mnt := Mantis.reset, lqs := updAt (fun l => { l with flags := [3,3,3] }) 3 s.lqs}) (run_ [c_wai1] job s)) State.reset, (3 : Fin 48), ((headOf ((fun (s : State) => (fun (s : State) => {s with mnt := Mantis.reset, lqs := updAt (fun l => { l with flags := [3,3,3] }) 3 s.lqs}) (run_ [c_wai1] job s)) State.reset) ((3 : Fin 48).val)).1), ((headOf ((fun (s : State) => (fun (s : State) => {s with mnt := Mantis.reset, lqs := updAt (fun l => { l with flags := [3,3,3] }) 3 s.lqs}) (run_ [c_wai1] job s)) State.reset) ((3 : Fin 48).val)).2.1), ((headOf ((fun (s : State) => (fun (s : State) => {s with mnt := Mantis.reset, lqs := updAt (fun l => { l with flags := [3,3,3] }) 3 s.lqs}) (run_ [c_wai1] job s)) State.reset) ((3 : Fin 48).val)).2.2), heads_of (shape_of (by decide +kernel)) (by decide +kernel), by unfold State.Still; decide +kernel, by decide +kernel⟩,
  ⟨(fun (s : State) => (fun (s : State) => ((({s with sem := ⟨[], [], none⟩, mnt := Mantis.reset} : State).wr F.SEM_SSTAT_STATE 1 4).wr F.SEM_SSTAT_CTX 0 4).wr F.SEM_SSTAT_COUNT 9 4) (run_ [c_wai0] job s)) State.reset, (3 : Fin 48), ((headOf ((fun (s : State) => (fun (s : State) => ((({s with sem := ⟨[], [], none⟩, mnt := Mantis.reset} : State).wr F.SEM_SSTAT_STATE 1 4).wr F.SEM_SSTAT_CTX 0 4).wr F.SEM_SSTAT_COUNT 9 4) (run_ [c_wai0] job s)) State.reset) ((3 : Fin 48).val)).1), ((headOf ((fun (s : State) => (fun (s : State) => ((({s with sem := ⟨[], [], none⟩, mnt := Mantis.reset} : State).wr F.SEM_SSTAT_STATE 1 4).wr F.SEM_SSTAT_CTX 0 4).wr F.SEM_SSTAT_COUNT 9 4) (run_ [c_wai0] job s)) State.reset) ((3 : Fin 48).val)).2.1), ((headOf ((fun (s : State) => (fun (s : State) => ((({s with sem := ⟨[], [], none⟩, mnt := Mantis.reset} : State).wr F.SEM_SSTAT_STATE 1 4).wr F.SEM_SSTAT_CTX 0 4).wr F.SEM_SSTAT_COUNT 9 4) (run_ [c_wai0] job s)) State.reset) ((3 : Fin 48).val)).2.2), (4 : Nat), heads_of (shape_of (by decide +kernel)) (by decide +kernel), by unfold State.Still; decide +kernel, by decide +kernel⟩,
  ⟨(fun (s : State) => (fun (s : State) => ((({s with sem := ⟨[], [], none⟩, mnt := Mantis.reset} : State).wr F.SEM_SSTAT_STATE 1 4).wr F.SEM_SSTAT_CTX 0 4).wr F.SEM_SSTAT_COUNT 3 4) (run_ [c_wai0] job s)) State.reset, (3 : Fin 48), ((headOf ((fun (s : State) => (fun (s : State) => ((({s with sem := ⟨[], [], none⟩, mnt := Mantis.reset} : State).wr F.SEM_SSTAT_STATE 1 4).wr F.SEM_SSTAT_CTX 0 4).wr F.SEM_SSTAT_COUNT 3 4) (run_ [c_wai0] job s)) State.reset) ((3 : Fin 48).val)).1), ((headOf ((fun (s : State) => (fun (s : State) => ((({s with sem := ⟨[], [], none⟩, mnt := Mantis.reset} : State).wr F.SEM_SSTAT_STATE 1 4).wr F.SEM_SSTAT_CTX 0 4).wr F.SEM_SSTAT_COUNT 3 4) (run_ [c_wai0] job s)) State.reset) ((3 : Fin 48).val)).2.1), ((headOf ((fun (s : State) => (fun (s : State) => ((({s with sem := ⟨[], [], none⟩, mnt := Mantis.reset} : State).wr F.SEM_SSTAT_STATE 1 4).wr F.SEM_SSTAT_CTX 0 4).wr F.SEM_SSTAT_COUNT 3 4) (run_ [c_wai0] job s)) State.reset) ((3 : Fin 48).val)).2.2), (4 : Nat), heads_of (shape_of (by decide +kernel)) (by decide +kernel), by unfold State.Still; decide +kernel, by decide +kernel⟩,
  ⟨(fun (s : State) => (fun (s : State) => {s with mnt := Mantis.reset, lqs := updAt (fun l => { l with flags := [3,3,3] }) 3 s.lqs}) (run_ [c_done] job s)) State.reset, (3 : Fin 48), ((headOf ((fun (s : State) => (fun (s : State) => {s with mnt := Mantis.reset, lqs := updAt (fun l => { l with flags := [3,3,3] }) 3 s.lqs}) (run_ [c_done] job s)) State.reset) ((3 : Fin 48).val)).1), ((headOf ((fun (s : State) => (fun (s : State) => {s with mnt := Mantis.reset, lqs := updAt (fun l => { l with flags := [3,3,3] }) 3 s.lqs}) (run_ [c_done] job s)) State.reset) ((3 : Fin 48).val)).2.1), ((headOf ((fun (s : State) => (fun (s : State) => {s with mnt := Mantis.reset, lqs := updAt (fun l => { l with flags := [3,3,3] }) 3 s.lqs}) (run_ [c_done] job s)) State.reset) ((3 : Fin 48).val)).2.2), (Option.get (((fun (s : State) => (fun (s : State) => {s with mnt := Mantis.reset, lqs := updAt (fun l => { l with flags := [3,3,3] }) 3 s.lqs}) (run_ [c_done] job s)) State.reset).slotOf (((headOf ((fun (s : State) => (fun (s : State) => {s with mnt := Mantis.reset, lqs := updAt (fun l => { l with flags := [3,3,3] }) 3 s.lqs}) (run_ [c_done] job s)) State.reset) ((3 : Fin 48).val)).1) : Job).stream (((headOf ((fun (s : State) => (fun (s : State) => {s with mnt := Mantis.reset, lqs := updAt (fun l => { l with flags := [3,3,3] }) 3 s.lqs}) (run_ [c_done] job s)) State.reset) ((3 : Fin 48).val)).1) : Job).resseq) (by decide +kernel)), heads_of (shape_of (by decide +kernel)) (by decide +kernel), by unfold State.Still; decide +kernel, by decide +kernel⟩⟩

/-- PRY and the forms of DTX put their product terms into the window: states that meet the hypotheses of its clauses. -/
theorem test_WindowsTakeTheirTerms :
  (∃ (s : State) (q : Fin 48) (j : Job) (r : Slot) (p : Plan) (c : Cmd) (ys : List Dy) (td : TensD) (sc : SiteC) (m : MatK) (v : PVec), s.Runs (q.val) j r p c ∧
    bits 18 16 c = 0 ∧ c.opc = 2 ∧ c.sub = 0 ∧ p.tref (j.siteOf (bits 95 80 c)) (bits 39 24 c) = some td ∧
    p.siteC (j.siteOf (bits 95 80 c)) = some sc ∧ sc.sat ≠ 0 ∧ grouped td.fmt = false ∧ s.mat j.ctx (j.siteOf (bits 95 80 c)) = some m ∧
    m.expired = false ∧ m.poison = false ∧ m.range = false ∧ m.vec 0 false r.gen = some v ∧
    (finite (List.map (fun k ↦ r.val td j.token (bits 59 40 c + k)) (List.range (bits 79 60 c))) = some (some ys))) ∧
  (∃ (s : State) (q : Fin 48) (j : Job) (r : Slot) (p : Plan) (c : Cmd) (xs : List Dy) (off : Nat) (ps : List Dy) (rem : List Dy) (eps : List Dy), s.Runs (q.val) j r p c ∧
    bits 18 16 c = 0 ∧ c.opc = 3 ∧
    (finite (List.map (fun x ↦ x.fst) (List.map (fun k ↦ s.srcVal (q.val) j r p (j.siteOf (bits 111 96 c)) (bits 39 24 c) (bits 75 56 c + k)) (List.range (bits 95 76 c)))) = some (some xs)) ∧
    (∀ (e : Option Val × Nat × Nat × Bool), e ∈ List.map (fun k ↦ s.srcVal (q.val) j r p (j.siteOf (bits 111 96 c)) (bits 39 24 c) (bits 75 56 c + k)) (List.range (bits 95 76 c)) → grouped e.snd.fst = false) ∧
    c.sub = 0 ∧ (Option.all (fun m ↦ !m.gather) (p.matD (j.siteOf (bits 111 96 c))) = true) ∧
    (s.projVec (q.val) j r (j.siteOf (bits 111 96 c)) (bits 55 40 c) 0).fst = some (off, ps, rem, eps) ∧ (∀ (x : Dy), x ∈ rem → x.isZero = true) ∧
    off ≤ bits 75 56 c ∧ bits 75 56 c + bits 95 76 c ≤ off + ps.length) ∧
  (∃ (s : State) (q : Fin 48) (j : Job) (r : Slot) (p : Plan) (c : Cmd) (xs : List Dy), s.Runs (q.val) j r p c ∧ bits 18 16 c = 0 ∧ c.opc = 3 ∧
    (finite (List.map (fun x ↦ x.fst) (List.map (fun k ↦ s.srcVal (q.val) j r p (j.siteOf (bits 111 96 c)) (bits 39 24 c) (bits 75 56 c + k)) (List.range (bits 95 76 c)))) = some (some xs)) ∧
    (∀ (e : Option Val × Nat × Nat × Bool), e ∈ List.map (fun k ↦ s.srcVal (q.val) j r p (j.siteOf (bits 111 96 c)) (bits 39 24 c) (bits 75 56 c + k)) (List.range (bits 95 76 c)) → grouped e.snd.fst = false) ∧
    c.sub = 1) ∧
  (∃ (s : State) (q : Fin 48) (j : Job) (r : Slot) (p : Plan) (c : Cmd) (xs : List Dy), s.Runs (q.val) j r p c ∧ bits 18 16 c = 0 ∧ c.opc = 3 ∧
    (finite (List.map (fun x ↦ x.fst) (List.map (fun k ↦ s.srcVal (q.val) j r p (j.siteOf (bits 111 96 c)) (bits 39 24 c) (bits 75 56 c + k)) (List.range (bits 95 76 c)))) = some (some xs)) ∧
    (∀ (e : Option Val × Nat × Nat × Bool), e ∈ List.map (fun k ↦ s.srcVal (q.val) j r p (j.siteOf (bits 111 96 c)) (bits 39 24 c) (bits 75 56 c + k)) (List.range (bits 95 76 c)) → grouped e.snd.fst = false) ∧
    c.sub = 2) ∧
  (∃ (s : State) (q : Fin 48) (j : Job) (r : Slot) (p : Plan) (c : Cmd) (xs : List Dy) (ys : List Dy), s.Runs (q.val) j r p c ∧ bits 18 16 c = 0 ∧
    c.opc = 3 ∧
    (finite (List.map (fun x ↦ x.fst) (List.map (fun k ↦ s.srcVal (q.val) j r p (j.siteOf (bits 111 96 c)) (bits 39 24 c) (bits 75 56 c + k)) (List.range (bits 95 76 c)))) = some (some xs)) ∧
    (∀ (e : Option Val × Nat × Nat × Bool), e ∈ List.map (fun k ↦ s.srcVal (q.val) j r p (j.siteOf (bits 111 96 c)) (bits 39 24 c) (bits 75 56 c + k)) (List.range (bits 95 76 c)) → grouped e.snd.fst = false) ∧
    c.sub = 3 ∧
    (finite (List.map (fun x ↦ x.fst) (List.map (fun k ↦ s.srcVal (q.val) j r p (j.siteOf (bits 111 96 c)) (bits 55 40 c) (bits 75 56 c + k)) (List.range (bits 95 76 c)))) = some (some ys)) ∧
    (∀ (e : Option Val × Nat × Nat × Bool), e ∈ List.map (fun k ↦ s.srcVal (q.val) j r p (j.siteOf (bits 111 96 c)) (bits 55 40 c) (bits 75 56 c + k)) (List.range (bits 95 76 c)) → grouped e.snd.fst = false)) :=
  ⟨⟨(fun (s : State) => (id) (run_ [c_pry0] job s)) State.reset, (3 : Fin 48), ((headOf ((fun (s : State) => (id) (run_ [c_pry0] job s)) State.reset) ((3 : Fin 48).val)).1), ((resOf ((fun (s : State) => (id) (run_ [c_pry0] job s)) State.reset) (headOf ((fun (s : State) => (id) (run_ [c_pry0] job s)) State.reset) ((3 : Fin 48).val)).1)), ((headOf ((fun (s : State) => (id) (run_ [c_pry0] job s)) State.reset) ((3 : Fin 48).val)).2.1), ((headOf ((fun (s : State) => (id) (run_ [c_pry0] job s)) State.reset) ((3 : Fin 48).val)).2.2), ([{ m := 1024, e := -10 }, { m := 1024, e := -9 }] : List Dy), ({ num := 0, count := 2, fmt := 9, mx := false } : TensD), (Option.get ((((headOf ((fun (s : State) => (id) (run_ [c_pry0] job s)) State.reset) ((3 : Fin 48).val)).2.1) : Plan).siteC ((((headOf ((fun (s : State) => (id) (run_ [c_pry0] job s)) State.reset) ((3 : Fin 48).val)).1) : Job).siteOf (bits 95 80 (((headOf ((fun (s : State) => (id) (run_ [c_pry0] job s)) State.reset) ((3 : Fin 48).val)).2.2) : Cmd)))) (by decide +kernel)), (Option.get (((fun (s : State) => (id) (run_ [c_pry0] job s)) State.reset).mat (((headOf ((fun (s : State) => (id) (run_ [c_pry0] job s)) State.reset) ((3 : Fin 48).val)).1) : Job).ctx ((((headOf ((fun (s : State) => (id) (run_ [c_pry0] job s)) State.reset) ((3 : Fin 48).val)).1) : Job).siteOf (bits 95 80 (((headOf ((fun (s : State) => (id) (run_ [c_pry0] job s)) State.reset) ((3 : Fin 48).val)).2.2) : Cmd)))) (by decide +kernel)), (Option.get ((Option.get (((fun (s : State) => (id) (run_ [c_pry0] job s)) State.reset).mat (((headOf ((fun (s : State) => (id) (run_ [c_pry0] job s)) State.reset) ((3 : Fin 48).val)).1) : Job).ctx ((((headOf ((fun (s : State) => (id) (run_ [c_pry0] job s)) State.reset) ((3 : Fin 48).val)).1) : Job).siteOf (bits 95 80 (((headOf ((fun (s : State) => (id) (run_ [c_pry0] job s)) State.reset) ((3 : Fin 48).val)).2.2) : Cmd)))) (by decide +kernel)).vec 0 false (((resOf ((fun (s : State) => (id) (run_ [c_pry0] job s)) State.reset) (headOf ((fun (s : State) => (id) (run_ [c_pry0] job s)) State.reset) ((3 : Fin 48).val)).1)) : Slot).gen) (by decide +kernel)), runs_of (heads_of (shape_of (by decide +kernel)) (by decide +kernel)) (by decide +kernel), by decide +kernel⟩,
  ⟨(fun (s : State) => (id) (run_ [c_prj0] job s)) State.reset, (3 : Fin 48), ((headOf ((fun (s : State) => (id) (run_ [c_prj0] job s)) State.reset) ((3 : Fin 48).val)).1), ((resOf ((fun (s : State) => (id) (run_ [c_prj0] job s)) State.reset) (headOf ((fun (s : State) => (id) (run_ [c_prj0] job s)) State.reset) ((3 : Fin 48).val)).1)), ((headOf ((fun (s : State) => (id) (run_ [c_prj0] job s)) State.reset) ((3 : Fin 48).val)).2.1), ((headOf ((fun (s : State) => (id) (run_ [c_prj0] job s)) State.reset) ((3 : Fin 48).val)).2.2), ([{ m := 1024, e := -10 }, { m := 1024, e := -9 }] : List Dy), (0 : Nat), ([{ m := 1, e := 0 }, { m := 2, e := 0 }] : List Dy), ([{ m := 0, e := 0 }, { m := 0, e := 0 }] : List Dy), ([{ m := 0, e := 0 }, { m := 0, e := 0 }] : List Dy), runs_of (heads_of (shape_of (by decide +kernel)) (by decide +kernel)) (by decide +kernel), by decide +kernel⟩,
  ⟨(fun (s : State) => (id) (run_ [c_sqs0] job s)) State.reset, (3 : Fin 48), ((headOf ((fun (s : State) => (id) (run_ [c_sqs0] job s)) State.reset) ((3 : Fin 48).val)).1), ((resOf ((fun (s : State) => (id) (run_ [c_sqs0] job s)) State.reset) (headOf ((fun (s : State) => (id) (run_ [c_sqs0] job s)) State.reset) ((3 : Fin 48).val)).1)), ((headOf ((fun (s : State) => (id) (run_ [c_sqs0] job s)) State.reset) ((3 : Fin 48).val)).2.1), ((headOf ((fun (s : State) => (id) (run_ [c_sqs0] job s)) State.reset) ((3 : Fin 48).val)).2.2), ([{ m := 1024, e := -10 }, { m := 1024, e := -9 }] : List Dy), runs_of (heads_of (shape_of (by decide +kernel)) (by decide +kernel)) (by decide +kernel), by decide +kernel⟩,
  ⟨(fun (s : State) => (id) (run_ [c_sum0] job s)) State.reset, (3 : Fin 48), ((headOf ((fun (s : State) => (id) (run_ [c_sum0] job s)) State.reset) ((3 : Fin 48).val)).1), ((resOf ((fun (s : State) => (id) (run_ [c_sum0] job s)) State.reset) (headOf ((fun (s : State) => (id) (run_ [c_sum0] job s)) State.reset) ((3 : Fin 48).val)).1)), ((headOf ((fun (s : State) => (id) (run_ [c_sum0] job s)) State.reset) ((3 : Fin 48).val)).2.1), ((headOf ((fun (s : State) => (id) (run_ [c_sum0] job s)) State.reset) ((3 : Fin 48).val)).2.2), ([{ m := 1024, e := -10 }, { m := 1024, e := -9 }] : List Dy), runs_of (heads_of (shape_of (by decide +kernel)) (by decide +kernel)) (by decide +kernel), by decide +kernel⟩,
  ⟨(fun (s : State) => (id) (run_ [c_dot0] job s)) State.reset, (3 : Fin 48), ((headOf ((fun (s : State) => (id) (run_ [c_dot0] job s)) State.reset) ((3 : Fin 48).val)).1), ((resOf ((fun (s : State) => (id) (run_ [c_dot0] job s)) State.reset) (headOf ((fun (s : State) => (id) (run_ [c_dot0] job s)) State.reset) ((3 : Fin 48).val)).1)), ((headOf ((fun (s : State) => (id) (run_ [c_dot0] job s)) State.reset) ((3 : Fin 48).val)).2.1), ((headOf ((fun (s : State) => (id) (run_ [c_dot0] job s)) State.reset) ((3 : Fin 48).val)).2.2), ([{ m := 1024, e := -10 }, { m := 1024, e := -9 }] : List Dy), ([{ m := 8388608, e := -23 }, { m := 8388608, e := -22 }] : List Dy), runs_of (heads_of (shape_of (by decide +kernel)) (by decide +kernel)) (by decide +kernel), by decide +kernel⟩⟩

/-- CMPB and RESX CMP decide their check, and RESX joins its residues: states that meet the hypotheses of its clauses. -/
theorem test_ComparisonsDecideTheCheck :
  (∃ (s : State) (q : Fin 48) (j : Job) (r : Slot) (p : Plan) (c : Cmd) (sc : SiteC), s.Runs (q.val) j r p c ∧ c.opc = 4 ∧ c.sub = 0 ∧
    bits 18 16 c = 0 ∧ p.siteC (j.siteOf (bits 95 80 c)) = some sc ∧ ((s.lq q.val).wins.getD (bits 21 19 c) Win.zero).nf.isSome = true) ∧
  (∃ (s : State) (q : Fin 48) (j : Job) (r : Slot) (p : Plan) (c : Cmd) (sc : SiteC) (delta : Dy) (dwin : Dy) (b : Bool), s.Runs (q.val) j r p c ∧
    c.opc = 4 ∧ c.sub = 0 ∧ bits 18 16 c = 0 ∧ p.siteC (j.siteOf (bits 95 80 c)) = some sc ∧
    ((s.lq q.val).wins.getD (bits 21 19 c) Win.zero).nf = none ∧
    winValue ((s.lq q.val).wins.getD (bits 21 19 c) Win.zero).terms = (delta, dwin, false) ∧
    cmpBound delta dwin (tauOf sc.tolc) (((match uOut sc.fmtOut sc.rnd with | some u => (s.lq q.val).s1.mul (Dy.pow2 (2 * u)) | none => Dy.zero).add (((fp32 sc.gammaAcc).mul (fp32 sc.gammaAcc)).mul ((s.lq q.val).wins.getD (bits 21 19 c) Win.zero).s2))) (((s.lq q.val).wins.getD (bits 21 19 c) Win.zero).xeps.add (fp32 sc.epsAbs)) = some b) ∧
  (∃ (s : State) (q : Fin 48) (j : Job) (r : Slot) (p : Plan) (c : Cmd) (td : TensD) (m : MatK) (v : PVec) (xs : List Dy), s.Runs (q.val) j r p c ∧
    c.opc = 5 ∧ c.sub ≤ 1 ∧ p.tref (j.siteOf (bits 95 80 c)) (bits 39 24 c) = some td ∧ s.mat j.ctx (j.siteOf (bits 95 80 c)) = some m ∧
    m.expired = false ∧ m.poison = false ∧ m.vec 0 true r.gen = some v ∧
    (finite (List.map (fun k ↦ r.val td j.token (bits 59 40 c + k)) (List.range (bits 79 60 c))) = some (some xs)) ∧ c.sub = 0) ∧
  (∃ (s : State) (q : Fin 48) (j : Job) (r : Slot) (p : Plan) (c : Cmd) (td : TensD) (m : MatK) (v : PVec) (xs : List Dy), s.Runs (q.val) j r p c ∧
    c.opc = 5 ∧ c.sub ≤ 1 ∧ p.tref (j.siteOf (bits 95 80 c)) (bits 39 24 c) = some td ∧ s.mat j.ctx (j.siteOf (bits 95 80 c)) = some m ∧
    m.expired = false ∧ m.poison = false ∧ m.vec 0 true r.gen = some v ∧
    (finite (List.map (fun k ↦ r.val td j.token (bits 59 40 c + k)) (List.range (bits 79 60 c))) = some (some xs)) ∧ c.sub = 1) ∧
  (∃ (s : State) (q : Fin 48) (j : Job) (r : Slot) (p : Plan) (c : Cmd), s.Runs (q.val) j r p c ∧ c.opc = 5 ∧ c.sub = 2) :=
  ⟨⟨(fun (s : State) => (fun (s : State) => s.updWin 3 0 fun x => { x with nf := some .nan, m1 := 4}) (run_ [c_cmpb] job s)) State.reset, (3 : Fin 48), ((headOf ((fun (s : State) => (fun (s : State) => s.updWin 3 0 fun x => { x with nf := some .nan, m1 := 4}) (run_ [c_cmpb] job s)) State.reset) ((3 : Fin 48).val)).1), ((resOf ((fun (s : State) => (fun (s : State) => s.updWin 3 0 fun x => { x with nf := some .nan, m1 := 4}) (run_ [c_cmpb] job s)) State.reset) (headOf ((fun (s : State) => (fun (s : State) => s.updWin 3 0 fun x => { x with nf := some .nan, m1 := 4}) (run_ [c_cmpb] job s)) State.reset) ((3 : Fin 48).val)).1)), ((headOf ((fun (s : State) => (fun (s : State) => s.updWin 3 0 fun x => { x with nf := some .nan, m1 := 4}) (run_ [c_cmpb] job s)) State.reset) ((3 : Fin 48).val)).2.1), ((headOf ((fun (s : State) => (fun (s : State) => s.updWin 3 0 fun x => { x with nf := some .nan, m1 := 4}) (run_ [c_cmpb] job s)) State.reset) ((3 : Fin 48).val)).2.2), (Option.get ((((headOf ((fun (s : State) => (fun (s : State) => s.updWin 3 0 fun x => { x with nf := some .nan, m1 := 4}) (run_ [c_cmpb] job s)) State.reset) ((3 : Fin 48).val)).2.1) : Plan).siteC ((((headOf ((fun (s : State) => (fun (s : State) => s.updWin 3 0 fun x => { x with nf := some .nan, m1 := 4}) (run_ [c_cmpb] job s)) State.reset) ((3 : Fin 48).val)).1) : Job).siteOf (bits 95 80 (((headOf ((fun (s : State) => (fun (s : State) => s.updWin 3 0 fun x => { x with nf := some .nan, m1 := 4}) (run_ [c_cmpb] job s)) State.reset) ((3 : Fin 48).val)).2.2) : Cmd)))) (by decide +kernel)), runs_of (heads_of (shape_of (by decide +kernel)) (by decide +kernel)) (by decide +kernel), by decide +kernel⟩,
  ⟨(fun (s : State) => (id) (run_ [c_cmpb] job s)) State.reset, (3 : Fin 48), ((headOf ((fun (s : State) => (id) (run_ [c_cmpb] job s)) State.reset) ((3 : Fin 48).val)).1), ((resOf ((fun (s : State) => (id) (run_ [c_cmpb] job s)) State.reset) (headOf ((fun (s : State) => (id) (run_ [c_cmpb] job s)) State.reset) ((3 : Fin 48).val)).1)), ((headOf ((fun (s : State) => (id) (run_ [c_cmpb] job s)) State.reset) ((3 : Fin 48).val)).2.1), ((headOf ((fun (s : State) => (id) (run_ [c_cmpb] job s)) State.reset) ((3 : Fin 48).val)).2.2), (Option.get ((((headOf ((fun (s : State) => (id) (run_ [c_cmpb] job s)) State.reset) ((3 : Fin 48).val)).2.1) : Plan).siteC ((((headOf ((fun (s : State) => (id) (run_ [c_cmpb] job s)) State.reset) ((3 : Fin 48).val)).1) : Job).siteOf (bits 95 80 (((headOf ((fun (s : State) => (id) (run_ [c_cmpb] job s)) State.reset) ((3 : Fin 48).val)).2.2) : Cmd)))) (by decide +kernel)), ({ m := 0, e := 0 } : Dy), ({ m := 0, e := 0 } : Dy), (true : Bool), runs_of (heads_of (shape_of (by decide +kernel)) (by decide +kernel)) (by decide +kernel), by decide +kernel⟩,
  ⟨(fun (s : State) => (id) (run_ [c_racc0] job s)) State.reset, (3 : Fin 48), ((headOf ((fun (s : State) => (id) (run_ [c_racc0] job s)) State.reset) ((3 : Fin 48).val)).1), ((resOf ((fun (s : State) => (id) (run_ [c_racc0] job s)) State.reset) (headOf ((fun (s : State) => (id) (run_ [c_racc0] job s)) State.reset) ((3 : Fin 48).val)).1)), ((headOf ((fun (s : State) => (id) (run_ [c_racc0] job s)) State.reset) ((3 : Fin 48).val)).2.1), ((headOf ((fun (s : State) => (id) (run_ [c_racc0] job s)) State.reset) ((3 : Fin 48).val)).2.2), ({ num := 0, count := 2, fmt := 9, mx := false } : TensD), (Option.get (((fun (s : State) => (id) (run_ [c_racc0] job s)) State.reset).mat (((headOf ((fun (s : State) => (id) (run_ [c_racc0] job s)) State.reset) ((3 : Fin 48).val)).1) : Job).ctx ((((headOf ((fun (s : State) => (id) (run_ [c_racc0] job s)) State.reset) ((3 : Fin 48).val)).1) : Job).siteOf (bits 95 80 (((headOf ((fun (s : State) => (id) (run_ [c_racc0] job s)) State.reset) ((3 : Fin 48).val)).2.2) : Cmd)))) (by decide +kernel)), (Option.get ((Option.get (((fun (s : State) => (id) (run_ [c_racc0] job s)) State.reset).mat (((headOf ((fun (s : State) => (id) (run_ [c_racc0] job s)) State.reset) ((3 : Fin 48).val)).1) : Job).ctx ((((headOf ((fun (s : State) => (id) (run_ [c_racc0] job s)) State.reset) ((3 : Fin 48).val)).1) : Job).siteOf (bits 95 80 (((headOf ((fun (s : State) => (id) (run_ [c_racc0] job s)) State.reset) ((3 : Fin 48).val)).2.2) : Cmd)))) (by decide +kernel)).vec 0 true (((resOf ((fun (s : State) => (id) (run_ [c_racc0] job s)) State.reset) (headOf ((fun (s : State) => (id) (run_ [c_racc0] job s)) State.reset) ((3 : Fin 48).val)).1)) : Slot).gen) (by decide +kernel)), ([{ m := 1024, e := -10 }, { m := 1024, e := -9 }] : List Dy), runs_of (heads_of (shape_of (by decide +kernel)) (by decide +kernel)) (by decide +kernel), by decide +kernel⟩,
  ⟨(fun (s : State) => (id) (run_ [c_rin1] job s)) State.reset, (3 : Fin 48), ((headOf ((fun (s : State) => (id) (run_ [c_rin1] job s)) State.reset) ((3 : Fin 48).val)).1), ((resOf ((fun (s : State) => (id) (run_ [c_rin1] job s)) State.reset) (headOf ((fun (s : State) => (id) (run_ [c_rin1] job s)) State.reset) ((3 : Fin 48).val)).1)), ((headOf ((fun (s : State) => (id) (run_ [c_rin1] job s)) State.reset) ((3 : Fin 48).val)).2.1), ((headOf ((fun (s : State) => (id) (run_ [c_rin1] job s)) State.reset) ((3 : Fin 48).val)).2.2), ({ num := 2, count := 2, fmt := 10, mx := false } : TensD), (Option.get (((fun (s : State) => (id) (run_ [c_rin1] job s)) State.reset).mat (((headOf ((fun (s : State) => (id) (run_ [c_rin1] job s)) State.reset) ((3 : Fin 48).val)).1) : Job).ctx ((((headOf ((fun (s : State) => (id) (run_ [c_rin1] job s)) State.reset) ((3 : Fin 48).val)).1) : Job).siteOf (bits 95 80 (((headOf ((fun (s : State) => (id) (run_ [c_rin1] job s)) State.reset) ((3 : Fin 48).val)).2.2) : Cmd)))) (by decide +kernel)), (Option.get ((Option.get (((fun (s : State) => (id) (run_ [c_rin1] job s)) State.reset).mat (((headOf ((fun (s : State) => (id) (run_ [c_rin1] job s)) State.reset) ((3 : Fin 48).val)).1) : Job).ctx ((((headOf ((fun (s : State) => (id) (run_ [c_rin1] job s)) State.reset) ((3 : Fin 48).val)).1) : Job).siteOf (bits 95 80 (((headOf ((fun (s : State) => (id) (run_ [c_rin1] job s)) State.reset) ((3 : Fin 48).val)).2.2) : Cmd)))) (by decide +kernel)).vec 0 true (((resOf ((fun (s : State) => (id) (run_ [c_rin1] job s)) State.reset) (headOf ((fun (s : State) => (id) (run_ [c_rin1] job s)) State.reset) ((3 : Fin 48).val)).1)) : Slot).gen) (by decide +kernel)), ([{ m := 8388608, e := -23 }, { m := 8388608, e := -22 }] : List Dy), runs_of (heads_of (shape_of (by decide +kernel)) (by decide +kernel)) (by decide +kernel), by decide +kernel⟩,
  ⟨(fun (s : State) => (id) (run_ [c_rcmp] job s)) State.reset, (3 : Fin 48), ((headOf ((fun (s : State) => (id) (run_ [c_rcmp] job s)) State.reset) ((3 : Fin 48).val)).1), ((resOf ((fun (s : State) => (id) (run_ [c_rcmp] job s)) State.reset) (headOf ((fun (s : State) => (id) (run_ [c_rcmp] job s)) State.reset) ((3 : Fin 48).val)).1)), ((headOf ((fun (s : State) => (id) (run_ [c_rcmp] job s)) State.reset) ((3 : Fin 48).val)).2.1), ((headOf ((fun (s : State) => (id) (run_ [c_rcmp] job s)) State.reset) ((3 : Fin 48).val)).2.2), runs_of (heads_of (shape_of (by decide +kernel)) (by decide +kernel)) (by decide +kernel), by decide +kernel⟩⟩

/-- ELM, RTE and the token commands judge their outputs: states that meet the hypotheses of its clauses. -/
theorem test_RecomputeChecksJudge :
  (∃ (s : State) (q : Fin 48) (j : Job) (r : Slot) (p : Plan) (c : Cmd) (sc : SiteC) (td : TensD), s.Runs (q.val) j r p c ∧
    p.siteC (j.siteOf (bits 127 112 c)) = some sc ∧ p.tref (j.siteOf (bits 127 112 c)) (bits 47 32 c) = some td ∧ c.opc = 6 ∧ c.sub = 0 ∧
    bits 23 16 c = 1 ∧ td.mx = false ∧ isTensor (bits 79 64 c) = true ∧
    (p.opnd (j.siteOf (bits 127 112 c)) (bits 13 8 (bits 63 48 c))).isSome = true ∧
    (∀ (k : Nat), k < bits 111 97 c → ∃ o, ((r.el td j.token (bits 96 80 c + k)).bind fun e ↦ Option.map (fun o ↦ ((e.fst, decodeScaled td.fmt td.mx e.snd e.fst), o)) (elmOps r p (j.siteOf (bits 127 112 c)) j.token 1 (bits 63 48 c) (bits 79 64 c) (bits 96 80 c + k))) = some o ∧
    ((o.fst.snd :: o.snd).all fun v ↦ v.dy?.isSome) = true)) ∧
  (∃ (s : State) (q : Fin 48) (j : Job) (r : Slot) (p : Plan) (c : Cmd) (sc : SiteC) (td : TensD) (tt : TensD) (d : RouterD) (ls : List Val) (ss : List Val), s.Runs (q.val) j r p c ∧
    p.siteC (j.siteOf (bits 127 112 c)) = some sc ∧ p.tref (j.siteOf (bits 127 112 c)) (bits 47 32 c) = some td ∧ c.opc = 7 ∧ c.sub ≤ 1 ∧
    p.tref (j.siteOf (bits 127 112 c)) (bits 63 48 c) = some tt ∧
    (List.find? (fun d ↦ d.site == j.siteOf (bits 127 112 c)) p.graph.routers = some d) ∧ r.vals td j.token = some ls ∧ r.vals tt j.token = some ss ∧
    (((ls ++ ss).all fun v ↦ v.dy?.isSome) = true) ∧ c.sub = 0) ∧
  (∃ (s : State) (q : Fin 48) (j : Job) (r : Slot) (p : Plan) (c : Cmd) (sc : SiteC) (td : TensD) (tt : TensD) (d : RouterD) (ls : List Val) (ss : List Val) (tg : TensD) (sg : SiteC), s.Runs (q.val) j r p c ∧
    p.siteC (j.siteOf (bits 127 112 c)) = some sc ∧ p.tref (j.siteOf (bits 127 112 c)) (bits 47 32 c) = some td ∧ c.opc = 7 ∧ c.sub ≤ 1 ∧
    p.tref (j.siteOf (bits 127 112 c)) (bits 63 48 c) = some tt ∧
    (List.find? (fun d ↦ d.site == j.siteOf (bits 127 112 c)) p.graph.routers = some d) ∧ r.vals td j.token = some ls ∧ r.vals tt j.token = some ss ∧
    (((ls ++ ss).all fun v ↦ v.dy?.isSome) = true) ∧ c.sub = 1 ∧ p.tref (j.siteOf (bits 127 112 c)) (bits 79 64 c) = some tg ∧
    p.siteC d.gateSite = some sg ∧ (∀ (i : Nat), i < d.topK → Option.any (fun v ↦ v.dy?.isSome) (r.val tg j.token i) = true) ∧
    ((List.filterMap (fun v ↦ Val.index d.experts v) ss).length = ss.length) ∧
    ((List.filterMap (fun v ↦ Val.index d.experts v) ss).length = d.topK)) ∧
  (∃ (s : State) (q : Fin 48) (j : Job) (r : Slot) (p : Plan) (c : Cmd) (sc : SiteC) (td : TensD) (tt : TensD) (d : RouterD) (ls : List Val) (ss : List Val) (tg : TensD) (sg : SiteC), s.Runs (q.val) j r p c ∧
    p.siteC (j.siteOf (bits 127 112 c)) = some sc ∧ p.tref (j.siteOf (bits 127 112 c)) (bits 47 32 c) = some td ∧ c.opc = 7 ∧ c.sub ≤ 1 ∧
    p.tref (j.siteOf (bits 127 112 c)) (bits 63 48 c) = some tt ∧
    (List.find? (fun d ↦ d.site == j.siteOf (bits 127 112 c)) p.graph.routers = some d) ∧ r.vals td j.token = some ls ∧ r.vals tt j.token = some ss ∧
    (((ls ++ ss).all fun v ↦ v.dy?.isSome) = true) ∧ c.sub = 1 ∧ p.tref (j.siteOf (bits 127 112 c)) (bits 79 64 c) = some tg ∧
    p.siteC d.gateSite = some sg ∧ (∃ i, i < d.topK ∧ r.el tg j.token i = none)) ∧
  (∃ (s : State) (q : Fin 48) (j : Job) (r : Slot) (p : Plan) (c : Cmd) (sc : SiteC) (td : TensD) (tt : TensD) (d : RouterD) (ls : List Val) (ss : List Val) (tg : TensD) (sg : SiteC), s.Runs (q.val) j r p c ∧
    p.siteC (j.siteOf (bits 127 112 c)) = some sc ∧ p.tref (j.siteOf (bits 127 112 c)) (bits 47 32 c) = some td ∧ c.opc = 7 ∧ c.sub ≤ 1 ∧
    p.tref (j.siteOf (bits 127 112 c)) (bits 63 48 c) = some tt ∧
    (List.find? (fun d ↦ d.site == j.siteOf (bits 127 112 c)) p.graph.routers = some d) ∧ r.vals td j.token = some ls ∧ r.vals tt j.token = some ss ∧
    (((ls ++ ss).all fun v ↦ v.dy?.isSome) = true) ∧ c.sub = 1 ∧ p.tref (j.siteOf (bits 127 112 c)) (bits 79 64 c) = some tg ∧
    p.siteC d.gateSite = some sg ∧ (∀ (i : Nat), i < d.topK → (r.el tg j.token i).isSome = true) ∧
    ((List.filterMap (fun v ↦ Val.index d.experts v) ss).length ≠ ss.length ∨ ss.length ≠ d.topK)) ∧
  (∃ (s : State) (q : Fin 48) (j : Job) (r : Slot) (p : Plan) (c : Cmd) (sc : SiteC) (td : TensD) (d : TokD) (ls : List Dy), s.Runs (q.val) j r p c ∧
    p.siteC (j.siteOf (bits 127 112 c)) = some sc ∧ p.tref (j.siteOf (bits 127 112 c)) (bits 47 32 c) = some td ∧ c.opc = 7 ∧
    (List.find? (fun d ↦ d.site == j.siteOf (bits 127 112 c)) p.tok = some d) ∧ d.gumbel = false ∧ d.topK = 0 ∧ c.sub = 2 ∧ bit 20 c = true ∧
    (finite (List.map (fun k ↦ r.val td j.token (bits 96 80 c + k)) (List.range (bits 111 97 c))) = some (some ls)) ∧ ls ≠ []) ∧
  (∃ (s : State) (q : Fin 48) (j : Job) (r : Slot) (p : Plan) (c : Cmd) (sc : SiteC) (td : TensD) (tt : TensD) (d : TokD) (v : Val) (i : Nat) (l : Dy) (m : Dy) (b : Val) (k : Nat) (qq : Nat), s.Runs (q.val) j r p c ∧
    p.siteC (j.siteOf (bits 127 112 c)) = some sc ∧ p.tref (j.siteOf (bits 127 112 c)) (bits 47 32 c) = some td ∧ c.opc = 7 ∧
    (List.find? (fun d ↦ d.site == j.siteOf (bits 127 112 c)) p.tok = some d) ∧ d.gumbel = false ∧ d.topK = 0 ∧ c.sub = 3 ∧ bits 19 16 c = 1 ∧
    p.tref (j.siteOf (bits 127 112 c)) (bits 63 48 c) = some tt ∧ r.val tt j.token 0 = some v ∧ Val.index td.count v = some i ∧
    r.val td j.token i = some (Val.fin l) ∧ (s.ctx j.ctx).lqs[bits 25 20 c]? = some qq ∧
    (List.find? (fun y ↦ y.fst == bits 77 64 c) (s.lq qq).scratch = some (bits 77 64 c, Scr.best b k (Val.fin m)))) :=
  ⟨⟨(fun (s : State) => (id) (run_ [c_elm] job s)) State.reset, (3 : Fin 48), ((headOf ((fun (s : State) => (id) (run_ [c_elm] job s)) State.reset) ((3 : Fin 48).val)).1), ((resOf ((fun (s : State) => (id) (run_ [c_elm] job s)) State.reset) (headOf ((fun (s : State) => (id) (run_ [c_elm] job s)) State.reset) ((3 : Fin 48).val)).1)), ((headOf ((fun (s : State) => (id) (run_ [c_elm] job s)) State.reset) ((3 : Fin 48).val)).2.1), ((headOf ((fun (s : State) => (id) (run_ [c_elm] job s)) State.reset) ((3 : Fin 48).val)).2.2), (Option.get ((((headOf ((fun (s : State) => (id) (run_ [c_elm] job s)) State.reset) ((3 : Fin 48).val)).2.1) : Plan).siteC ((((headOf ((fun (s : State) => (id) (run_ [c_elm] job s)) State.reset) ((3 : Fin 48).val)).1) : Job).siteOf (bits 127 112 (((headOf ((fun (s : State) => (id) (run_ [c_elm] job s)) State.reset) ((3 : Fin 48).val)).2.2) : Cmd)))) (by decide +kernel)), ({ num := 2, count := 2, fmt := 10, mx := false } : TensD), runs_of (heads_of (shape_of (by decide +kernel)) (by decide +kernel)) (by decide +kernel), by decide +kernel⟩,
  ⟨(fun (s : State) => (id) (run_ [c_rsel] job s)) State.reset, (3 : Fin 48), ((headOf ((fun (s : State) => (id) (run_ [c_rsel] job s)) State.reset) ((3 : Fin 48).val)).1), ((resOf ((fun (s : State) => (id) (run_ [c_rsel] job s)) State.reset) (headOf ((fun (s : State) => (id) (run_ [c_rsel] job s)) State.reset) ((3 : Fin 48).val)).1)), ((headOf ((fun (s : State) => (id) (run_ [c_rsel] job s)) State.reset) ((3 : Fin 48).val)).2.1), ((headOf ((fun (s : State) => (id) (run_ [c_rsel] job s)) State.reset) ((3 : Fin 48).val)).2.2), (Option.get ((((headOf ((fun (s : State) => (id) (run_ [c_rsel] job s)) State.reset) ((3 : Fin 48).val)).2.1) : Plan).siteC ((((headOf ((fun (s : State) => (id) (run_ [c_rsel] job s)) State.reset) ((3 : Fin 48).val)).1) : Job).siteOf (bits 127 112 (((headOf ((fun (s : State) => (id) (run_ [c_rsel] job s)) State.reset) ((3 : Fin 48).val)).2.2) : Cmd)))) (by decide +kernel)), ({ num := 2, count := 2, fmt := 10, mx := false } : TensD), ({ num := 3, count := 1, fmt := 1, mx := false } : TensD), ({ site := 5, logits := 2, experts := 2, topK := 1, renorm := false, gateSite := 5, expertSites := [[], []] } : RouterD), ([Val.fin { m := 8388608, e := -23 }, Val.fin { m := 8388608, e := -22 }] : List Val), ([Val.fin { m := 1, e := 0 }] : List Val), runs_of (heads_of (shape_of (by decide +kernel)) (by decide +kernel)) (by decide +kernel), by decide +kernel⟩,
  ⟨(fun (s : State) => (id) (run_ [c_rgate] job s)) State.reset, (3 : Fin 48), ((headOf ((fun (s : State) => (id) (run_ [c_rgate] job s)) State.reset) ((3 : Fin 48).val)).1), ((resOf ((fun (s : State) => (id) (run_ [c_rgate] job s)) State.reset) (headOf ((fun (s : State) => (id) (run_ [c_rgate] job s)) State.reset) ((3 : Fin 48).val)).1)), ((headOf ((fun (s : State) => (id) (run_ [c_rgate] job s)) State.reset) ((3 : Fin 48).val)).2.1), ((headOf ((fun (s : State) => (id) (run_ [c_rgate] job s)) State.reset) ((3 : Fin 48).val)).2.2), (Option.get ((((headOf ((fun (s : State) => (id) (run_ [c_rgate] job s)) State.reset) ((3 : Fin 48).val)).2.1) : Plan).siteC ((((headOf ((fun (s : State) => (id) (run_ [c_rgate] job s)) State.reset) ((3 : Fin 48).val)).1) : Job).siteOf (bits 127 112 (((headOf ((fun (s : State) => (id) (run_ [c_rgate] job s)) State.reset) ((3 : Fin 48).val)).2.2) : Cmd)))) (by decide +kernel)), ({ num := 2, count := 2, fmt := 10, mx := false } : TensD), ({ num := 3, count := 1, fmt := 1, mx := false } : TensD), ({ site := 5, logits := 2, experts := 2, topK := 1, renorm := false, gateSite := 5, expertSites := [[], []] } : RouterD), ([Val.fin { m := 8388608, e := -23 }, Val.fin { m := 8388608, e := -22 }] : List Val), ([Val.fin { m := 1, e := 0 }] : List Val), ({ num := 3, count := 1, fmt := 1, mx := false } : TensD), (Option.get ((((headOf ((fun (s : State) => (id) (run_ [c_rgate] job s)) State.reset) ((3 : Fin 48).val)).2.1) : Plan).siteC ({ site := 5, logits := 2, experts := 2, topK := 1, renorm := false, gateSite := 5, expertSites := [[], []] } : RouterD).gateSite) (by decide +kernel)), runs_of (heads_of (shape_of (by decide +kernel)) (by decide +kernel)) (by decide +kernel), by decide +kernel⟩,
  ⟨(fun (s : State) => { run_ [cmd [(0, 7), (8, 1), (32, 512), (48, 768), (64, 256), (112, 65535)]] job s with slots := [{slot with parts := slot.parts.drop 1}] }) State.reset, (3 : Fin 48), ((headOf ((fun (s : State) => { run_ [cmd [(0, 7), (8, 1), (32, 512), (48, 768), (64, 256), (112, 65535)]] job s with slots := [{slot with parts := slot.parts.drop 1}] }) State.reset) ((3 : Fin 48).val)).1), ((resOf ((fun (s : State) => { run_ [cmd [(0, 7), (8, 1), (32, 512), (48, 768), (64, 256), (112, 65535)]] job s with slots := [{slot with parts := slot.parts.drop 1}] }) State.reset) (headOf ((fun (s : State) => { run_ [cmd [(0, 7), (8, 1), (32, 512), (48, 768), (64, 256), (112, 65535)]] job s with slots := [{slot with parts := slot.parts.drop 1}] }) State.reset) ((3 : Fin 48).val)).1)), ((headOf ((fun (s : State) => { run_ [cmd [(0, 7), (8, 1), (32, 512), (48, 768), (64, 256), (112, 65535)]] job s with slots := [{slot with parts := slot.parts.drop 1}] }) State.reset) ((3 : Fin 48).val)).2.1), ((headOf ((fun (s : State) => { run_ [cmd [(0, 7), (8, 1), (32, 512), (48, 768), (64, 256), (112, 65535)]] job s with slots := [{slot with parts := slot.parts.drop 1}] }) State.reset) ((3 : Fin 48).val)).2.2), (Option.get ((((headOf ((fun (s : State) => { run_ [cmd [(0, 7), (8, 1), (32, 512), (48, 768), (64, 256), (112, 65535)]] job s with slots := [{slot with parts := slot.parts.drop 1}] }) State.reset) ((3 : Fin 48).val)).2.1) : Plan).siteC ((((headOf ((fun (s : State) => { run_ [cmd [(0, 7), (8, 1), (32, 512), (48, 768), (64, 256), (112, 65535)]] job s with slots := [{slot with parts := slot.parts.drop 1}] }) State.reset) ((3 : Fin 48).val)).1) : Job).siteOf (bits 127 112 (((headOf ((fun (s : State) => { run_ [cmd [(0, 7), (8, 1), (32, 512), (48, 768), (64, 256), (112, 65535)]] job s with slots := [{slot with parts := slot.parts.drop 1}] }) State.reset) ((3 : Fin 48).val)).2.2) : Cmd)))) (by decide +kernel)), (Option.get ((((headOf ((fun (s : State) => { run_ [cmd [(0, 7), (8, 1), (32, 512), (48, 768), (64, 256), (112, 65535)]] job s with slots := [{slot with parts := slot.parts.drop 1}] }) State.reset) ((3 : Fin 48).val)).2.1) : Plan).tref ((((headOf ((fun (s : State) => { run_ [cmd [(0, 7), (8, 1), (32, 512), (48, 768), (64, 256), (112, 65535)]] job s with slots := [{slot with parts := slot.parts.drop 1}] }) State.reset) ((3 : Fin 48).val)).1) : Job).siteOf (bits 127 112 (((headOf ((fun (s : State) => { run_ [cmd [(0, 7), (8, 1), (32, 512), (48, 768), (64, 256), (112, 65535)]] job s with slots := [{slot with parts := slot.parts.drop 1}] }) State.reset) ((3 : Fin 48).val)).2.2) : Cmd))) (bits 47 32 (((headOf ((fun (s : State) => { run_ [cmd [(0, 7), (8, 1), (32, 512), (48, 768), (64, 256), (112, 65535)]] job s with slots := [{slot with parts := slot.parts.drop 1}] }) State.reset) ((3 : Fin 48).val)).2.2) : Cmd))) (by decide +kernel)), (Option.get ((((headOf ((fun (s : State) => { run_ [cmd [(0, 7), (8, 1), (32, 512), (48, 768), (64, 256), (112, 65535)]] job s with slots := [{slot with parts := slot.parts.drop 1}] }) State.reset) ((3 : Fin 48).val)).2.1) : Plan).tref ((((headOf ((fun (s : State) => { run_ [cmd [(0, 7), (8, 1), (32, 512), (48, 768), (64, 256), (112, 65535)]] job s with slots := [{slot with parts := slot.parts.drop 1}] }) State.reset) ((3 : Fin 48).val)).1) : Job).siteOf (bits 127 112 (((headOf ((fun (s : State) => { run_ [cmd [(0, 7), (8, 1), (32, 512), (48, 768), (64, 256), (112, 65535)]] job s with slots := [{slot with parts := slot.parts.drop 1}] }) State.reset) ((3 : Fin 48).val)).2.2) : Cmd))) (bits 63 48 (((headOf ((fun (s : State) => { run_ [cmd [(0, 7), (8, 1), (32, 512), (48, 768), (64, 256), (112, 65535)]] job s with slots := [{slot with parts := slot.parts.drop 1}] }) State.reset) ((3 : Fin 48).val)).2.2) : Cmd))) (by decide +kernel)), (Option.get (List.find? (fun d ↦ d.site == (((headOf ((fun (s : State) => { run_ [cmd [(0, 7), (8, 1), (32, 512), (48, 768), (64, 256), (112, 65535)]] job s with slots := [{slot with parts := slot.parts.drop 1}] }) State.reset) ((3 : Fin 48).val)).1) : Job).siteOf (bits 127 112 (((headOf ((fun (s : State) => { run_ [cmd [(0, 7), (8, 1), (32, 512), (48, 768), (64, 256), (112, 65535)]] job s with slots := [{slot with parts := slot.parts.drop 1}] }) State.reset) ((3 : Fin 48).val)).2.2) : Cmd))) (((headOf ((fun (s : State) => { run_ [cmd [(0, 7), (8, 1), (32, 512), (48, 768), (64, 256), (112, 65535)]] job s with slots := [{slot with parts := slot.parts.drop 1}] }) State.reset) ((3 : Fin 48).val)).2.1) : Plan).graph.routers) (by decide +kernel)), (Option.get ((((resOf ((fun (s : State) => { run_ [cmd [(0, 7), (8, 1), (32, 512), (48, 768), (64, 256), (112, 65535)]] job s with slots := [{slot with parts := slot.parts.drop 1}] }) State.reset) (headOf ((fun (s : State) => { run_ [cmd [(0, 7), (8, 1), (32, 512), (48, 768), (64, 256), (112, 65535)]] job s with slots := [{slot with parts := slot.parts.drop 1}] }) State.reset) ((3 : Fin 48).val)).1)) : Slot).vals (Option.get ((((headOf ((fun (s : State) => { run_ [cmd [(0, 7), (8, 1), (32, 512), (48, 768), (64, 256), (112, 65535)]] job s with slots := [{slot with parts := slot.parts.drop 1}] }) State.reset) ((3 : Fin 48).val)).2.1) : Plan).tref ((((headOf ((fun (s : State) => { run_ [cmd [(0, 7), (8, 1), (32, 512), (48, 768), (64, 256), (112, 65535)]] job s with slots := [{slot with parts := slot.parts.drop 1}] }) State.reset) ((3 : Fin 48).val)).1) : Job).siteOf (bits 127 112 (((headOf ((fun (s : State) => { run_ [cmd [(0, 7), (8, 1), (32, 512), (48, 768), (64, 256), (112, 65535)]] job s with slots := [{slot with parts := slot.parts.drop 1}] }) State.reset) ((3 : Fin 48).val)).2.2) : Cmd))) (bits 47 32 (((headOf ((fun (s : State) => { run_ [cmd [(0, 7), (8, 1), (32, 512), (48, 768), (64, 256), (112, 65535)]] job s with slots := [{slot with parts := slot.parts.drop 1}] }) State.reset) ((3 : Fin 48).val)).2.2) : Cmd))) (by decide +kernel)) (((headOf ((fun (s : State) => { run_ [cmd [(0, 7), (8, 1), (32, 512), (48, 768), (64, 256), (112, 65535)]] job s with slots := [{slot with parts := slot.parts.drop 1}] }) State.reset) ((3 : Fin 48).val)).1) : Job).token) (by decide +kernel)), (Option.get ((((resOf ((fun (s : State) => { run_ [cmd [(0, 7), (8, 1), (32, 512), (48, 768), (64, 256), (112, 65535)]] job s with slots := [{slot with parts := slot.parts.drop 1}] }) State.reset) (headOf ((fun (s : State) => { run_ [cmd [(0, 7), (8, 1), (32, 512), (48, 768), (64, 256), (112, 65535)]] job s with slots := [{slot with parts := slot.parts.drop 1}] }) State.reset) ((3 : Fin 48).val)).1)) : Slot).vals (Option.get ((((headOf ((fun (s : State) => { run_ [cmd [(0, 7), (8, 1), (32, 512), (48, 768), (64, 256), (112, 65535)]] job s with slots := [{slot with parts := slot.parts.drop 1}] }) State.reset) ((3 : Fin 48).val)).2.1) : Plan).tref ((((headOf ((fun (s : State) => { run_ [cmd [(0, 7), (8, 1), (32, 512), (48, 768), (64, 256), (112, 65535)]] job s with slots := [{slot with parts := slot.parts.drop 1}] }) State.reset) ((3 : Fin 48).val)).1) : Job).siteOf (bits 127 112 (((headOf ((fun (s : State) => { run_ [cmd [(0, 7), (8, 1), (32, 512), (48, 768), (64, 256), (112, 65535)]] job s with slots := [{slot with parts := slot.parts.drop 1}] }) State.reset) ((3 : Fin 48).val)).2.2) : Cmd))) (bits 63 48 (((headOf ((fun (s : State) => { run_ [cmd [(0, 7), (8, 1), (32, 512), (48, 768), (64, 256), (112, 65535)]] job s with slots := [{slot with parts := slot.parts.drop 1}] }) State.reset) ((3 : Fin 48).val)).2.2) : Cmd))) (by decide +kernel)) (((headOf ((fun (s : State) => { run_ [cmd [(0, 7), (8, 1), (32, 512), (48, 768), (64, 256), (112, 65535)]] job s with slots := [{slot with parts := slot.parts.drop 1}] }) State.reset) ((3 : Fin 48).val)).1) : Job).token) (by decide +kernel)), (Option.get ((((headOf ((fun (s : State) => { run_ [cmd [(0, 7), (8, 1), (32, 512), (48, 768), (64, 256), (112, 65535)]] job s with slots := [{slot with parts := slot.parts.drop 1}] }) State.reset) ((3 : Fin 48).val)).2.1) : Plan).tref ((((headOf ((fun (s : State) => { run_ [cmd [(0, 7), (8, 1), (32, 512), (48, 768), (64, 256), (112, 65535)]] job s with slots := [{slot with parts := slot.parts.drop 1}] }) State.reset) ((3 : Fin 48).val)).1) : Job).siteOf (bits 127 112 (((headOf ((fun (s : State) => { run_ [cmd [(0, 7), (8, 1), (32, 512), (48, 768), (64, 256), (112, 65535)]] job s with slots := [{slot with parts := slot.parts.drop 1}] }) State.reset) ((3 : Fin 48).val)).2.2) : Cmd))) (bits 79 64 (((headOf ((fun (s : State) => { run_ [cmd [(0, 7), (8, 1), (32, 512), (48, 768), (64, 256), (112, 65535)]] job s with slots := [{slot with parts := slot.parts.drop 1}] }) State.reset) ((3 : Fin 48).val)).2.2) : Cmd))) (by decide +kernel)), (Option.get ((((headOf ((fun (s : State) => { run_ [cmd [(0, 7), (8, 1), (32, 512), (48, 768), (64, 256), (112, 65535)]] job s with slots := [{slot with parts := slot.parts.drop 1}] }) State.reset) ((3 : Fin 48).val)).2.1) : Plan).siteC (Option.get (List.find? (fun d ↦ d.site == (((headOf ((fun (s : State) => { run_ [cmd [(0, 7), (8, 1), (32, 512), (48, 768), (64, 256), (112, 65535)]] job s with slots := [{slot with parts := slot.parts.drop 1}] }) State.reset) ((3 : Fin 48).val)).1) : Job).siteOf (bits 127 112 (((headOf ((fun (s : State) => { run_ [cmd [(0, 7), (8, 1), (32, 512), (48, 768), (64, 256), (112, 65535)]] job s with slots := [{slot with parts := slot.parts.drop 1}] }) State.reset) ((3 : Fin 48).val)).2.2) : Cmd))) (((headOf ((fun (s : State) => { run_ [cmd [(0, 7), (8, 1), (32, 512), (48, 768), (64, 256), (112, 65535)]] job s with slots := [{slot with parts := slot.parts.drop 1}] }) State.reset) ((3 : Fin 48).val)).2.1) : Plan).graph.routers) (by decide +kernel)).gateSite) (by decide +kernel)), runs_of (heads_of (shape_of (by decide +kernel)) (by decide +kernel)) (by decide +kernel), by decide +kernel⟩,
  ⟨(fun (s : State) => { run_ [c_rgate] job s with slots := [{slot with parts := slot.parts.take 3 ++ [⟨none, 3, 0, 0, [9], []⟩]}] }) State.reset, (3 : Fin 48), ((headOf ((fun (s : State) => { run_ [c_rgate] job s with slots := [{slot with parts := slot.parts.take 3 ++ [⟨none, 3, 0, 0, [9], []⟩]}] }) State.reset) ((3 : Fin 48).val)).1), ((resOf ((fun (s : State) => { run_ [c_rgate] job s with slots := [{slot with parts := slot.parts.take 3 ++ [⟨none, 3, 0, 0, [9], []⟩]}] }) State.reset) (headOf ((fun (s : State) => { run_ [c_rgate] job s with slots := [{slot with parts := slot.parts.take 3 ++ [⟨none, 3, 0, 0, [9], []⟩]}] }) State.reset) ((3 : Fin 48).val)).1)), ((headOf ((fun (s : State) => { run_ [c_rgate] job s with slots := [{slot with parts := slot.parts.take 3 ++ [⟨none, 3, 0, 0, [9], []⟩]}] }) State.reset) ((3 : Fin 48).val)).2.1), ((headOf ((fun (s : State) => { run_ [c_rgate] job s with slots := [{slot with parts := slot.parts.take 3 ++ [⟨none, 3, 0, 0, [9], []⟩]}] }) State.reset) ((3 : Fin 48).val)).2.2), (Option.get ((((headOf ((fun (s : State) => { run_ [c_rgate] job s with slots := [{slot with parts := slot.parts.take 3 ++ [⟨none, 3, 0, 0, [9], []⟩]}] }) State.reset) ((3 : Fin 48).val)).2.1) : Plan).siteC ((((headOf ((fun (s : State) => { run_ [c_rgate] job s with slots := [{slot with parts := slot.parts.take 3 ++ [⟨none, 3, 0, 0, [9], []⟩]}] }) State.reset) ((3 : Fin 48).val)).1) : Job).siteOf (bits 127 112 (((headOf ((fun (s : State) => { run_ [c_rgate] job s with slots := [{slot with parts := slot.parts.take 3 ++ [⟨none, 3, 0, 0, [9], []⟩]}] }) State.reset) ((3 : Fin 48).val)).2.2) : Cmd)))) (by decide +kernel)), (Option.get ((((headOf ((fun (s : State) => { run_ [c_rgate] job s with slots := [{slot with parts := slot.parts.take 3 ++ [⟨none, 3, 0, 0, [9], []⟩]}] }) State.reset) ((3 : Fin 48).val)).2.1) : Plan).tref ((((headOf ((fun (s : State) => { run_ [c_rgate] job s with slots := [{slot with parts := slot.parts.take 3 ++ [⟨none, 3, 0, 0, [9], []⟩]}] }) State.reset) ((3 : Fin 48).val)).1) : Job).siteOf (bits 127 112 (((headOf ((fun (s : State) => { run_ [c_rgate] job s with slots := [{slot with parts := slot.parts.take 3 ++ [⟨none, 3, 0, 0, [9], []⟩]}] }) State.reset) ((3 : Fin 48).val)).2.2) : Cmd))) (bits 47 32 (((headOf ((fun (s : State) => { run_ [c_rgate] job s with slots := [{slot with parts := slot.parts.take 3 ++ [⟨none, 3, 0, 0, [9], []⟩]}] }) State.reset) ((3 : Fin 48).val)).2.2) : Cmd))) (by decide +kernel)), (Option.get ((((headOf ((fun (s : State) => { run_ [c_rgate] job s with slots := [{slot with parts := slot.parts.take 3 ++ [⟨none, 3, 0, 0, [9], []⟩]}] }) State.reset) ((3 : Fin 48).val)).2.1) : Plan).tref ((((headOf ((fun (s : State) => { run_ [c_rgate] job s with slots := [{slot with parts := slot.parts.take 3 ++ [⟨none, 3, 0, 0, [9], []⟩]}] }) State.reset) ((3 : Fin 48).val)).1) : Job).siteOf (bits 127 112 (((headOf ((fun (s : State) => { run_ [c_rgate] job s with slots := [{slot with parts := slot.parts.take 3 ++ [⟨none, 3, 0, 0, [9], []⟩]}] }) State.reset) ((3 : Fin 48).val)).2.2) : Cmd))) (bits 63 48 (((headOf ((fun (s : State) => { run_ [c_rgate] job s with slots := [{slot with parts := slot.parts.take 3 ++ [⟨none, 3, 0, 0, [9], []⟩]}] }) State.reset) ((3 : Fin 48).val)).2.2) : Cmd))) (by decide +kernel)), (Option.get (List.find? (fun d ↦ d.site == (((headOf ((fun (s : State) => { run_ [c_rgate] job s with slots := [{slot with parts := slot.parts.take 3 ++ [⟨none, 3, 0, 0, [9], []⟩]}] }) State.reset) ((3 : Fin 48).val)).1) : Job).siteOf (bits 127 112 (((headOf ((fun (s : State) => { run_ [c_rgate] job s with slots := [{slot with parts := slot.parts.take 3 ++ [⟨none, 3, 0, 0, [9], []⟩]}] }) State.reset) ((3 : Fin 48).val)).2.2) : Cmd))) (((headOf ((fun (s : State) => { run_ [c_rgate] job s with slots := [{slot with parts := slot.parts.take 3 ++ [⟨none, 3, 0, 0, [9], []⟩]}] }) State.reset) ((3 : Fin 48).val)).2.1) : Plan).graph.routers) (by decide +kernel)), (Option.get ((((resOf ((fun (s : State) => { run_ [c_rgate] job s with slots := [{slot with parts := slot.parts.take 3 ++ [⟨none, 3, 0, 0, [9], []⟩]}] }) State.reset) (headOf ((fun (s : State) => { run_ [c_rgate] job s with slots := [{slot with parts := slot.parts.take 3 ++ [⟨none, 3, 0, 0, [9], []⟩]}] }) State.reset) ((3 : Fin 48).val)).1)) : Slot).vals (Option.get ((((headOf ((fun (s : State) => { run_ [c_rgate] job s with slots := [{slot with parts := slot.parts.take 3 ++ [⟨none, 3, 0, 0, [9], []⟩]}] }) State.reset) ((3 : Fin 48).val)).2.1) : Plan).tref ((((headOf ((fun (s : State) => { run_ [c_rgate] job s with slots := [{slot with parts := slot.parts.take 3 ++ [⟨none, 3, 0, 0, [9], []⟩]}] }) State.reset) ((3 : Fin 48).val)).1) : Job).siteOf (bits 127 112 (((headOf ((fun (s : State) => { run_ [c_rgate] job s with slots := [{slot with parts := slot.parts.take 3 ++ [⟨none, 3, 0, 0, [9], []⟩]}] }) State.reset) ((3 : Fin 48).val)).2.2) : Cmd))) (bits 47 32 (((headOf ((fun (s : State) => { run_ [c_rgate] job s with slots := [{slot with parts := slot.parts.take 3 ++ [⟨none, 3, 0, 0, [9], []⟩]}] }) State.reset) ((3 : Fin 48).val)).2.2) : Cmd))) (by decide +kernel)) (((headOf ((fun (s : State) => { run_ [c_rgate] job s with slots := [{slot with parts := slot.parts.take 3 ++ [⟨none, 3, 0, 0, [9], []⟩]}] }) State.reset) ((3 : Fin 48).val)).1) : Job).token) (by decide +kernel)), (Option.get ((((resOf ((fun (s : State) => { run_ [c_rgate] job s with slots := [{slot with parts := slot.parts.take 3 ++ [⟨none, 3, 0, 0, [9], []⟩]}] }) State.reset) (headOf ((fun (s : State) => { run_ [c_rgate] job s with slots := [{slot with parts := slot.parts.take 3 ++ [⟨none, 3, 0, 0, [9], []⟩]}] }) State.reset) ((3 : Fin 48).val)).1)) : Slot).vals (Option.get ((((headOf ((fun (s : State) => { run_ [c_rgate] job s with slots := [{slot with parts := slot.parts.take 3 ++ [⟨none, 3, 0, 0, [9], []⟩]}] }) State.reset) ((3 : Fin 48).val)).2.1) : Plan).tref ((((headOf ((fun (s : State) => { run_ [c_rgate] job s with slots := [{slot with parts := slot.parts.take 3 ++ [⟨none, 3, 0, 0, [9], []⟩]}] }) State.reset) ((3 : Fin 48).val)).1) : Job).siteOf (bits 127 112 (((headOf ((fun (s : State) => { run_ [c_rgate] job s with slots := [{slot with parts := slot.parts.take 3 ++ [⟨none, 3, 0, 0, [9], []⟩]}] }) State.reset) ((3 : Fin 48).val)).2.2) : Cmd))) (bits 63 48 (((headOf ((fun (s : State) => { run_ [c_rgate] job s with slots := [{slot with parts := slot.parts.take 3 ++ [⟨none, 3, 0, 0, [9], []⟩]}] }) State.reset) ((3 : Fin 48).val)).2.2) : Cmd))) (by decide +kernel)) (((headOf ((fun (s : State) => { run_ [c_rgate] job s with slots := [{slot with parts := slot.parts.take 3 ++ [⟨none, 3, 0, 0, [9], []⟩]}] }) State.reset) ((3 : Fin 48).val)).1) : Job).token) (by decide +kernel)), (Option.get ((((headOf ((fun (s : State) => { run_ [c_rgate] job s with slots := [{slot with parts := slot.parts.take 3 ++ [⟨none, 3, 0, 0, [9], []⟩]}] }) State.reset) ((3 : Fin 48).val)).2.1) : Plan).tref ((((headOf ((fun (s : State) => { run_ [c_rgate] job s with slots := [{slot with parts := slot.parts.take 3 ++ [⟨none, 3, 0, 0, [9], []⟩]}] }) State.reset) ((3 : Fin 48).val)).1) : Job).siteOf (bits 127 112 (((headOf ((fun (s : State) => { run_ [c_rgate] job s with slots := [{slot with parts := slot.parts.take 3 ++ [⟨none, 3, 0, 0, [9], []⟩]}] }) State.reset) ((3 : Fin 48).val)).2.2) : Cmd))) (bits 79 64 (((headOf ((fun (s : State) => { run_ [c_rgate] job s with slots := [{slot with parts := slot.parts.take 3 ++ [⟨none, 3, 0, 0, [9], []⟩]}] }) State.reset) ((3 : Fin 48).val)).2.2) : Cmd))) (by decide +kernel)), (Option.get ((((headOf ((fun (s : State) => { run_ [c_rgate] job s with slots := [{slot with parts := slot.parts.take 3 ++ [⟨none, 3, 0, 0, [9], []⟩]}] }) State.reset) ((3 : Fin 48).val)).2.1) : Plan).siteC (Option.get (List.find? (fun d ↦ d.site == (((headOf ((fun (s : State) => { run_ [c_rgate] job s with slots := [{slot with parts := slot.parts.take 3 ++ [⟨none, 3, 0, 0, [9], []⟩]}] }) State.reset) ((3 : Fin 48).val)).1) : Job).siteOf (bits 127 112 (((headOf ((fun (s : State) => { run_ [c_rgate] job s with slots := [{slot with parts := slot.parts.take 3 ++ [⟨none, 3, 0, 0, [9], []⟩]}] }) State.reset) ((3 : Fin 48).val)).2.2) : Cmd))) (((headOf ((fun (s : State) => { run_ [c_rgate] job s with slots := [{slot with parts := slot.parts.take 3 ++ [⟨none, 3, 0, 0, [9], []⟩]}] }) State.reset) ((3 : Fin 48).val)).2.1) : Plan).graph.routers) (by decide +kernel)).gateSite) (by decide +kernel)), runs_of (heads_of (shape_of (by decide +kernel)) (by decide +kernel)) (by decide +kernel), by decide +kernel⟩,
  ⟨(fun (s : State) => (id) (run_ [c_tsl] job s)) State.reset, (3 : Fin 48), ((headOf ((fun (s : State) => (id) (run_ [c_tsl] job s)) State.reset) ((3 : Fin 48).val)).1), ((resOf ((fun (s : State) => (id) (run_ [c_tsl] job s)) State.reset) (headOf ((fun (s : State) => (id) (run_ [c_tsl] job s)) State.reset) ((3 : Fin 48).val)).1)), ((headOf ((fun (s : State) => (id) (run_ [c_tsl] job s)) State.reset) ((3 : Fin 48).val)).2.1), ((headOf ((fun (s : State) => (id) (run_ [c_tsl] job s)) State.reset) ((3 : Fin 48).val)).2.2), (Option.get ((((headOf ((fun (s : State) => (id) (run_ [c_tsl] job s)) State.reset) ((3 : Fin 48).val)).2.1) : Plan).siteC ((((headOf ((fun (s : State) => (id) (run_ [c_tsl] job s)) State.reset) ((3 : Fin 48).val)).1) : Job).siteOf (bits 127 112 (((headOf ((fun (s : State) => (id) (run_ [c_tsl] job s)) State.reset) ((3 : Fin 48).val)).2.2) : Cmd)))) (by decide +kernel)), ({ num := 2, count := 2, fmt := 10, mx := false } : TensD), ({ site := 5, gumbel := false, temp := 0, topK := 0 } : TokD), ([{ m := 8388608, e := -23 }, { m := 8388608, e := -22 }] : List Dy), runs_of (heads_of (shape_of (by decide +kernel)) (by decide +kernel)) (by decide +kernel), by decide +kernel⟩,
  ⟨(fun (s : State) => (fun (s : State) => s.updLq 3 fun l => { l with scratch := [(0, .best (.fin ⟨0,0⟩) 1 (.fin ⟨0,0⟩))] }) (run_ [c_tj] job s)) State.reset, (3 : Fin 48), ((headOf ((fun (s : State) => (fun (s : State) => s.updLq 3 fun l => { l with scratch := [(0, .best (.fin ⟨0,0⟩) 1 (.fin ⟨0,0⟩))] }) (run_ [c_tj] job s)) State.reset) ((3 : Fin 48).val)).1), ((resOf ((fun (s : State) => (fun (s : State) => s.updLq 3 fun l => { l with scratch := [(0, .best (.fin ⟨0,0⟩) 1 (.fin ⟨0,0⟩))] }) (run_ [c_tj] job s)) State.reset) (headOf ((fun (s : State) => (fun (s : State) => s.updLq 3 fun l => { l with scratch := [(0, .best (.fin ⟨0,0⟩) 1 (.fin ⟨0,0⟩))] }) (run_ [c_tj] job s)) State.reset) ((3 : Fin 48).val)).1)), ((headOf ((fun (s : State) => (fun (s : State) => s.updLq 3 fun l => { l with scratch := [(0, .best (.fin ⟨0,0⟩) 1 (.fin ⟨0,0⟩))] }) (run_ [c_tj] job s)) State.reset) ((3 : Fin 48).val)).2.1), ((headOf ((fun (s : State) => (fun (s : State) => s.updLq 3 fun l => { l with scratch := [(0, .best (.fin ⟨0,0⟩) 1 (.fin ⟨0,0⟩))] }) (run_ [c_tj] job s)) State.reset) ((3 : Fin 48).val)).2.2), (Option.get ((((headOf ((fun (s : State) => (fun (s : State) => s.updLq 3 fun l => { l with scratch := [(0, .best (.fin ⟨0,0⟩) 1 (.fin ⟨0,0⟩))] }) (run_ [c_tj] job s)) State.reset) ((3 : Fin 48).val)).2.1) : Plan).siteC ((((headOf ((fun (s : State) => (fun (s : State) => s.updLq 3 fun l => { l with scratch := [(0, .best (.fin ⟨0,0⟩) 1 (.fin ⟨0,0⟩))] }) (run_ [c_tj] job s)) State.reset) ((3 : Fin 48).val)).1) : Job).siteOf (bits 127 112 (((headOf ((fun (s : State) => (fun (s : State) => s.updLq 3 fun l => { l with scratch := [(0, .best (.fin ⟨0,0⟩) 1 (.fin ⟨0,0⟩))] }) (run_ [c_tj] job s)) State.reset) ((3 : Fin 48).val)).2.2) : Cmd)))) (by decide +kernel)), (Option.get ((((headOf ((fun (s : State) => (fun (s : State) => s.updLq 3 fun l => { l with scratch := [(0, .best (.fin ⟨0,0⟩) 1 (.fin ⟨0,0⟩))] }) (run_ [c_tj] job s)) State.reset) ((3 : Fin 48).val)).2.1) : Plan).tref ((((headOf ((fun (s : State) => (fun (s : State) => s.updLq 3 fun l => { l with scratch := [(0, .best (.fin ⟨0,0⟩) 1 (.fin ⟨0,0⟩))] }) (run_ [c_tj] job s)) State.reset) ((3 : Fin 48).val)).1) : Job).siteOf (bits 127 112 (((headOf ((fun (s : State) => (fun (s : State) => s.updLq 3 fun l => { l with scratch := [(0, .best (.fin ⟨0,0⟩) 1 (.fin ⟨0,0⟩))] }) (run_ [c_tj] job s)) State.reset) ((3 : Fin 48).val)).2.2) : Cmd))) (bits 47 32 (((headOf ((fun (s : State) => (fun (s : State) => s.updLq 3 fun l => { l with scratch := [(0, .best (.fin ⟨0,0⟩) 1 (.fin ⟨0,0⟩))] }) (run_ [c_tj] job s)) State.reset) ((3 : Fin 48).val)).2.2) : Cmd))) (by decide +kernel)), (Option.get ((((headOf ((fun (s : State) => (fun (s : State) => s.updLq 3 fun l => { l with scratch := [(0, .best (.fin ⟨0,0⟩) 1 (.fin ⟨0,0⟩))] }) (run_ [c_tj] job s)) State.reset) ((3 : Fin 48).val)).2.1) : Plan).tref ((((headOf ((fun (s : State) => (fun (s : State) => s.updLq 3 fun l => { l with scratch := [(0, .best (.fin ⟨0,0⟩) 1 (.fin ⟨0,0⟩))] }) (run_ [c_tj] job s)) State.reset) ((3 : Fin 48).val)).1) : Job).siteOf (bits 127 112 (((headOf ((fun (s : State) => (fun (s : State) => s.updLq 3 fun l => { l with scratch := [(0, .best (.fin ⟨0,0⟩) 1 (.fin ⟨0,0⟩))] }) (run_ [c_tj] job s)) State.reset) ((3 : Fin 48).val)).2.2) : Cmd))) (bits 63 48 (((headOf ((fun (s : State) => (fun (s : State) => s.updLq 3 fun l => { l with scratch := [(0, .best (.fin ⟨0,0⟩) 1 (.fin ⟨0,0⟩))] }) (run_ [c_tj] job s)) State.reset) ((3 : Fin 48).val)).2.2) : Cmd))) (by decide +kernel)), (Option.get (List.find? (fun d ↦ d.site == (((headOf ((fun (s : State) => (fun (s : State) => s.updLq 3 fun l => { l with scratch := [(0, .best (.fin ⟨0,0⟩) 1 (.fin ⟨0,0⟩))] }) (run_ [c_tj] job s)) State.reset) ((3 : Fin 48).val)).1) : Job).siteOf (bits 127 112 (((headOf ((fun (s : State) => (fun (s : State) => s.updLq 3 fun l => { l with scratch := [(0, .best (.fin ⟨0,0⟩) 1 (.fin ⟨0,0⟩))] }) (run_ [c_tj] job s)) State.reset) ((3 : Fin 48).val)).2.2) : Cmd))) (((headOf ((fun (s : State) => (fun (s : State) => s.updLq 3 fun l => { l with scratch := [(0, .best (.fin ⟨0,0⟩) 1 (.fin ⟨0,0⟩))] }) (run_ [c_tj] job s)) State.reset) ((3 : Fin 48).val)).2.1) : Plan).tok) (by decide +kernel)), (Option.get ((((resOf ((fun (s : State) => (fun (s : State) => s.updLq 3 fun l => { l with scratch := [(0, .best (.fin ⟨0,0⟩) 1 (.fin ⟨0,0⟩))] }) (run_ [c_tj] job s)) State.reset) (headOf ((fun (s : State) => (fun (s : State) => s.updLq 3 fun l => { l with scratch := [(0, .best (.fin ⟨0,0⟩) 1 (.fin ⟨0,0⟩))] }) (run_ [c_tj] job s)) State.reset) ((3 : Fin 48).val)).1)) : Slot).val (Option.get ((((headOf ((fun (s : State) => (fun (s : State) => s.updLq 3 fun l => { l with scratch := [(0, .best (.fin ⟨0,0⟩) 1 (.fin ⟨0,0⟩))] }) (run_ [c_tj] job s)) State.reset) ((3 : Fin 48).val)).2.1) : Plan).tref ((((headOf ((fun (s : State) => (fun (s : State) => s.updLq 3 fun l => { l with scratch := [(0, .best (.fin ⟨0,0⟩) 1 (.fin ⟨0,0⟩))] }) (run_ [c_tj] job s)) State.reset) ((3 : Fin 48).val)).1) : Job).siteOf (bits 127 112 (((headOf ((fun (s : State) => (fun (s : State) => s.updLq 3 fun l => { l with scratch := [(0, .best (.fin ⟨0,0⟩) 1 (.fin ⟨0,0⟩))] }) (run_ [c_tj] job s)) State.reset) ((3 : Fin 48).val)).2.2) : Cmd))) (bits 63 48 (((headOf ((fun (s : State) => (fun (s : State) => s.updLq 3 fun l => { l with scratch := [(0, .best (.fin ⟨0,0⟩) 1 (.fin ⟨0,0⟩))] }) (run_ [c_tj] job s)) State.reset) ((3 : Fin 48).val)).2.2) : Cmd))) (by decide +kernel)) (((headOf ((fun (s : State) => (fun (s : State) => s.updLq 3 fun l => { l with scratch := [(0, .best (.fin ⟨0,0⟩) 1 (.fin ⟨0,0⟩))] }) (run_ [c_tj] job s)) State.reset) ((3 : Fin 48).val)).1) : Job).token 0) (by decide +kernel)), (1 : Nat), (⟨8388608, -22⟩ : Dy), (⟨0,0⟩ : Dy), (.fin ⟨0,0⟩ : Val), (1 : Nat), (3 : Nat), runs_of (heads_of (shape_of (by decide +kernel)) (by decide +kernel)) (by decide +kernel), by decide +kernel⟩⟩

/-- The ENV commands judge outputs and keep pending and committed hulls: states that meet the hypotheses of its clauses. -/
theorem test_EnvelopeChecksAndRows :
  (∃ (s : State) (q : Fin 48) (j : Job) (r : Slot) (p : Plan) (c : Cmd) (a : AttnD) (h : Nat) (sc : SiteC) (td : TensD), s.Runs (q.val) j r p c ∧
    c.opc = 8 ∧ j.stream < 64 ∧ (s.st j.stream).olds = [] ∧ (c.positions j.pos).length * 2 * a.dHead ≤ 16384 ∧ a.dHead ≤ 16384 ∧
    p.pairs[bits 23 16 c]? = some (a, h) ∧ c.sub = 0 ∧ p.tref (j.siteOf (bits 127 112 c)) (bits 47 32 c) = some td ∧
    p.siteC (j.siteOf (bits 127 112 c)) = some sc ∧ (¬((s.st j.stream).kv.any fun k ↦ k.site == a.kvSite && k.pos == r.ctxpos + j.token) = true)) ∧
  (∃ (s : State) (q : Fin 48) (j : Job) (r : Slot) (p : Plan) (c : Cmd) (a : AttnD) (h : Nat) (sc : SiteC) (td : TensD), s.Runs (q.val) j r p c ∧
    c.opc = 8 ∧ j.stream < 64 ∧ (s.st j.stream).olds = [] ∧ (c.positions j.pos).length * 2 * a.dHead ≤ 16384 ∧ a.dHead ≤ 16384 ∧
    p.pairs[bits 23 16 c]? = some (a, h) ∧ c.sub = 0 ∧ p.tref (j.siteOf (bits 127 112 c)) (bits 47 32 c) = some td ∧
    p.siteC (j.siteOf (bits 127 112 c)) = some sc ∧ (((s.st j.stream).kv.any fun k ↦ k.site == a.kvSite && k.pos == r.ctxpos + j.token) = true) ∧
    (s.lq q.val).copying = false ∧ (∀ (e : Option (Nat × Nat)), e ∈ r.headOut td a h (bits 29 24 c) j.token → e.isSome = true) ∧
    ((s.st j.stream).pendingTo a (r.ctxpos + j.token)).length ≤ 256 ∧ (a.window == 0 && (s.st j.stream).hullBad) = false ∧ sc.sat ≠ 0 ∧
    (∀ (w : Val × Val), w ∈ (s.st j.stream).hullAt p (bits 23 16 c) (a, h) (r.ctxpos + j.token) → w.fst.dy?.isSome = true ∧
    w.snd.dy?.isSome = true)) ∧
  (∃ (s : State) (q : Fin 48) (j : Job) (r : Slot) (p : Plan) (c : Cmd) (a : AttnD) (h : Nat), s.Runs (q.val) j r p c ∧ c.opc = 8 ∧ j.stream < 64 ∧
    (s.st j.stream).olds = [] ∧ (c.positions j.pos).length * 2 * a.dHead ≤ 16384 ∧ a.dHead ≤ 16384 ∧ p.pairs[bits 23 16 c]? = some (a, h) ∧
    j.vdu = false ∧ (∀ (k : Nat), k ∈ c.positions j.pos → ((s.st j.stream).kv.any fun y ↦ y.site == a.kvSite && y.pos == k) = true) ∧ c.sub = 1) ∧
  (∃ (s : State) (q : Fin 48) (j : Job) (r : Slot) (p : Plan) (c : Cmd) (a : AttnD) (h : Nat) (k : Nat) (vs : List Val), s.Runs (q.val) j r p c ∧
    c.opc = 8 ∧ j.stream < 64 ∧ (s.st j.stream).olds = [] ∧ (c.positions j.pos).length * 2 * a.dHead ≤ 16384 ∧ a.dHead ≤ 16384 ∧
    p.pairs[bits 23 16 c]? = some (a, h) ∧ j.vdu = false ∧
    (∀ (k : Nat), k ∈ c.positions j.pos → ((s.st j.stream).kv.any fun y ↦ y.site == a.kvSite && y.pos == k) = true) ∧ c.sub = 2 ∧
    c.positions j.pos = [k] ∧ (s.st j.stream).vRow p a h k = some vs) ∧
  (∃ (s : State) (q : Fin 48) (j : Job) (r : Slot) (p : Plan) (c : Cmd) (a : AttnD) (h : Nat), s.Runs (q.val) j r p c ∧ c.opc = 8 ∧ j.stream < 64 ∧
    (s.st j.stream).olds = [] ∧ (c.positions j.pos).length * 2 * a.dHead ≤ 16384 ∧ a.dHead ≤ 16384 ∧ p.pairs[bits 23 16 c]? = some (a, h) ∧
    c.sub = 3 ∧ bits 111 100 c * a.dHead ≤ 16384) ∧
  (∃ (s : State) (q : Fin 48) (j : Job) (r : Slot) (p : Plan) (c : Cmd) (a : AttnD) (h : Nat), s.Runs (q.val) j r p c ∧ c.opc = 8 ∧ j.stream < 64 ∧
    (s.st j.stream).olds = [] ∧ (c.positions j.pos).length * 2 * a.dHead ≤ 16384 ∧ a.dHead ≤ 16384 ∧ p.pairs[bits 23 16 c]? = some (a, h) ∧
    c.sub = 4 ∧ (p.tref (j.siteOf (bits 127 112 c)) (bits 47 32 c)).isSome = true ∧
    (p.tref (j.siteOf (bits 127 112 c)) (bits 63 48 c)).isSome = true ∧ (∀ (y : Nat × Scr), y ∈ (s.lq q.val).scratch → y.fst ≠ bits 77 64 c) ∧
    bit 30 c = false) ∧
  (∃ (s : State) (q : Fin 48) (j : Job) (r : Slot) (p : Plan) (c : Cmd) (a : AttnD) (h : Nat), s.Runs (q.val) j r p c ∧ c.opc = 8 ∧ j.stream < 64 ∧
    (s.st j.stream).olds = [] ∧ (c.positions j.pos).length * 2 * a.dHead ≤ 16384 ∧ a.dHead ≤ 16384 ∧ p.pairs[bits 23 16 c]? = some (a, h) ∧
    c.sub = 4 ∧ (p.tref (j.siteOf (bits 127 112 c)) (bits 47 32 c)).isSome = true ∧
    (p.tref (j.siteOf (bits 127 112 c)) (bits 63 48 c)).isSome = true ∧ (∀ (y : Nat × Scr), y ∈ (s.lq q.val).scratch → y.fst ≠ bits 77 64 c) ∧
    bit 30 c = true ∧ (∃ k, k ∈ c.positions j.pos ∧ ∀ (y : KvRow), y ∈ (s.st j.stream).kv → ¬(y.site = a.kvSite ∧ y.pos = k))) :=
  ⟨⟨(fun (s : State) => (fun (s : State) => { s with streams := updAt (fun x => { x with kv := [] }) 3 s.streams }) (run_ [c_env] job s)) State.reset, (3 : Fin 48), ((headOf ((fun (s : State) => (fun (s : State) => { s with streams := updAt (fun x => { x with kv := [] }) 3 s.streams }) (run_ [c_env] job s)) State.reset) ((3 : Fin 48).val)).1), ((resOf ((fun (s : State) => (fun (s : State) => { s with streams := updAt (fun x => { x with kv := [] }) 3 s.streams }) (run_ [c_env] job s)) State.reset) (headOf ((fun (s : State) => (fun (s : State) => { s with streams := updAt (fun x => { x with kv := [] }) 3 s.streams }) (run_ [c_env] job s)) State.reset) ((3 : Fin 48).val)).1)), ((headOf ((fun (s : State) => (fun (s : State) => { s with streams := updAt (fun x => { x with kv := [] }) 3 s.streams }) (run_ [c_env] job s)) State.reset) ((3 : Fin 48).val)).2.1), ((headOf ((fun (s : State) => (fun (s : State) => { s with streams := updAt (fun x => { x with kv := [] }) 3 s.streams }) (run_ [c_env] job s)) State.reset) ((3 : Fin 48).val)).2.2), ({ site := 5, layer := 0, qHeads := 1, kvHeads := 1, dHead := 1, window := 0, kvSite := 5, qOff := 0, kOff := 0, vOff := 0, outTensor := 1, plain := false } : AttnD), (0 : Nat), (Option.get ((((headOf ((fun (s : State) => (fun (s : State) => { s with streams := updAt (fun x => { x with kv := [] }) 3 s.streams }) (run_ [c_env] job s)) State.reset) ((3 : Fin 48).val)).2.1) : Plan).siteC ((((headOf ((fun (s : State) => (fun (s : State) => { s with streams := updAt (fun x => { x with kv := [] }) 3 s.streams }) (run_ [c_env] job s)) State.reset) ((3 : Fin 48).val)).1) : Job).siteOf (bits 127 112 (((headOf ((fun (s : State) => (fun (s : State) => { s with streams := updAt (fun x => { x with kv := [] }) 3 s.streams }) (run_ [c_env] job s)) State.reset) ((3 : Fin 48).val)).2.2) : Cmd)))) (by decide +kernel)), (Option.get ((((headOf ((fun (s : State) => (fun (s : State) => { s with streams := updAt (fun x => { x with kv := [] }) 3 s.streams }) (run_ [c_env] job s)) State.reset) ((3 : Fin 48).val)).2.1) : Plan).tref ((((headOf ((fun (s : State) => (fun (s : State) => { s with streams := updAt (fun x => { x with kv := [] }) 3 s.streams }) (run_ [c_env] job s)) State.reset) ((3 : Fin 48).val)).1) : Job).siteOf (bits 127 112 (((headOf ((fun (s : State) => (fun (s : State) => { s with streams := updAt (fun x => { x with kv := [] }) 3 s.streams }) (run_ [c_env] job s)) State.reset) ((3 : Fin 48).val)).2.2) : Cmd))) (bits 47 32 (((headOf ((fun (s : State) => (fun (s : State) => { s with streams := updAt (fun x => { x with kv := [] }) 3 s.streams }) (run_ [c_env] job s)) State.reset) ((3 : Fin 48).val)).2.2) : Cmd))) (by decide +kernel)), runs_of (heads_of (shape_of (by decide +kernel)) (by decide +kernel)) (by decide +kernel), by decide +kernel⟩,
  ⟨(fun (s : State) => (id) (run_ [c_env] job s)) State.reset, (3 : Fin 48), ((headOf ((fun (s : State) => (id) (run_ [c_env] job s)) State.reset) ((3 : Fin 48).val)).1), ((resOf ((fun (s : State) => (id) (run_ [c_env] job s)) State.reset) (headOf ((fun (s : State) => (id) (run_ [c_env] job s)) State.reset) ((3 : Fin 48).val)).1)), ((headOf ((fun (s : State) => (id) (run_ [c_env] job s)) State.reset) ((3 : Fin 48).val)).2.1), ((headOf ((fun (s : State) => (id) (run_ [c_env] job s)) State.reset) ((3 : Fin 48).val)).2.2), ({ site := 5, layer := 0, qHeads := 1, kvHeads := 1, dHead := 1, window := 0, kvSite := 5, qOff := 0, kOff := 0, vOff := 0, outTensor := 1, plain := false } : AttnD), (0 : Nat), (Option.get ((((headOf ((fun (s : State) => (id) (run_ [c_env] job s)) State.reset) ((3 : Fin 48).val)).2.1) : Plan).siteC ((((headOf ((fun (s : State) => (id) (run_ [c_env] job s)) State.reset) ((3 : Fin 48).val)).1) : Job).siteOf (bits 127 112 (((headOf ((fun (s : State) => (id) (run_ [c_env] job s)) State.reset) ((3 : Fin 48).val)).2.2) : Cmd)))) (by decide +kernel)), ({ num := 1, count := 2, fmt := 2, mx := false } : TensD), runs_of (heads_of (shape_of (by decide +kernel)) (by decide +kernel)) (by decide +kernel), by decide +kernel⟩,
  ⟨(fun (s : State) => (id) (run_ [c_adr] job s)) State.reset, (3 : Fin 48), ((headOf ((fun (s : State) => (id) (run_ [c_adr] job s)) State.reset) ((3 : Fin 48).val)).1), ((resOf ((fun (s : State) => (id) (run_ [c_adr] job s)) State.reset) (headOf ((fun (s : State) => (id) (run_ [c_adr] job s)) State.reset) ((3 : Fin 48).val)).1)), ((headOf ((fun (s : State) => (id) (run_ [c_adr] job s)) State.reset) ((3 : Fin 48).val)).2.1), ((headOf ((fun (s : State) => (id) (run_ [c_adr] job s)) State.reset) ((3 : Fin 48).val)).2.2), ({ site := 5, layer := 0, qHeads := 1, kvHeads := 1, dHead := 1, window := 0, kvSite := 5, qOff := 0, kOff := 0, vOff := 0, outTensor := 1, plain := false } : AttnD), (0 : Nat), runs_of (heads_of (shape_of (by decide +kernel)) (by decide +kernel)) (by decide +kernel), by decide +kernel⟩,
  ⟨(fun (s : State) => (id) (run_ [c_com] job s)) State.reset, (3 : Fin 48), ((headOf ((fun (s : State) => (id) (run_ [c_com] job s)) State.reset) ((3 : Fin 48).val)).1), ((resOf ((fun (s : State) => (id) (run_ [c_com] job s)) State.reset) (headOf ((fun (s : State) => (id) (run_ [c_com] job s)) State.reset) ((3 : Fin 48).val)).1)), ((headOf ((fun (s : State) => (id) (run_ [c_com] job s)) State.reset) ((3 : Fin 48).val)).2.1), ((headOf ((fun (s : State) => (id) (run_ [c_com] job s)) State.reset) ((3 : Fin 48).val)).2.2), ({ site := 5, layer := 0, qHeads := 1, kvHeads := 1, dHead := 1, window := 0, kvSite := 5, qOff := 0, kOff := 0, vOff := 0, outTensor := 1, plain := false } : AttnD), (0 : Nat), (1 : Nat), ([Val.fin { m := 7, e := 0 }] : List Val), runs_of (heads_of (shape_of (by decide +kernel)) (by decide +kernel)) (by decide +kernel), by decide +kernel⟩,
  ⟨(fun (s : State) => (id) (run_ [c_reb] job s)) State.reset, (3 : Fin 48), ((headOf ((fun (s : State) => (id) (run_ [c_reb] job s)) State.reset) ((3 : Fin 48).val)).1), ((resOf ((fun (s : State) => (id) (run_ [c_reb] job s)) State.reset) (headOf ((fun (s : State) => (id) (run_ [c_reb] job s)) State.reset) ((3 : Fin 48).val)).1)), ((headOf ((fun (s : State) => (id) (run_ [c_reb] job s)) State.reset) ((3 : Fin 48).val)).2.1), ((headOf ((fun (s : State) => (id) (run_ [c_reb] job s)) State.reset) ((3 : Fin 48).val)).2.2), ({ site := 5, layer := 0, qHeads := 1, kvHeads := 1, dHead := 1, window := 0, kvSite := 5, qOff := 0, kOff := 0, vOff := 0, outTensor := 1, plain := false } : AttnD), (0 : Nat), runs_of (heads_of (shape_of (by decide +kernel)) (by decide +kernel)) (by decide +kernel), by decide +kernel⟩,
  ⟨(fun (s : State) => (id) (run_ [c_rec] job s)) State.reset, (3 : Fin 48), ((headOf ((fun (s : State) => (id) (run_ [c_rec] job s)) State.reset) ((3 : Fin 48).val)).1), ((resOf ((fun (s : State) => (id) (run_ [c_rec] job s)) State.reset) (headOf ((fun (s : State) => (id) (run_ [c_rec] job s)) State.reset) ((3 : Fin 48).val)).1)), ((headOf ((fun (s : State) => (id) (run_ [c_rec] job s)) State.reset) ((3 : Fin 48).val)).2.1), ((headOf ((fun (s : State) => (id) (run_ [c_rec] job s)) State.reset) ((3 : Fin 48).val)).2.2), ({ site := 5, layer := 0, qHeads := 1, kvHeads := 1, dHead := 1, window := 0, kvSite := 5, qOff := 0, kOff := 0, vOff := 0, outTensor := 1, plain := false } : AttnD), (0 : Nat), runs_of (heads_of (shape_of (by decide +kernel)) (by decide +kernel)) (by decide +kernel), by decide +kernel⟩,
  ⟨(fun (s : State) => (id) (run_ [c_rec2] job s)) State.reset, (3 : Fin 48), ((headOf ((fun (s : State) => (id) (run_ [c_rec2] job s)) State.reset) ((3 : Fin 48).val)).1), ((resOf ((fun (s : State) => (id) (run_ [c_rec2] job s)) State.reset) (headOf ((fun (s : State) => (id) (run_ [c_rec2] job s)) State.reset) ((3 : Fin 48).val)).1)), ((headOf ((fun (s : State) => (id) (run_ [c_rec2] job s)) State.reset) ((3 : Fin 48).val)).2.1), ((headOf ((fun (s : State) => (id) (run_ [c_rec2] job s)) State.reset) ((3 : Fin 48).val)).2.2), ({ site := 5, layer := 0, qHeads := 1, kvHeads := 1, dHead := 1, window := 0, kvSite := 5, qOff := 0, kOff := 0, vOff := 0, outTensor := 1, plain := false } : AttnD), (0 : Nat), runs_of (heads_of (shape_of (by decide +kernel)) (by decide +kernel)) (by decide +kernel), by decide +kernel⟩⟩

/-- A verdict is formed at its deadline, judged by its binds, and passes the gate in order: states that meet the hypotheses of its clauses. -/
theorem test_VerdictsAreFormedAndPass :
  (∃ (s : State) (i : Fin 64) (q : BitVec 64) (r : Slot) (p : Plan), s.Shape ∧ s.Still ∧ s.slotOf (i.val) q.toNat = some r ∧
    s.planOf i.val = some p ∧ r.formed = false ∧ (s.st i.val).emitQ = [(q.toNat, none)]) ∧
  (∃ (s : State) (i : Fin 64) (q : BitVec 64) (r : Slot) (p : Plan) (e : BindE), s.Shape ∧ s.Still ∧ s.slotOf (i.val) q.toNat = some r ∧
    s.planOf i.val = some p ∧ r.formed = false ∧ r.binds = [e] ∧ e.res = 0 ∧ (∀ (d : InputD), d ∈ p.graph.inputs → d.input ≠ e.input) ∧
    bindKey ∈ r.issued ∧ (∀ (o : Nat × Nat), o ∈ r.out → o.fst ≠ bindKey)) ∧
  (∃ (s : State) (i : Fin 64) (q : BitVec 64) (v : VRec) (rest : List (Nat × Option VRec)), s.Shape ∧
    (s.st i.val).emitQ = (q.toNat, some v) :: rest) :=
  ⟨⟨w State.reset, (3 : Fin 64), (0x0000000000000002#64 : BitVec 64), (Option.get ((w State.reset).slotOf ((3 : Fin 64).val) (0x0000000000000002#64 : BitVec 64).toNat) (by decide +kernel)), (Option.get ((w State.reset).planOf (3 : Fin 64).val) (by decide +kernel)), shape_of (by decide +kernel), by unfold State.Still; decide +kernel, by decide +kernel⟩,
  ⟨w2 State.reset, (3 : Fin 64), (0x0000000000000002#64 : BitVec 64), (Option.get ((w2 State.reset).slotOf ((3 : Fin 64).val) (0x0000000000000002#64 : BitVec 64).toNat) (by decide +kernel)), (Option.get ((w2 State.reset).planOf (3 : Fin 64).val) (by decide +kernel)), ({ input := 4, origin := 0, id := 0, ref := 0, digest := 0, res := 0 } : BindE), shape_of (by decide +kernel), by unfold State.Still; decide +kernel, by decide +kernel⟩,
  ⟨w2 State.reset, (3 : Fin 64), (0x0000000000000002#64 : BitVec 64), ({ stream := 3, resseq := 2, status := 1, dl := false, cov := 0, margin := 0, tfirst := 0, dlast := 0, dverdict := 0, cause := 0, fkind := 0, areason := 0, fsum := 0, epoch := 0, n := 0, formed := 0 } : VRec), ([] : List (Nat × Option VRec)), shape_of (by decide +kernel), by decide +kernel⟩⟩

/-- Ring indexes, moderation, context resets, shedding and restoring act as the rules say: states that meet the hypotheses of its clauses. -/
theorem test_RingsContextsAndShedding :
  (∃ (s : State) (r : Fin 9) (v : BitVec 32), s.Shape ∧ r.val < 8 ∧ (s.vring r.val).ring.hold = [] ∧
    ((s.vring r.val).ring.pidx + 2 ^ 32 - v.toNat) % 2 ^ 32 ≤ s.ringSize r.val) ∧
  (∃ (s : State) (r : Fin 9) (v : BitVec 32), s.Shape ∧ r.val < 8 ∧ s.ringSize r.val < ((s.vring r.val).ring.pidx + 2 ^ 32 - v.toNat) % 2 ^ 32) ∧
  (∃ (s : State) (r : Fin 9), s.Shape ∧ r.val < 8 ∧ s.rd F.VDU_RING_MOD_US r.val ≠ 0 ∧ (s.vring r.val).ring.unsig ≠ 0) ∧
  (∃ (s : State), s.Shape ∧ s.Takes 16) ∧
  (∃ (s : State) (i : Fin 64), s.Shape ∧ s.on F.VDU_SCTRL_CTXRST i.val = true ∧ (s.st i.val).open_ = none) ∧
  (∃ (s : State), s.deficit true = 0 ∧ s.deficit false = 0) ∧
  (∃ (s : State) (c : Nat), s.vdu.restAt = some c ∧ s.restorable = true ∧ s.erc.queue.length < 1024) :=
  ⟨⟨rg State.reset, (3 : Fin 9), (0x00000000#32 : BitVec 32), shape_of (by decide +kernel), by decide +kernel⟩,
  ⟨(fun (s : State) => {(w s).wr F.VDU_SCTRL_CTXRST 1 3 with streams := List.replicate 64 strm}) State.reset, (0 : Fin 9), (0x0000005a#32 : BitVec 32), shape_of (by decide +kernel), by decide +kernel⟩,
  ⟨rg State.reset, (0 : Fin 9), shape_of (by decide +kernel), by decide +kernel⟩,
  ⟨(fun (s : State) => {(w s).wr F.VDU_SCTRL_CTXRST 1 3 with streams := List.replicate 64 strm}) State.reset, shape_of (by decide +kernel), by unfold State.Takes; decide +kernel⟩,
  ⟨(fun (s : State) => {(w s).wr F.VDU_SCTRL_CTXRST 1 3 with streams := List.replicate 64 strm}) State.reset, (3 : Fin 64), shape_of (by decide +kernel), by decide +kernel⟩,
  ⟨State.reset, by decide +kernel⟩,
  ⟨shd State.reset, (99 : Nat), by decide +kernel⟩⟩

/-- ACTION records are judged in order; stale, resting and reseeded joints show it: states that meet the hypotheses of its clauses. -/
theorem test_ActionsAreJudged :
  (∃ (s : State) (i : Fin 64) (q : BitVec 64) (r : Slot) (a : ActRec) (x : Nat × Int), s.Shape ∧ s.slotOf (i.val) q.toNat = some r ∧
    r.formed = false ∧ s.predsFormed (i.val) q.toNat = true ∧ (∀ (o : Nat × Nat), o ∈ r.out → o.fst ≠ actKey) ∧ r.acts = [a] ∧ a.judged = false ∧
    a.ents = [x] ∧ (s.judge x.fst x.snd (↑a.tapply) (some i.val) (↑a.arrival) false []).fst ≠ 0) ∧
  (∃ (s : State) (j : Fin 64) (f : Nat) (tm : Nat) (po : Int) (ve : Int), s.Shape ∧ s.jointOk j.val = true ∧ s.on F.AEU_JSTAT_ENC_OK j.val = true ∧
    (s.jt j.val).meas = some (f, tm, po, ve)) ∧
  (∃ (s : State) (j : Fin 64) (tm : Nat) (po : Int), s.Shape ∧ s.jointOk j.val = true ∧ (s.jt j.val).rest = some (po, tm)) ∧
  (∃ (s : State), s.Shape ∧ s.Takes 17) :=
  ⟨⟨w State.reset, (3 : Fin 64), (0x0000000000000002#64 : BitVec 64), (Option.get ((w State.reset).slotOf ((3 : Fin 64).val) (0x0000000000000002#64 : BitVec 64).toNat) (by decide +kernel)), ({ tapply := 50000, arrival := 10, ents := [(3, 70)], judged := false, held := [] } : ActRec), ((3, 70) : Nat × Int), shape_of (by decide +kernel), by decide +kernel⟩,
  ⟨jn State.reset, (3 : Fin 64), (9 : Nat), (9 : Nat), (9 : Int), (9 : Int), shape_of (by decide +kernel), by decide +kernel⟩,
  ⟨jn State.reset, (3 : Fin 64), (9 : Nat), (9 : Int), shape_of (by decide +kernel), by decide +kernel⟩,
  ⟨w State.reset, shape_of (by decide +kernel), by unfold State.Takes; decide +kernel⟩⟩

/-- Hold demands, hand-over, release and split move the Mantis pair between its states: states that meet the hypotheses of its clauses. -/
theorem test_HoldsAndSplits :
  (∃ (s : State), s.Takes 14 ∧ s.mnt.shs.length = 2 ∧ s.rd F.CLK_PWR_STATE = 0 ∧ s.pair = 1) ∧
  (∃ (s : State), s.Takes 14 ∧ s.mnt.shs.length = 2 ∧ s.rd F.CLK_PWR_STATE = 0 ∧ 5 ≤ s.pair) ∧
  (∃ (s : State) (c : Nat), s.Takes 14 ∧ s.mnt.shs.length = 2 ∧ s.engClk = true ∧ s.pair = 2 ∧ s.mnt.demandAt = some c ∧ s.mnt.hold = none) ∧
  (∃ (s : State) (im : SnImage) (c : Nat), s.Takes 14 ∧ s.mnt.shs.length = 2 ∧ s.engClk = true ∧ s.pair = 2 ∧ s.mnt.demandAt = some c ∧
    s.mnt.hold = some im ∧ im.warmup ≤ s.mnt.warm ∧ s.mnt.last = none) ∧
  (∃ (s : State) (im : SnImage), s.Takes 14 ∧ s.mnt.shs.length = 2 ∧ s.pair = 4 ∧ s.on F.SSC_STAT_RESTART = false ∧ s.mnt.hold = some im) ∧
  (∃ (s : State), s.Takes 14 ∧ s.mnt.shs.length = 2 ∧ s.pair ≠ 4) ∧
  (∃ (s : State), s.Takes 14 ∧ s.mnt.shs.length = 2 ∧ s.pair = 3 ∧ s.mnt.hold = none) ∧
  (∃ (s : State) (im : SnImage), s.Takes 14 ∧ s.mnt.shs.length = 2 ∧ s.pair = 3 ∧ s.mnt.hold = some im) ∧
  (∃ (s : State), s.Takes 14 ∧ s.mnt.shs.length = 2 ∧ s.pair ≠ 3) :=
  ⟨⟨(mh 1 m0) State.reset, by unfold State.Takes; decide +kernel, by decide +kernel⟩,
  ⟨(mh 6 m0) State.reset, by unfold State.Takes; decide +kernel, by decide +kernel⟩,
  ⟨(mh 2 (dm Mantis.reset)) State.reset, (9 : Nat), by unfold State.Takes; decide +kernel, by decide +kernel⟩,
  ⟨(mh 2 (dm {m0 with warm := 7})) State.reset, (Option.get (((mh 2 (dm {m0 with warm := 7})) State.reset).mnt.hold) (by decide +kernel)), (9 : Nat), by unfold State.Takes; decide +kernel, by decide +kernel⟩,
  ⟨(mh 4 m0) State.reset, (Option.get (((mh 4 m0) State.reset).mnt.hold) (by decide +kernel)), by unfold State.Takes; decide +kernel, by decide +kernel⟩,
  ⟨(mh 1 m0) State.reset, by unfold State.Takes; decide +kernel, by decide +kernel⟩,
  ⟨(mh 3 Mantis.reset) State.reset, by unfold State.Takes; decide +kernel, by decide +kernel⟩,
  ⟨(mh 3 m0) State.reset, (Option.get (((mh 3 m0) State.reset).mnt.hold) (by decide +kernel)), by unfold State.Takes; decide +kernel, by decide +kernel⟩,
  ⟨(mh 1 m0) State.reset, by unfold State.Takes; decide +kernel, by decide +kernel⟩⟩

/-- Policy, hold and monitor steps start, end and are counted: states that meet the hypotheses of its clauses. -/
theorem test_PolicyAndMonitorSteps :
  (∃ (s : State) (im : SnImage), s.mnt.shs.length = 2 ∧ s.engClk = true ∧ s.mnt.hold = some im ∧ s.mnt.step = none ∧
    (s.pair = 1 ∨ s.pair = 3 ∨ s.pair = 4)) ∧
  (∃ (s : State) (im : SnImage) (r : StepRun), s.mnt.shs.length = 2 ∧ s.engClk = true ∧ s.mnt.hold = some im ∧ s.mnt.step = some r ∧
    (s.sh r.eng).out = false ∧ s.mnt.reload = false ∧ s.mnt.split = false ∧ r.hold = false ∧ r.failed = false) ∧
  (∃ (s : State) (im : SnImage) (r : StepRun), s.mnt.shs.length = 2 ∧ s.mnt.hold = some im ∧ s.pair = 4 ∧ s.fatal = false ∧ s.mnt.step = some r ∧
    r.hold = true) ∧
  (∃ (s : State) (im : SnImage) (r : StepRun), s.mnt.shs.length = 2 ∧ s.mnt.hold = some im ∧ s.pair = 4 ∧ s.fatal = false ∧ s.mnt.last = some r ∧
    r.hold = true ∧ r.queued = true ∧ s.mnt.release = none) ∧
  (∃ (s : State) (im : SnImage) (e : Nat), s.mnt.shs.length = 2 ∧ s.mnt.mon = some im ∧ s.monEng = some e ∧ s.mnt.mstep = none) ∧
  (∃ (s : State) (im : SnImage) (r : StepRun) (e : Nat), s.mnt.shs.length = 2 ∧ s.mnt.mon = some im ∧ s.monEng = some e ∧ s.mnt.mstep = some r ∧
    r.failed = false) ∧
  (∃ (s : State) (im : SnImage) (r : StepRun) (e : Nat), s.mnt.shs.length = 2 ∧ s.mnt.mon = some im ∧ s.monEng = some e ∧ s.mnt.mstep = some r ∧
    e < 2 ∧ (s.sh e).out = false) :=
  ⟨⟨(mh 4 m0) State.reset, (Option.get (((mh 4 m0) State.reset).mnt.hold) (by decide +kernel)), by decide +kernel⟩,
  ⟨(mh 3 {m0 with step := some (sr false false false)}) State.reset, (Option.get (((mh 3 {m0 with step := some (sr false false false)}) State.reset).mnt.hold) (by decide +kernel)), ({ k := 3, outs := [1, 2], stale := false, failed := false, hold := false, offGrid := false, queued := false, tapply := 50000, eng := 0 } : StepRun), by decide +kernel⟩,
  ⟨(fun (s : State) => (mh 4 {m0 with step := some (sr false true false)} s).wr F.FCU_STAT_LATCH 0) State.reset, (im : SnImage), (sr false true false : StepRun), by decide +kernel⟩,
  ⟨(fun (s : State) => (mh 4 {m0 with last := some (sr false true true)} s).wr F.FCU_STAT_LATCH 0) State.reset, (im : SnImage), (sr false true true : StepRun), by decide +kernel⟩,
  ⟨(mh 6 m0) State.reset, (Option.get (((mh 6 m0) State.reset).mnt.mon) (by decide +kernel)), (0 : Nat), by decide +kernel⟩,
  ⟨(mh 1 {m0 with mstep := some (sr false false false)}) State.reset, (Option.get (((mh 1 {m0 with mstep := some (sr false false false)}) State.reset).mnt.mon) (by decide +kernel)), ({ k := 3, outs := [1, 2], stale := false, failed := false, hold := false, offGrid := false, queued := false, tapply := 50000, eng := 0 } : StepRun), (1 : Nat), by decide +kernel⟩,
  ⟨(mh 1 {m0 with mstep := some (sr false false false)}) State.reset, (Option.get (((mh 1 {m0 with mstep := some (sr false false false)}) State.reset).mnt.mon) (by decide +kernel)), ({ k := 3, outs := [1, 2], stale := false, failed := false, hold := false, offGrid := false, queued := false, tapply := 50000, eng := 0 } : StepRun), (1 : Nat), by decide +kernel⟩⟩

/-- SAR jobs run and report; self-test slots pass or take the engine out until it returns: states that meet the hypotheses of its clauses. -/
theorem test_SarJobsAndMantisSlots :
  (∃ (s : State) (e : Fin 2) (j : SarJob), s.mnt.shs.length = 2 ∧ s.engClk = true ∧ s.mnt.waitSar = [] ∧ s.sarEng e.val = true ∧
    (s.sh e.val).testing = false ∧ (s.sh e.val).run = none ∧ s.preempted e.val = false ∧ (Option.all (fun x ↦ x == e.val) j.on = true) ∧
    (s.sh e.val).queue = [j]) ∧
  (∃ (s : State) (e : Fin 2) (j : SarJob) (r : Slot), s.mnt.shs.length = 2 ∧ s.engClk = true ∧ s.preempted e.val = false ∧
    (s.sh e.val).run = some j ∧ s.slotOf j.stream j.resseq = some r ∧ r.formed = false ∧ (∀ (o : Nat × Nat), o ∈ r.out → o.fst ≠ j.chk)) ∧
  (∃ (s : State) (e : Fin 2), s.mnt.shs.length = 2 ∧ s.engClk = true ∧ s.pair = 1 ∧ (s.sh 0).testing = false ∧ (s.sh 1).testing = false ∧
    (s.sh e.val).out = false ∧ (s.sh e.val).run = none ∧ (s.sh e.val).queue = []) ∧
  (∃ (s : State) (e : Fin 2), s.mnt.shs.length = 2 ∧ s.engClk = true ∧ s.pair = 1 ∧ (s.sh e.val).testing = true ∧ (s.sh e.val).out = false) ∧
  (∃ (s : State) (e : Fin 2), s.Takes (12 + e.val) ∧ s.mnt.shs.length = 2 ∧ (s.sh e.val).out = true ∧ s.pair = 6 ∧ (s.sh e.val).wasReset = true ∧
    (s.sh e.val).probed = true) ∧
  (∃ (s : State) (e : Fin 2), s.Takes (12 + e.val) ∧ s.mnt.shs.length = 2 ∧ (s.sh e.val).out = true ∧ s.pair = 6 ∧ (s.sh e.val).probed = false) :=
  ⟨⟨(mh 1 (sh1 {Sh.reset with queue := [sjob]})) State.reset, (1 : Fin 2), ({ stream := 3, resseq := 2, gen := 9, chk := 8, pair := 1, cls := 0, order := 0, again := false, aborted := false, on := none } : SarJob), by decide +kernel⟩,
  ⟨(mh 1 (sh1 {Sh.reset with run := some sjob})) State.reset, (1 : Fin 2), ({ stream := 3, resseq := 2, gen := 9, chk := 8, pair := 1, cls := 0, order := 0, again := false, aborted := false, on := none } : SarJob), (Option.get (((mh 1 (sh1 {Sh.reset with run := some sjob})) State.reset).slotOf ({ stream := 3, resseq := 2, gen := 9, chk := 8, pair := 1, cls := 0, order := 0, again := false, aborted := false, on := none } : SarJob).stream ({ stream := 3, resseq := 2, gen := 9, chk := 8, pair := 1, cls := 0, order := 0, again := false, aborted := false, on := none } : SarJob).resseq) (by decide +kernel)), by decide +kernel⟩,
  ⟨(mh 1 (sh1 Sh.reset)) State.reset, (1 : Fin 2), by decide +kernel⟩,
  ⟨(mh 1 (sh1 {Sh.reset with testing := true})) State.reset, (1 : Fin 2), by decide +kernel⟩,
  ⟨(mh 6 (sh1 {Sh.reset with out := true, wasReset := true, probed := true})) State.reset, (0 : Fin 2), by unfold State.Takes; decide +kernel, by decide +kernel⟩,
  ⟨(mh 6 (sh1 {Sh.reset with out := true})) State.reset, (1 : Fin 2), by unfold State.Takes; decide +kernel, by decide +kernel⟩⟩

/-- A tick counts and samples; filters, discrepancy and the fatal state act on inputs and outputs: states that meet the hypotheses of its clauses. -/
theorem test_TicksFilterAndJudgeInputs :
  (∃ (s : State) (n : Fin 32) (c : Nat), s.Shape ∧ s.rd F.DCI_CFG_TYPE n.val = 0 ∧ s.rd F.DCI_STAT_STATE n.val = 0 ∧
    (s.dci n.val).cfg = s.word R.DCI_CFG n.val ∧ (s.dci n.val).cfgTd = s.word R.DCI_TD n.val ∧
    s.on F.DCI_STAT_RAWA n.val ≠ s.on F.DCI_STAT_FILTA n.val ∧ (s.dci n.val).difA = some c ∧ c + s.rd F.DCI_CFG_FILT n.val = s.sio.tick + 1) ∧
  (∃ (s : State) (k : Fin 24) (c : Nat), s.Shape ∧ (s.sbo k.val).fDifA = some c ∧ c + 10 = s.sio.tick + 1) ∧
  (∃ (s : State) (n : Fin 32) (c : Nat), s.Shape ∧ s.rd F.DCI_CFG_TYPE n.val = 1 ∧ s.on F.SIO_CTRL_EN = true ∧ s.rd F.DCI_STAT_STATE n.val ≠ 4 ∧
    s.on F.DCI_CFG_INTLK n.val = false ∧ (s.dci n.val).cfg = s.word R.DCI_CFG n.val ∧ (s.dci n.val).cfgTd = s.word R.DCI_TD n.val ∧
    (s.dci n.val).disAt = some c ∧ c + s.rd F.DCI_TD_D n.val + 1 = s.sio.tick + 1) :=
  ⟨⟨(fun (s : State) => dc (fun _ d => {d with difA := some 100}) 104 (ws [(F.DCI_CFG_TYPE, 3, 0), (F.DCI_STAT_STATE,3,0), (F.DCI_STAT_RAWA, 3, 1), (F.DCI_STAT_FILTA, 3, 0), (F.DCI_CFG_FILT, 3, 5)] s)) State.reset, (3 : Fin 32), (100 : Nat), shape_of (by decide +kernel), by decide +kernel⟩,
  ⟨(fun (s : State) => sb (fun _ d => {d with fDifA := some 100}) 109 s) State.reset, (3 : Fin 24), (100 : Nat), shape_of (by decide +kernel), by decide +kernel⟩,
  ⟨(fun (s : State) => dc (fun _ d => {d with disAt := some 100}) 107 (ws [(F.DCI_CFG_TYPE, 3, 1), (F.DCI_STAT_STATE,3,1), (F.DCI_CFG_INTLK, 3, 0), (F.SIO_CTRL_EN, 0, 1), (F.DCI_TD_D, 3, 7)] s)) State.reset, (3 : Fin 32), (100 : Nat), shape_of (by decide +kernel), by decide +kernel⟩⟩

/-- Readback, feedback, pulses, requests and relatch act on safe outputs: states that meet the hypotheses of its clauses. -/
theorem test_OutputsFaultPulseAndRelatch :
  (∃ (s : State) (k : Fin 24) (a : Bool) (b : Bool), s.Shape ∧ s.rd F.SBO_STAT_STATE k.val = 1 ∧ (s.sbo k.val).pulse = none ∧
    (a ≠ s.on F.SBO_STAT_DRVA k.val ∨ b ≠ s.on F.SBO_STAT_DRVB k.val) ∧ (s.sbo k.val).pend = none) ∧
  (∃ (s : State) (k : Fin 24) (a : Bool) (b : Bool), s.Shape ∧ a = s.on F.SBO_STAT_DRVA k.val ∧ b = s.on F.SBO_STAT_DRVB k.val) ∧
  (∃ (s : State) (k : Fin 24) (c : Nat), s.Shape ∧ s.rd F.SBO_STAT_STATE k.val = 0 ∧ (s.sbo k.val).pend = none ∧ s.rd F.SIO_BTSTAT_STATE = 0 ∧
    s.on F.SIO_G_STAT_ONREQ (s.rd F.SBO_CFG_GROUP k.val) = false ∧ (s.sbo k.val).fDifA = none ∧ (s.sbo k.val).fLevA = s.on F.SBO_CFG_FBKPOL k.val ∧
    (s.sbo k.val).diffA = some c ∧ (s.sbo k.val).diffB = none ∧ max c (s.sbo k.val).changed + 100 * s.rd F.SBO_CFG_TFB k.val = s.sio.tick ∧
    (s.sbo k.val).raised = false) ∧
  (∃ (s : State) (k : Fin 24), s.Shape ∧ s.Pulses k.val ∧ (s.sbo k.val).onAt + 100 * s.rd F.SBO_TP_TPPER k.val = s.sio.tick + 1 ∧
    0 < s.rd F.SBO_TP_TPPER k.val ∧ 0 < s.rd F.SBO_TP_TPW k.val) ∧
  (∃ (s : State) (k : Fin 24) (a : Bool) (b : Bool) (n : Nat), s.Shape ∧ s.Pulses k.val ∧ (s.sbo k.val).pulse = some (0, n) ∧
    n + s.rd F.SBO_TP_TPW k.val = s.sio.tick + 1 ∧ s.rd F.SBO_TP_TPW k.val < 50 * s.rd F.SBO_TP_TPPER k.val ∧
    (s.sbo k.val).onAt + 100 * s.rd F.SBO_TP_TPPER k.val = n ∧ (a && b) = false ∧ (s.sioTick s.heldSamples).aggr = false) ∧
  (∃ (s : State) (k : Fin 24), s.Shape ∧ s.Takes 18 ∧ s.rd F.SBO_STAT_STATE k.val = 2 ∧
    if (s.sbo k.val).cause = 3 then s.released k.val = true else s.on F.SBO_STAT_RBA k.val = false ∧ s.on F.SBO_STAT_RBB k.val = false) ∧
  (∃ (s : State) (k : Fin 24), s.Shape ∧ s.Takes 18 ∧ s.rd F.SBO_STAT_STATE k.val = 2 ∧
    if (s.sbo k.val).cause = 3 then s.released k.val = false else s.on F.SBO_STAT_RBA k.val = true) :=
  ⟨⟨(fun (s : State) => sb (fun _ d => {d with onAt := 1000}) 1499 (pl s)) State.reset, (3 : Fin 24), (false : Bool), (true : Bool), shape_of (by decide +kernel), by decide +kernel⟩,
  ⟨(fun (s : State) => sb (fun _ d => {d with onAt := 1000}) 1499 (pl s)) State.reset, (3 : Fin 24), (false : Bool), (false : Bool), shape_of (by decide +kernel), by decide +kernel⟩,
  ⟨fb State.reset, (3 : Fin 24), (100 : Nat), shape_of (by decide +kernel), by decide +kernel⟩,
  ⟨(fun (s : State) => sb (fun _ d => {d with onAt := 1000}) 1499 (pl s)) State.reset, (3 : Fin 24), shape_of (by decide +kernel), pulses_of (by decide +kernel), by decide +kernel⟩,
  ⟨(fun (s : State) => sb (fun _ d => {d with onAt := 1000, pulse := some (0, 1500)}) 1519 (ws [(F.FCU_STAT_LATCH, 0, 0)] { pl s with balls := { s.balls with coreLoss := false } })) State.reset, (3 : Fin 24), (false : Bool), (false : Bool), (1500 : Nat), shape_of (by decide +kernel), pulses_of (by decide +kernel), by decide +kernel⟩,
  ⟨(fun (s : State) => ws [(F.SBO_STAT_STATE, 3, 2)] (sb (fun _ d => {d with cause := 1}) 5 s)) State.reset, (3 : Fin 24), shape_of (by decide +kernel), by unfold State.Takes; decide +kernel, by decide +kernel⟩,
  ⟨(fun (s : State) => ws [(F.SBO_STAT_STATE, 3, 2)] (sb (fun _ d => {d with cause := 3}) 5 s)) State.reset, (3 : Fin 24), shape_of (by decide +kernel), by unfold State.Takes; decide +kernel, by decide +kernel⟩⟩

/-- A brake test is refused, runs its steps, passes or fails, and its interval is monitored: states that meet the hypotheses of its clauses. -/
theorem test_BrakeTestsTakeTheirCourse :
  (∃ (s : State) (k : Fin 24) (v : BitVec 5), s.Shape ∧ s.Takes 18 ∧ s.rd F.SIO_BTSTAT_STATE = 0 ∧ s.on F.SBO_CFG_KIND k.val = true ∧
    v.toNat = k.val) ∧
  (∃ (s : State) (v : BitVec 5), s.Shape ∧ s.Takes 18 ∧ (s.rd F.SIO_BTSTAT_STATE ≠ 0 ∨ 24 ≤ v.toNat)) ∧
  (∃ (s : State), s.Shape ∧ s.Takes 18 ∧ s.rd F.SIO_BTSTAT_STATE ≠ 0 ∧ s.sio.bt.stop = none ∧ s.aggr = false) ∧
  (∃ (s : State), s.Shape ∧ s.inP2 = false ∧ s.sio.bt.stop = none ∧ s.sio.bt.slip = false ∧ (∀ (m : Nat), m < 24 → (s.sbo m).pend = none) ∧
    s.rd F.SIO_BTSTAT_STATE = 1 ∧ s.sio.bt.startAt + 100000 = s.sio.tick + 1) ∧
  (∃ (s : State) (k : Fin 24) (g : Nat), s.Shape ∧ s.inP2 = false ∧ s.sio.bt.stop = none ∧ s.sio.bt.slip = false ∧
    (∀ (m : Nat), m < 24 → (s.sbo m).pend = none) ∧ s.rd F.SIO_BTSTAT_STATE = 2 ∧ s.btOut = k.val ∧ s.sio.bt.grantAt = some g ∧
    g + 100 = s.sio.tick + 1 ∧ s.rd F.SBO_CFG_TFB k.val ≠ 0 ∧ s.sio.bt.tonAt ≠ s.sio.tick + 1 ∧ s.on F.SIO_CTRL_EN = true) ∧
  (∃ (s : State) (k : Fin 24) (g : Nat), s.Shape ∧ s.inP2 = false ∧ s.sio.bt.stop = none ∧ s.sio.bt.slip = false ∧
    (∀ (m : Nat), m < 24 → (s.sbo m).pend = none) ∧ s.rd F.SIO_BTSTAT_STATE = 2 ∧ s.btOut = k.val ∧ s.sio.bt.grantAt = some g ∧
    g + 100 + 100 * s.rd F.SBO_CFG_TFB k.val = s.sio.tick + 1 ∧ s.rd F.SBO_CFG_TFB k.val ≠ 0 ∧ s.rd F.SBO_STAT_STATE k.val = 3 ∧
    (s.sbo k.val).fDifA = none ∧ (s.sbo k.val).fLevA = s.on F.SBO_CFG_FBKPOL k.val) ∧
  (∃ (s : State) (k : Fin 24) (g : Nat) (f : Nat) (tm : Nat) (po : Int) (ve : Int), s.Shape ∧ s.inP2 = false ∧ s.sio.bt.stop = none ∧
    s.sio.bt.slip = false ∧ (∀ (m : Nat), m < 24 → (s.sbo m).pend = none) ∧ s.rd F.SIO_BTSTAT_STATE = 2 ∧ s.btOut = k.val ∧
    s.sio.bt.grantAt = some g ∧ s.sio.bt.tonAt = s.sio.tick + 1 ∧ g + 100 + 100 * s.rd F.SBO_CFG_TFB k.val < s.sio.tick + 1 ∧
    (s.reachCyc (8000 * (s.sio.tick + 1))).encStale (s.rd F.SBO_BT_JOINT k.val) = false ∧
    (s.jt (s.rd F.SBO_BT_JOINT k.val)).meas = some (f, tm, po, ve)) ∧
  (∃ (s : State) (k : Fin 24), s.Shape ∧ s.inP2 = false ∧ s.sio.bt.stop = none ∧ s.sio.bt.slip = false ∧
    (∀ (m : Nat), m < 24 → (s.sbo m).pend = none) ∧ s.rd F.SIO_BTSTAT_STATE = 4 ∧ s.btOut = k.val ∧ s.sio.bt.endAt = s.sio.tick + 1) ∧
  (∃ (s : State) (k : Fin 24), s.Shape ∧ s.on F.SBO_CFG_EN k.val = true ∧ s.on F.SBO_CFG_KIND k.val = true ∧ s.on F.SBO_BT_BTEN k.val = true ∧
    s.rd F.SIO_BTSTAT_STATE = 0 ∧
    (s.boot.btLast.getD (k.val) 0 = 0 ∨ (s.reachNs (s.boot.btLast.getD (k.val) 0 + 2 * s.rd F.SBO_BT_BTINT k.val * 3600000000000)).cyc ≤ 8000 * (s.sio.tick + 1))) :=
  ⟨⟨(fun (s : State) => ws [(F.SIO_BTSTAT_STATE, 0, 0), (F.SBO_CFG_KIND, 3, 1)] s) State.reset, (3 : Fin 24), (0x03#5 : BitVec 5), shape_of (by decide +kernel), by unfold State.Takes; decide +kernel, by decide +kernel⟩,
  ⟨(bt 2 (fun _ b => {b with grantAt := some 100}) 199) State.reset, (0x03#5 : BitVec 5), shape_of (by decide +kernel), by unfold State.Takes; decide +kernel, by decide +kernel⟩,
  ⟨(fun (s : State) => (fun (s : State) => ws [(F.FCU_STAT_LATCH, 0, 0)] { s with balls := { s.balls with coreLoss := false } }) (bt 2 (fun _ b => b) 199 s)) State.reset, shape_of (by decide +kernel), by unfold State.Takes; decide +kernel, by decide +kernel⟩,
  ⟨(bt 1 (fun _ b => {b with startAt := 9}) 100008) State.reset, shape_of (by decide +kernel), by decide +kernel⟩,
  ⟨(fun (s : State) => ws [(F.SIO_CTRL_EN, 0, 1)] (bt 2 (fun _ b => {b with grantAt := some 100}) 199 s)) State.reset, (3 : Fin 24), (100 : Nat), shape_of (by decide +kernel), by decide +kernel⟩,
  ⟨(fun (s : State) => bt 2 (fun _ b => {b with grantAt := some 100, tonAt := 9999}) 399 (sb (fun s d => {d with fLevA := s.on F.SBO_CFG_FBKPOL 3}) 4 (ws [(F.SBO_STAT_STATE, 3, 3)] s)) |> fun t => {t with sio := {t.sio with sbo := (sb (fun _ d => {d with fLevA := t.on F.SBO_CFG_FBKPOL 3}) 4 t).sio.sbo}}) State.reset, (3 : Fin 24), (100 : Nat), shape_of (by decide +kernel), by decide +kernel⟩,
  ⟨(fun (s : State) => {bt 2 (fun _ b => {b with grantAt := some 100, tonAt := 500}) 499 (ws [(F.SBO_BT_JOINT, 3, 5)] s) with joints := updAt (fun _ => ⟨[], some (100,5000000,100,100), none, 0, none⟩) 5 s.joints}) State.reset, (3 : Fin 24), (100 : Nat), (100 : Nat), (5000000 : Nat), (100 : Int), (100 : Int), shape_of (by decide +kernel), by decide +kernel⟩,
  ⟨(bt 4 (fun _ b => {b with endAt := 500}) 499) State.reset, (3 : Fin 24), shape_of (by decide +kernel), by decide +kernel⟩,
  ⟨(fun (s : State) => ws [(F.SBO_CFG_EN, 3, 1),(F.SBO_CFG_KIND, 3, 1),(F.SBO_BT_BTEN, 3, 1), (F.SIO_BTSTAT_STATE, 0, 0), (F.SBO_STAT_DUE, 3, 0), (F.SBO_BT_BTINT, 3, 1)] s) State.reset, (3 : Fin 24), shape_of (by decide +kernel), by decide +kernel⟩⟩

/-- The accelerator restart follows its steps, and its timers fail the attempt: states that meet the hypotheses of its clauses. -/
theorem test_RestartsFollowTheirSteps :
  (∃ (s : State) (e : CmdEntry), s.Shape ∧ s.on F.ACB_CTRL_EN = true ∧ (List.find? (fun x ↦ x.cmdid == e.cmdid) s.acb.table = some e) ∧
    s.endsNow e = false ∧ e.cmdid < 1024 ∧ e.stream < 64 ∧ s.on F.ACB_CCFG_EN e.cls = true) ∧
  (∃ (s : State), s.Shape ∧ s.rd F.ACB_STAT_STEP = 1 ∧ (∀ (p : Nat), p < 2 → s.rd F.TAP_STAT_PSTATE p = 3)) ∧
  (∃ (s : State), s.Shape ∧ s.rd F.ACB_STAT_STEP = 2) ∧
  (∃ (s : State), s.Shape ∧ s.rd F.ACB_STAT_STEP = 3 ∧ s.acb.set.rdyPort < 2) ∧
  (∃ (s : State), s.Shape ∧ s.rd F.ACB_STAT_STEP = 4 ∧ s.accLevel = true) ∧
  (∃ (s : State), s.Shape ∧ s.Takes 19 ∧ s.rd F.ACB_STAT_STEP = 6) ∧
  (∃ (s : State), s.Shape ∧ s.Takes 19 ∧ s.rd F.ACB_STAT_STEP ≠ 6) ∧
  (∃ (s : State), s.Shape ∧ s.Takes 19 ∧ s.rd F.ACB_STAT_STEP = 0) ∧
  (∃ (s : State), s.Shape ∧ s.Takes 19 ∧ s.rd F.ACB_STAT_STEP ≠ 0) ∧
  (∃ (s : State), s.Shape ∧ s.rd F.ACB_STAT_STEP = 5) :=
  ⟨⟨hg State.reset, ({ cmdid := 5, stream := 3, cls := 2, opNum := 1, begunNs := 50 } : CmdEntry), shape_of (by decide +kernel), by decide +kernel⟩,
  ⟨(stL 1) State.reset, shape_of (by decide +kernel), by decide +kernel⟩,
  ⟨(stL 2) State.reset, shape_of (by decide +kernel), by decide +kernel⟩,
  ⟨(stL 3) State.reset, shape_of (by decide +kernel), by decide +kernel⟩,
  ⟨(fun (s : State) => ws [(F.ACB_CTRL_ACC_RUN, 0, 1)] ({stL 4 s with acb := {s.acb with rst := false}})) State.reset, shape_of (by decide +kernel), by decide +kernel⟩,
  ⟨(fun (s : State) => rn (stL 6 s)) State.reset, shape_of (by decide +kernel), by unfold State.Takes; decide +kernel, by decide +kernel⟩,
  ⟨(fun (s : State) => {stL 4 s with acb := {s.acb with rst := false}}) State.reset, shape_of (by decide +kernel), by unfold State.Takes; decide +kernel, by decide +kernel⟩,
  ⟨hg State.reset, shape_of (by decide +kernel), by unfold State.Takes; decide +kernel, by decide +kernel⟩,
  ⟨(fun (s : State) => rn (stL 6 s)) State.reset, shape_of (by decide +kernel), by unfold State.Takes; decide +kernel, by decide +kernel⟩,
  ⟨(stL 5) State.reset, shape_of (by decide +kernel), by decide +kernel⟩⟩

/-- The time is stepped, served by Sync and Follow_Up, and link delays are measured: states that meet the hypotheses of its clauses. -/
theorem test_TimeIsSteppedAndServed :
  (∃ (s : State) (off : Int), s.Shape ∧ s.Takes 4 ∧ off = toSigned 32 (s.word R.TBU_STEP_SEC) * 1000000000 + toSigned 32 (s.word R.TBU_STEP_NS) ∧
    s.rd F.TBU_CTRL_SRC ≠ 1 ∧ s.rd F.TBU_CTRL_SRC ≠ 2 ∧ s.anyAdmitted = false ∧ s.pair ≠ 4) ∧
  (∃ (s : State) (off : Int), s.Shape ∧ s.Takes 4 ∧ off = toSigned 32 (s.word R.TBU_STEP_SEC) * 1000000000 + toSigned 32 (s.word R.TBU_STEP_NS) ∧
    s.rd F.TBU_CTRL_SRC ≠ 1 ∧ s.rd F.TBU_CTRL_SRC ≠ 2 ∧ s.anyAdmitted = true ∧ s.word R.TBU_STEPMAX < off.natAbs) ∧
  (∃ (s : State), s.Shape ∧ s.Takes 4 ∧ (s.rd F.TBU_CTRL_SRC = 1 ∨ s.rd F.TBU_CTRL_SRC = 2)) ∧
  (∃ (s : State) (p : Fin 12) (k : Fin 12), s.Shape ∧ s.PtpFree k.val ∧ s.ptpPort p.val = true ∧ s.slavePort = some p.val ∧
    s.on F.TSN_PPSTAT_ASCAP p.val = true ∧ k ≠ p ∧ s.rd F.TSN_PCFG_PTPROLE k.val = 1 ∧ s.on F.TSN_PPSTAT_ASCAP k.val = true ∧
    (∀ (j : Nat), j < 12 → j ≠ k.val → s.rd F.TSN_PCFG_PTPROLE j ≠ 1)) ∧
  (∃ (s : State) (p : Fin 12) (q : BitVec 16) (w : SyncWait), s.Shape ∧ s.ptpPort p.val = true ∧ s.slavePort = some p.val ∧ s.tsn.syncWait = some w ∧
    w.seq = q.toNat) ∧
  (∃ (s : State) (p : Fin 12), s.Shape ∧ s.slavePort = some p.val ∧ s.rd F.TBU_CTRL_SRC = 1 ∧ s.rd F.TBU_STAT_SSTATE = 2) ∧
  (∃ (s : State) (p : Fin 12), s.Shape ∧ s.PtpFree p.val ∧ s.ptpPort p.val = true) ∧
  (∃ (s : State) (p : Fin 12) (u : State), s.Shape ∧ s.ptpPort p.val = true ∧ u = s.ptpDue (s.ethSt p.val).reqAt F.TSN_PSYNC_LOGPDELAY p.val ∧
    (s.ethSt p.val).reqT1 = none) ∧
  (∃ (s : State) (p : Fin 12) (t1 : Int), s.Shape ∧ s.ptpPort p.val = true ∧ (s.ethSt p.val).reqT1 = some t1 ∧ (s.ethSt p.val).lossN = 2 ∧
    s.on F.TSN_PPSTAT_ASCAP p.val = true) ∧
  (∃ (s : State) (p : Fin 12) (q : BitVec 16) (t1 : Int), s.Shape ∧ s.ptpPort p.val = true ∧ (s.ethSt p.val).reqT1 = some t1 ∧
    (s.ethSt p.val).reqSeq = q.toNat ∧ (s.ethSt p.val).prev = none) ∧
  (∃ (s : State) (p : Fin 12) (u : State), s.Shape ∧ u = s.ptpDue (s.ethSt p.val).syncAt F.TSN_PSYNC_LOGSYNC p.val ∧ s.on F.TSN_STAT_GMACT = true ∧
    s.rd F.TSN_PCFG_PTPROLE p.val = 1 ∧ s.on F.TSN_PPSTAT_ASCAP p.val = true ∧ s.ethUp p.val = true) :=
  ⟨⟨(fun (s : State) => {up s with tsn := {(up s).tsn with syncWait := some ⟨9,77,5⟩}}) State.reset, (0 : Int), shape_of (by decide +kernel), by unfold State.Takes; decide +kernel, by decide +kernel⟩,
  ⟨(fun (s : State) => base strm [] [] [] (((s.setWord R.TBU_STEP_SEC 1).setWord R.TBU_STEP_NS 0).wr F.CLK_PWR_STATE 0)) State.reset, (1000000000 : Int), shape_of (by decide +kernel), by unfold State.Takes; decide +kernel, by decide +kernel⟩,
  ⟨(fun (s : State) => ws [(F.TBU_CTRL_SRC, 0, 1)] s) State.reset, shape_of (by decide +kernel), by unfold State.Takes; decide +kernel, by decide +kernel⟩,
  ⟨(fun (s : State) => ws [(F.TSN_PCFG_PTPROLE, 3, 1), (F.TSN_PCFG_PTPROLE, 2, 2), (F.TSN_PPSTAT_ASCAP, 2, 1), (F.TSN_PPSTAT_LINKUP, 2, 1), (F.TSN_PCFG_EN, 2, 1)] (fre s)) State.reset, (2 : Fin 12), (3 : Fin 12), shape_of (by decide +kernel), ⟨shape_of (by decide +kernel), by decide +kernel,
    by decide +kernel, by decide +kernel, by decide +kernel, by decide +kernel⟩, by decide +kernel⟩,
  ⟨(fun (s : State) => {up s with tsn := {(up s).tsn with syncWait := some ⟨9,77,5⟩}}) State.reset, (3 : Fin 12), (0x0009#16 : BitVec 16), ({ seq := 9, stamp := 77, corr := 5 } : SyncWait), shape_of (by decide +kernel), by decide +kernel⟩,
  ⟨(fun (s : State) => ws [(F.TBU_CTRL_SRC, 0, 1), (F.TBU_STAT_SSTATE, 0, 2)] (up s)) State.reset, (3 : Fin 12), shape_of (by decide +kernel), by decide +kernel⟩,
  ⟨(fun (s : State) => {up s with tsn := {(up s).tsn with syncWait := some ⟨9,77,5⟩}}) State.reset, (3 : Fin 12), shape_of (by decide +kernel), ⟨shape_of (by decide +kernel), by decide +kernel,
    by decide +kernel, by decide +kernel, by decide +kernel, by decide +kernel⟩, by decide +kernel⟩,
  ⟨(fun (s : State) => {up s with tsn := {(up s).tsn with lastSync := none}}) State.reset, (3 : Fin 12), (fun (s : State) => {up s with tsn := {(up s).tsn with lastSync := none}}) State.reset, shape_of (by decide +kernel), by decide +kernel⟩,
  ⟨(fun (s : State) => port (fun x => {x with reqT1 := some 100, reqSeq := 9, lossN := 2}) (up s)) State.reset, (3 : Fin 12), (100 : Int), shape_of (by decide +kernel), by decide +kernel⟩,
  ⟨(fun (s : State) => port (fun x => {x with reqT1 := some 100, reqSeq := 9, okN := 3}) (up s)) State.reset, (3 : Fin 12), (0x0009#16 : BitVec 16), (100 : Int), shape_of (by decide +kernel), by decide +kernel⟩,
  ⟨(fun (s : State) => gm (fre s)) State.reset, (3 : Fin 12), (fun (s : State) => gm (fre s)) State.reset, shape_of (by decide +kernel), by decide +kernel⟩⟩

/-- Ethernet frames meet the filters, guard checks, queues, gates and launch limits: states that meet the hypotheses of its clauses. -/
theorem test_FramesMeetFiltersAndGates :
  (∃ (s : State) (p : Fin 12) (b : List Byte), s.Shape ∧ s.ethUp p.val = true ∧ s.rd F.SIO_BTSTAT_STATE = 0 ∧
    s.rd F.TSN_PMAXLEN_BYTES p.val < b.length + 4) ∧
  (∃ (s : State) (p : Fin 12) (b : List Byte), s.Shape ∧ s.ethUp p.val = true ∧ s.rd F.SIO_BTSTAT_STATE = 0 ∧
    b.length + 4 ≤ s.rd F.TSN_PMAXLEN_BYTES p.val ∧ List.take 6 b ≠ natBe 6 1652522221582 ∧ (frameParts b).etype ≠ s.rd F.TSN_GCFG_GUARDET ∧
    s.fdbFind (List.take 6 b) ((frameParts b).tag.getD (s.rd F.TSN_PCFG_PVID p.val, s.rd F.TSN_PCFG_PPCP p.val)).fst = none) ∧
  (∃ (s : State) (p : Fin 12) (q : Fin 12) (b : List Byte) (k : Nat) (c : Nat), s.Shape ∧ s.ethUp p.val = true ∧ s.rd F.SIO_BTSTAT_STATE = 0 ∧
    b.length + 4 ≤ s.rd F.TSN_PMAXLEN_BYTES p.val ∧ List.take 6 b ≠ natBe 6 1652522221582 ∧ (frameParts b).etype ≠ s.rd F.TSN_GCFG_GUARDET ∧
    s.fdbFind (List.take 6 b) ((frameParts b).tag.getD (s.rd F.TSN_PCFG_PVID p.val, s.rd F.TSN_PCFG_PPCP p.val)).fst = some k ∧
    s.rd F.TSN_FDB_FWD_SFI k = 255 ∧ bit (q.val) (s.rd F.TSN_FDB_FWD_PORTS k) = true ∧ q ≠ p ∧ s.ethUp q.val = true ∧
    c = s.rd (F.TSN_PTCMAP_TC ((frameParts b).tag.getD (s.rd F.TSN_PCFG_PVID p.val, s.rd F.TSN_PCFG_PPCP p.val)).snd) q.val ∧
    (s.ethSt q.val).queues.length = 8 ∧ (s.ethSt q.val).queues.getD c [] = [] ∧ b.length ≤ 65536) ∧
  (∃ (s : State), s.Shape ∧ s.Takes 20) ∧
  (∃ (s : State) (p : Fin 12) (b : List Byte), s.Shape ∧ s.ethUp p.val = true ∧ s.rd F.SIO_BTSTAT_STATE = 0 ∧
    b.length + 4 ≤ s.rd F.TSN_PMAXLEN_BYTES p.val ∧
    s.fdbFind (List.take 6 b) ((frameParts b).tag.getD (s.rd F.TSN_PCFG_PVID p.val, s.rd F.TSN_PCFG_PPCP p.val)).fst = none ∧
    (frameParts b).etype = s.rd F.TSN_GCFG_GUARDET ∧ List.take 6 b = s.mac R.TSN_PMAC_LO R.TSN_PMAC_HI p.val ∧
    s.gtFind (be 0 2 (List.drop (frameParts b).off b)) 0 = none) ∧
  (∃ (s : State) (p : Fin 12) (e : Fin 256) (b : List Byte) (k : Nat), s.Shape ∧ s.ethUp p.val = true ∧ s.rd F.SIO_BTSTAT_STATE = 0 ∧
    b.length + 4 ≤ s.rd F.TSN_PMAXLEN_BYTES p.val ∧
    s.fdbFind (List.take 6 b) ((frameParts b).tag.getD (s.rd F.TSN_PCFG_PVID p.val, s.rd F.TSN_PCFG_PPCP p.val)).fst = none ∧
    (frameParts b).etype = s.rd F.TSN_GCFG_GUARDET ∧ List.take 6 b = s.mac R.TSN_PMAC_LO R.TSN_PMAC_HI p.val ∧
    s.gtFind (be 0 2 (List.drop (frameParts b).off b)) 0 = some e.val ∧ s.on F.CVU_GT_CFG_RTAG e.val = false ∧
    (s.tsn.guard.getD (e.val) GuardSt.reset).seen = false ∧ s.rd F.CVU_GT_CB_TSSKEW e.val = 0 ∧ s.rd F.CVU_GT_PORT_LEN e.val = 0 ∧
    bit (p.val) (s.rd F.CVU_GT_PORT_PORTS e.val) = true ∧ be 2 2 (List.drop (frameParts b).off b) = 256 ∧
    be 16 4 (List.drop (frameParts b).off b) = k * 65536 ∧ (frameParts b).off + 24 + k ≤ b.length ∧ k ≤ 8976 ∧
    be 20 4 (List.drop (frameParts b).off b) = guardCheck (s.rd F.CVU_GT_CFG_ALG e.val) (be 0 2 (List.drop (frameParts b).off b)) (be 4 4 (List.drop (frameParts b).off b)) (List.take 20 (List.drop (frameParts b).off b)) (slice 24 k (List.drop (frameParts b).off b))) ∧
  (∃ (s : State) (p : Fin 12) (c : Nat) (x : QFrame), s.Shape ∧ s.ethUp p.val = true ∧ (s.ethSt p.val).busyNs ≤ s.ns ∧ s.startClass p.val = some c ∧
    ((s.ethSt p.val).queues.getD c []).head? = some x ∧ x.ingress = none ∧ x.verdict = none) ∧
  (∃ (s : State) (p : Fin 12) (l : Nat), s.Shape ∧ s.nextLaunch p.val = some l) ∧
  (∃ (s : State) (p : Fin 12), s.Shape ∧ s.on F.TSN_PCFG_GATE_EN p.val = true) ∧
  (∃ (s : State) (g : Fin 16), s.Shape ∧ s.on F.TSN_SG_CTRL_EN g.val = true) ∧
  (∃ (s : State) (e : Fin 256), s.Shape ∧ s.on F.CVU_GT_CFG_RTAG e.val = true ∧ s.rd F.CVU_GT_CFG_DIR e.val = 0 ∧ s.gtOk e.val = true) ∧
  (∃ (s : State) (p : Fin 12), s.Shape ∧ s.on F.TSN_PPSTAT_LINKUP p.val = true) :=
  ⟨⟨(fun (s : State) => ws [(F.TSN_PMAXLEN_BYTES, 3, 53)] (br s)) State.reset, (3 : Fin 12), (List.replicate 50 1 : List Byte), shape_of (by decide +kernel), by decide +kernel⟩,
  ⟨(qf ⟨[1,2,3], some 7, false, none, none, none, true, 0, none⟩) State.reset, (3 : Fin 12), (([0x00#8, 0x00#8, 0x00#8, 0x12#8, 0x34#8, 0x56#8, 0x00#8, 0x00#8, 0x00#8, 0x00#8, 0x00#8, 0x07#8, 0x12#8, 0x34#8] ++ List.replicate 50 0x01#8) : List Byte), shape_of (by decide +kernel), by decide +kernel⟩,
  ⟨(fun (s : State) => ws [(F.TSN_PTCMAP_TC 0, 5, 2)] (br2 s)) State.reset, (3 : Fin 12), (5 : Fin 12), (natBe 6 0x123456 ++ natBe 6 7 ++ natBe 2 0x1234 ++ List.replicate 50 1 : List Byte), (3 : Nat), (2 : Nat), shape_of (by decide +kernel), by decide +kernel⟩,
  ⟨(qf ⟨[1,2,3], none, false, none, none, none, true, 0, none⟩) State.reset, shape_of (by decide +kernel), by unfold State.Takes; decide +kernel⟩,
  ⟨br3 State.reset, (3 : Fin 12), (([0x00#8, 0x00#8, 0x00#8, 0x12#8, 0x34#8, 0x56#8, 0x00#8, 0x00#8, 0x00#8, 0x00#8, 0x00#8, 0x07#8, 0x43#8, 0x21#8, 0x00#8, 0x07#8, 0x01#8, 0x00#8, 0x00#8, 0x00#8, 0x00#8, 0x37#8] ++ List.replicate 9 0x00#8 ++ [0x05#8, 0x00#8, 0x00#8, 0x55#8, 0xc3#8, 0xba#8, 0x89#8, 0x01#8, 0x02#8, 0x03#8, 0x04#8, 0x05#8] ++ List.replicate 30 0x00#8) : List Byte), shape_of (by decide +kernel), by decide +kernel⟩,
  ⟨br4 State.reset, (3 : Fin 12), (3 : Fin 256), (([0x00#8, 0x00#8, 0x00#8, 0x12#8, 0x34#8, 0x56#8, 0x00#8, 0x00#8, 0x00#8, 0x00#8, 0x00#8, 0x07#8, 0x43#8, 0x21#8, 0x00#8, 0x07#8, 0x01#8, 0x00#8, 0x00#8, 0x00#8, 0x00#8, 0x37#8] ++ List.replicate 9 0x00#8 ++ [0x05#8, 0x00#8, 0x00#8, 0x55#8, 0xc3#8, 0xba#8, 0x89#8, 0x01#8, 0x02#8, 0x03#8, 0x04#8, 0x05#8] ++ List.replicate 30 0x00#8) : List Byte), (5 : Nat), shape_of (by decide +kernel), by decide +kernel⟩,
  ⟨(qf ⟨[1,2,3], none, false, none, none, none, true, 0, none⟩) State.reset, (3 : Fin 12), (3 : Nat), ({ data := [0x01#8, 0x02#8, 0x03#8], launch := none, hold := false, verdict := none, hostAt := none, ingress := none, good := true, entered := 0, ptp := none } : QFrame), shape_of (by decide +kernel), by decide +kernel⟩,
  ⟨(qf ⟨[1,2,3], some 7, false, none, none, none, true, 0, none⟩) State.reset, (3 : Fin 12), (7 : Nat), shape_of (by decide +kernel), by decide +kernel⟩,
  ⟨(fun (s : State) => ws [(F.TSN_PCFG_GATE_EN, 3, 1), (F.TSN_SG_CTRL_EN, 3, 1)] s) State.reset, (3 : Fin 12), shape_of (by decide +kernel), by decide +kernel⟩,
  ⟨(fun (s : State) => (ws [(F.TSN_SG_CTRL_EN, 3, 1), (F.TSN_SG_CTRL_NENT, 3, 1)] s).setWord R.TSN_SG_CYC 1 3) State.reset, (3 : Fin 16), shape_of (by decide +kernel), by decide +kernel⟩,
  ⟨(fun (s : State) => ws [(F.CVU_GT_CFG_RTAG, 3, 1), (F.CVU_GT_CFG_VALID, 3, 1), (F.CVU_GT_CFG_ALG, 3, 0), (F.CVU_GT_CFG_DATA_ID, 3, 7), (F.CVU_GT_CFG_DIR, 3, 0)] s) State.reset, (3 : Fin 256), shape_of (by decide +kernel), by decide +kernel⟩,
  ⟨(qf ⟨[1,2,3], none, false, none, none, none, true, 0, none⟩) State.reset, (3 : Fin 12), shape_of (by decide +kernel), by decide +kernel⟩⟩

/-- A host check-value unit starts, feeds, finishes and resumes; bridge units refuse the host: states that meet the hypotheses of its clauses. -/
theorem test_HostCheckValueUnitsFeed :
  (∃ (s : State) (u : Fin 32), s.Shape ∧ s.Takes 21 ∧ 24 ≤ u.val ∧ s.on F.CVU_CFG_MODE u.val = false) ∧
  (∃ (s : State) (u : Fin 32), s.Shape ∧ s.Takes 21 ∧ 24 ≤ u.val ∧ (s.tsn.cvu.getD (u.val) CvuSt.reset).fedAt ≠ some s.cyc) ∧
  (∃ (s : State) (u : Fin 32), s.Shape ∧ s.Takes 21 ∧ 24 ≤ u.val ∧ (s.tsn.cvu.getD (u.val) CvuSt.reset).fedAt = some s.cyc) ∧
  (∃ (s : State) (u : Fin 32) (v : BitVec 32) (w : BitVec 8) (hi : Bool) (c : Instr), s.Shape ∧ s.Takes 21 ∧ u.val < 24 ∧
    c ∈ [Instr.cvuStart u, Instr.cvuFinish u, Instr.cvuData u v, Instr.cvuDatab u w, Instr.cvuRun u hi v]) :=
  ⟨⟨State.reset, (26 : Fin 32), shape_of (by decide +kernel), by unfold State.Takes; decide +kernel, by decide +kernel⟩,
  ⟨State.reset, (25 : Fin 32), shape_of (by decide +kernel), by unfold State.Takes; decide +kernel, by decide +kernel⟩,
  ⟨(fun (s : State) => { s with tsn := { s.tsn with cvu := updAt (fun x => { x with feeding := true, fedAt := some s.cyc }) 25 s.tsn.cvu } }) State.reset, (25 : Fin 32), shape_of (by decide +kernel), by unfold State.Takes; decide +kernel, by decide +kernel⟩,
  ⟨State.reset, (3 : Fin 32), (0x0000005a#32 : BitVec 32), (0x03#8 : BitVec 8), (false : Bool), (Instr.cvuStart (3 : Fin 32) : Instr), shape_of (by decide +kernel), by unfold State.Takes; decide +kernel, by decide +kernel⟩⟩

/-- Reed links acknowledge, replay, train, agree keys and go down: states that meet the hypotheses of its clauses. -/
theorem test_ReedLinksTrainAndReplay :
  (∃ (s : State) (h : FlitHdr) (p : Fin 4) (r : RPort) (e : RetryE) (es : List RetryE), s.Shape ∧ s.reed.ports[p.val]? = some r ∧ h.port = p ∧
    s.rUp p.val = true ∧ h.good = true ∧ r.wait = [] ∧ uncovered h.ack.toNat r.retry = e :: es ∧ (∀ (y : RetryE), y ∈ e :: es → y.replays < 7)) ∧
  (∃ (s : State) (h : FlitHdr) (p : Fin 4) (r : RPort), s.Shape ∧ s.reed.ports[p.val]? = some r ∧ h.port = p ∧ s.rUp p.val = true ∧ h.good = false ∧
    r.nak = false) ∧
  (∃ (s : State) (p : Fin 4) (r : RPort) (e : RetryE) (es : List RetryE), s.Shape ∧ s.reed.ports[p.val]? = some r ∧ s.rUp p.val = true ∧
    r.retry = e :: es ∧ (∀ (y : RetryE), y ∈ e :: es → y.replays < 7)) ∧
  (∃ (s : State) (p : Fin 4) (r : RPort) (e : RetryE) (es : List RetryE), s.Shape ∧ s.reed.ports[p.val]? = some r ∧ s.rUp p.val = true ∧
    r.retry = e :: es ∧ 7 ≤ e.replays) ∧
  (∃ (s : State) (p : Fin 4) (r : RPort) (x : Fin 3) (nb : BitVec 6), s.Shape ∧ s.reed.ports[p.val]? = some r ∧ s.on F.REED_PCFG_EN p.val = true ∧
    r.keyFail = false ∧ s.rd F.REED_PSTAT_LSTATE p.val = 1 ∧ x.val = 0 ∧ s.topoOk = true ∧ s.neighbour p.val = some nb.toNat) ∧
  (∃ (s : State) (p : Fin 4) (r : RPort) (x : Fin 3) (nb : BitVec 6), s.Shape ∧ s.reed.ports[p.val]? = some r ∧ s.on F.REED_PCFG_EN p.val = true ∧
    r.keyFail = false ∧ s.rd F.REED_PSTAT_LSTATE p.val = 1 ∧ x.val = 0 ∧ s.topoOk = true ∧ s.neighbour p.val ≠ some nb.toNat) ∧
  (∃ (s : State) (p : Fin 4) (r : RPort) (x : Fin 3), s.Shape ∧ s.reed.ports[p.val]? = some r ∧ s.on F.REED_PCFG_EN p.val = true ∧
    r.keyFail = false ∧ s.rd F.REED_PSTAT_LSTATE p.val = 1 ∧ x.val = 2) ∧
  (∃ (s : State) (p : Fin 4) (r : RPort), s.Shape ∧ s.reed.ports[p.val]? = some r ∧ s.rd F.REED_PSTAT_LSTATE p.val = 2) ∧
  (∃ (s : State) (h : FlitHdr) (p : Fin 4) (r : RPort), s.Shape ∧ s.Recv h ∧ s.reed.ports[p.val]? = some r ∧ h.bcast = true ∧ h.src.toNat ≠ s.dev ∧
    (¬(h.src.toNat, h.bseq.toNat) ∈ s.reed.seen)) :=
  ⟨⟨(fun (s : State) => ws [ (F.REED_GCFG_TOPO, 0, 3), (F.REED_GCFG_NDEV, 0, 16), (F.REED_GCFG_W, 0, 4)] (pt r0 3 s)) State.reset, ({ port := 3, good := true, lseq := 0x0005#16, ack := 0x0002#16, src := 0x07#6, dst := 0x09#6, bcast := false, hops := 0x04#8, bseq := 0x00000008#32 } : FlitHdr), (3 : Fin 4), (Option.get (((fun (s : State) => ws [ (F.REED_GCFG_TOPO, 0, 3), (F.REED_GCFG_NDEV, 0, 16), (F.REED_GCFG_W, 0, 4)] (pt r0 3 s)) State.reset).reed.ports[(3 : Fin 4).val]?) (by decide +kernel)), ({ lseq := 3, flit := { typ := 32, vc := 0, src := 1, dst := 2, bcast := false, hops := 5, bseq := 0, payload := [0x01#8, 0x02#8] }, sentAt := 40, replays := 2 } : RetryE), ([] : List RetryE), shape_of (by decide +kernel), by decide +kernel⟩,
  ⟨(pt r0 3) State.reset, ({ port := 3, good := false, lseq := 0x0005#16, ack := 0x0002#16, src := 0x07#6, dst := 0x09#6, bcast := true, hops := 0x04#8, bseq := 0x00000008#32 } : FlitHdr), (3 : Fin 4), (Option.get (((pt r0 3) State.reset).reed.ports[(3 : Fin 4).val]?) (by decide +kernel)), shape_of (by decide +kernel), by decide +kernel⟩,
  ⟨(fun (s : State) => ws [ (F.REED_GCFG_TOPO, 0, 3), (F.REED_GCFG_NDEV, 0, 16), (F.REED_GCFG_W, 0, 4)] (pt r0 3 s)) State.reset, (3 : Fin 4), (Option.get (((fun (s : State) => ws [ (F.REED_GCFG_TOPO, 0, 3), (F.REED_GCFG_NDEV, 0, 16), (F.REED_GCFG_W, 0, 4)] (pt r0 3 s)) State.reset).reed.ports[(3 : Fin 4).val]?) (by decide +kernel)), ({ lseq := 3, flit := { typ := 32, vc := 0, src := 1, dst := 2, bcast := false, hops := 5, bseq := 0, payload := [0x01#8, 0x02#8] }, sentAt := 40, replays := 2 } : RetryE), ([] : List RetryE), shape_of (by decide +kernel), by decide +kernel⟩,
  ⟨(pt {r0 with retry := [{re with replays := 9}]} 3) State.reset, (3 : Fin 4), (Option.get (((pt {r0 with retry := [{re with replays := 9}]} 3) State.reset).reed.ports[(3 : Fin 4).val]?) (by decide +kernel)), ({ lseq := 3, flit := { typ := 32, vc := 0, src := 1, dst := 2, bcast := false, hops := 5, bseq := 0, payload := [0x01#8, 0x02#8] }, sentAt := 40, replays := 9 } : RetryE), ([] : List RetryE), shape_of (by decide +kernel), by decide +kernel⟩,
  ⟨tr State.reset, (3 : Fin 4), (Option.get ((tr State.reset).reed.ports[(3 : Fin 4).val]?) (by decide +kernel)), (0 : Fin 3), (0x05#6 : BitVec 6), shape_of (by decide +kernel), by decide +kernel⟩,
  ⟨tr State.reset, (3 : Fin 4), (Option.get ((tr State.reset).reed.ports[(3 : Fin 4).val]?) (by decide +kernel)), (0 : Fin 3), (0x0d#6 : BitVec 6), shape_of (by decide +kernel), by decide +kernel⟩,
  ⟨tr State.reset, (3 : Fin 4), (Option.get ((tr State.reset).reed.ports[(3 : Fin 4).val]?) (by decide +kernel)), (2 : Fin 3), shape_of (by decide +kernel), by decide +kernel⟩,
  ⟨(pt r0 2) State.reset, (3 : Fin 4), (Option.get (((pt r0 2) State.reset).reed.ports[(3 : Fin 4).val]?) (by decide +kernel)), shape_of (by decide +kernel), by decide +kernel⟩,
  ⟨(pt r0 3) State.reset, ({ port := 3, good := true, lseq := 0x0005#16, ack := 0x0002#16, src := 0x07#6, dst := 0x09#6, bcast := true, hops := 0x04#8, bseq := 0x00000008#32 } : FlitHdr), (3 : Fin 4), (Option.get (((pt r0 3) State.reset).reed.ports[(3 : Fin 4).val]?) (by decide +kernel)), shape_of (by decide +kernel), ⟨shape_of (by decide +kernel), by decide +kernel,
    by decide +kernel, ⟨_, rfl, by decide +kernel⟩, by decide +kernel⟩, by decide +kernel⟩⟩

/-- Reed time exchanges and transfer keys travel and roll over: states that meet the hypotheses of its clauses. -/
theorem test_ReedTimeAndKeysTravel :
  (∃ (s : State), s.Shape ∧ s.rd F.TBU_CTRL_SRC = 2 ∧ s.rUp (s.rd F.REED_GCFG_TUP) = true ∧ s.reed.t0 = none) ∧
  (∃ (s : State), s.Shape ∧ s.rd F.TBU_CTRL_SRC = 2 ∧ s.rUp (s.rd F.REED_GCFG_TUP) = false) ∧
  (∃ (s : State) (h : FlitHdr) (t0 : Nat) (root : BitVec 6) (depth : BitVec 8), s.Shape ∧ s.Recv h ∧ s.rd F.TBU_CTRL_SRC = 2 ∧
    s.rd F.REED_GCFG_TUP = ↑h.port ∧ s.reed.t0 = some t0 ∧ root.toNat ≠ s.dev ∧ depth.toNat < 15) ∧
  (∃ (s : State) (site : BitVec 16) (c : Fin 16) (p : Plan) (d : XferD) (k : XKey) (pr : Nat × Nat), s.Shape ∧ (s.ctx c.val).plan = some p ∧
    p.xferD site.toNat = some d ∧ d.sends = true ∧ d.pairs = [pr] ∧
    (List.find? (fun k ↦ k.purpose == 1 && k.site == site.toNat && k.peer == d.peer) s.reed.sent = some k)) ∧
  (∃ (s : State), s.Shape ∧ s.on F.REED_AUDCFG_AUD_EN = true ∧ s.reed.sent = [] ∧ s.noDraws = false) :=
  ⟨⟨(tm 3) State.reset, shape_of (by decide +kernel), by decide +kernel⟩,
  ⟨(tm 0) State.reset, shape_of (by decide +kernel), by decide +kernel⟩,
  ⟨(fun (s : State) => {tm 3 s with reed := {(tm 3 s).reed with t0 := some 100}}) State.reset, ({ port := 3, good := true, lseq := 0x0005#16, ack := 0x0002#16, src := 0x07#6, dst := 0x09#6, bcast := false, hops := 0x04#8, bseq := 0x00000008#32 } : FlitHdr), (100 : Nat), (0x05#6 : BitVec 6), (0x01#8 : BitVec 8), shape_of (by decide +kernel), ⟨shape_of (by decide +kernel), by decide +kernel,
    by decide +kernel, ⟨_, rfl, by decide +kernel⟩, by decide +kernel⟩, by decide +kernel⟩,
  ⟨(fun (s : State) => let s := base strm [] [] [] (pt r0 3 s); {s with reed := {s.reed with sent := [⟨1, 5, 6, 7, 1, 0, 9, 0, false⟩]}, ctxs := updAt (fun _ => { PlanCtx.reset with plan := some plx}) 0 s.ctxs}) State.reset, (0x0005#16 : BitVec 16), (0 : Fin 16), (Option.get ((((fun (s : State) => let s := base strm [] [] [] (pt r0 3 s); {s with reed := {s.reed with sent := [⟨1, 5, 6, 7, 1, 0, 9, 0, false⟩]}, ctxs := updAt (fun _ => { PlanCtx.reset with plan := some plx}) 0 s.ctxs}) State.reset).ctx (0 : Fin 16).val).plan) (by decide +kernel)), ({ site := 5, k := 1, peer := 7, timeoutUs := 4, sends := true, pairs := [(0, 6)], producers := [], sems := [] } : XferD), ({ purpose := 1, site := 5, stream := 6, peer := 7, kgen := 1, fromRes := 0, key := 9, drawnAt := 0, acked := false } : XKey), ((0, 6) : Nat × Nat), shape_of (by decide +kernel), by decide +kernel⟩,
  ⟨(fun (s : State) => ws [(F.REED_AUDCFG_AUD_EN, 0, 1)] (pt r0 3 s)) State.reset, shape_of (by decide +kernel), by decide +kernel⟩⟩

/-- Window values and signals wait in the pending table; audits run and compare: states that meet the hypotheses of its clauses. -/
theorem test_ReedValuesSignalsAndAudits :
  (∃ (s : State) (h : FlitHdr) (q : BitVec 64) (i : Fin 64), s.Recv h ∧ s.slotOf (i.val) q.toNat = none ∧ (s.st i.val).maxUsed = none ∧
    s.reed.pend.length < 4096) ∧
  (∃ (s : State) (h : FlitHdr), s.Recv h ∧ s.reed.pend = [] ∧ (∀ (l : LQ), l ∈ s.lqs → l.waiting = false)) ∧
  (∃ (s : State) (h : FlitHdr) (xid : BitVec 32) (q : BitVec 64) (tok : BitVec 16) (e : XPend), s.Recv h ∧ s.reed.pend = [e] ∧ e.isSig = false ∧
    e.src = h.src.toNat ∧ e.xid = xid.toNat ∧ e.resseq = q.toNat ∧ e.token = tok.toNat) ∧
  (∃ (s : State) (h : FlitHdr) (e : XPend) (c : Instr), s.Recv h ∧ c ∈ [Instr.xvalExpiry, Instr.remoteSigExpiry] ∧ s.reed.pend = [e] ∧
    e.isSig = decide (c = Instr.remoteSigExpiry)) ∧
  (∃ (s : State) (h : FlitHdr) (site : BitVec 16) (b : List Byte), s.Recv h ∧ s.audFits (s.audCost site.toNat b.length) = true) ∧
  (∃ (s : State) (h : FlitHdr) (site : BitVec 16) (b : List Byte), s.Recv h ∧ s.audFits (s.audCost site.toNat b.length) = false) ∧
  (∃ (s : State) (h : FlitHdr) (q : BitVec 64) (chk : BitVec 16) (i : Fin 64) (a : AudE), s.Recv h ∧ s.reed.audits = [a] ∧ a.peer = h.src.toNat ∧
    a.stream = i.val ∧ a.resseq = q.toNat ∧ a.chk = chk.toNat) :=
  ⟨⟨(xpN false) State.reset, ({ port := 3, good := true, lseq := 0x0005#16, ack := 0x0002#16, src := 0x07#6, dst := 0x09#6, bcast := false, hops := 0x04#8, bseq := 0x00000008#32 } : FlitHdr), (0x0000000000000001#64 : BitVec 64), (3 : Fin 64), ⟨shape_of (by decide +kernel), by decide +kernel,
    by decide +kernel, ⟨_, rfl, by decide +kernel⟩, by decide +kernel⟩, by decide +kernel⟩,
  ⟨(au 0) State.reset, ({ port := 3, good := true, lseq := 0x0005#16, ack := 0x0002#16, src := 0x07#6, dst := 0x09#6, bcast := false, hops := 0x04#8, bseq := 0x00000008#32 } : FlitHdr), ⟨shape_of (by decide +kernel), by decide +kernel,
    by decide +kernel, ⟨_, rfl, by decide +kernel⟩, by decide +kernel⟩, by decide +kernel⟩,
  ⟨(xpN false) State.reset, ({ port := 3, good := true, lseq := 0x0005#16, ack := 0x0002#16, src := 0x07#6, dst := 0x09#6, bcast := false, hops := 0x04#8, bseq := 0x00000008#32 } : FlitHdr), (0x00000001#32 : BitVec 32), (0x0000000000000001#64 : BitVec 64), (0x0005#16 : BitVec 16), ({ isSig := false, src := 7, xid := 1, resseq := 1, token := 5, stream := 3, arrived := 0, expires := 1000, prod := 0, kgen := 0, wins := [], sem := 2, cnt := 0 } : XPend), ⟨shape_of (by decide +kernel), by decide +kernel,
    by decide +kernel, ⟨_, rfl, by decide +kernel⟩, by decide +kernel⟩, by decide +kernel⟩,
  ⟨(xpN false) State.reset, ({ port := 3, good := true, lseq := 0x0005#16, ack := 0x0002#16, src := 0x07#6, dst := 0x09#6, bcast := false, hops := 0x04#8, bseq := 0x00000008#32 } : FlitHdr), ({ isSig := false, src := 7, xid := 1, resseq := 1, token := 5, stream := 3, arrived := 0, expires := 1000, prod := 0, kgen := 0, wins := [], sem := 2, cnt := 0 } : XPend), (Instr.xvalExpiry : Instr), ⟨shape_of (by decide +kernel), by decide +kernel,
    by decide +kernel, ⟨_, rfl, by decide +kernel⟩, by decide +kernel⟩, by decide +kernel⟩,
  ⟨no State.reset, ({ port := 3, good := true, lseq := 0x0005#16, ack := 0x0002#16, src := 0x07#6, dst := 0x09#6, bcast := false, hops := 0x04#8, bseq := 0x00000008#32 } : FlitHdr), (0x0005#16 : BitVec 16), ([] : List Byte), ⟨shape_of (by decide +kernel), by decide +kernel,
    by decide +kernel, ⟨_, rfl, by decide +kernel⟩, by decide +kernel⟩, by decide +kernel⟩,
  ⟨(xpN false) State.reset, ({ port := 3, good := true, lseq := 0x0005#16, ack := 0x0002#16, src := 0x07#6, dst := 0x09#6, bcast := false, hops := 0x04#8, bseq := 0x00000008#32 } : FlitHdr), (0x0005#16 : BitVec 16), ([0xff#8] : List Byte), ⟨shape_of (by decide +kernel), by decide +kernel,
    by decide +kernel, ⟨_, rfl, by decide +kernel⟩, by decide +kernel⟩, by decide +kernel⟩,
  ⟨(au 0) State.reset, ({ port := 3, good := true, lseq := 0x0005#16, ack := 0x0002#16, src := 0x07#6, dst := 0x09#6, bcast := false, hops := 0x04#8, bseq := 0x00000008#32 } : FlitHdr), (0x0000000000000001#64 : BitVec 64), (0x0005#16 : BitVec 16), (3 : Fin 64), ({ peer := 7, stream := 3, resseq := 1, chk := 5, site := 0, outcome := 0 } : AudE), ⟨shape_of (by decide +kernel), by decide +kernel,
    by decide +kernel, ⟨_, rfl, by decide +kernel⟩, by decide +kernel⟩, by decide +kernel⟩⟩

/-- Owner keys, endorsements, revocations, slots and rollback counters change only as their checks allow: states that meet the hypotheses of its clauses. -/
theorem test_OwnerKeysAndRollback :
  (∃ (s : State) (k : Fin 4) (b : List Byte), s.Shape ∧ s.Takes 23 ∧ (s.owner k.val).hash = Config.sha384 b ∧ s.hostMay 0 = true ∧ b.length = 2049 ∧
    (s.owner k.val).valid = true ∧ (s.owner k.val).revoked = false) ∧
  (∃ (s : State) (k : Fin 4) (b : List Byte), s.Shape ∧ s.Takes 23 ∧ s.hostMay 0 = true ∧ b.length = 2049 ∧
    s.owner k.val = { hash := 0, valid := false, revoked := false } ∧ s.otp.owners.length = 4 ∧ s.otp.life = 1 ∧ s.on F.GLB_LOCK_LOCKED = false) ∧
  (∃ (s : State) (b : List Byte), s.Shape ∧ s.Takes 23 ∧ s.hostMay 0 = true ∧ b.length ≠ 2049) ∧
  (∃ (s : State) (k : Fin 4) (b : List Byte), s.Shape ∧ s.Takes 23 ∧ s.hostMay 0 = true ∧ b.length = 5568 ∧ le 0 4 b = 827213131 ∧ le 4 1 b = k.val) ∧
  (∃ (s : State) (k : Fin 4) (b : List Byte), s.Shape ∧ s.Takes 23 ∧ s.hostMay 0 = true ∧ b.length = 3520 ∧ le 0 4 b = 827740747 ∧ le 4 1 b = k.val ∧
    le 8 8 b = 0 ∧ s.otp.owners.length = 4) ∧
  (∃ (s : State) (c : BitVec 3) (v : BitVec 8), s.Shape ∧ s.Takes 23 ∧ s.hostMay 0 = true ∧ c.toNat ≤ 4 ∧ s.otp.arb.length = 5 ∧
    s.otp.arb.getD c.toNat 0 < v.toNat ∧ v.toNat ≤ 64 ∧
    (if c.toNat = 0 then v.toNat ≤ s.kcu.bootRoll else ∀ (r : Nat), r ∈ s.loadedUnder (c.toNat - 1) → v.toNat ≤ r)) ∧
  (∃ (s : State) (c : BitVec 3) (v : BitVec 8), s.Shape ∧ s.Takes 23 ∧ s.hostMay 0 = true ∧
    (4 < c.toNat ∨ v.toNat ≤ s.otp.arb.getD c.toNat 0 ∨ 64 < v.toNat)) :=
  ⟨⟨(ow ⟨Config.sha384 kb, true, false⟩) State.reset, (3 : Fin 4), (kb : List Byte), shape_of (by decide +kernel), by unfold State.Takes; decide +kernel, by rfl, by decide +kernel⟩,
  ⟨(ow ⟨0, false, false⟩) State.reset, (3 : Fin 4), (kb : List Byte), shape_of (by decide +kernel), by unfold State.Takes; decide +kernel, by decide +kernel⟩,
  ⟨(ow ⟨0, false, false⟩) State.reset, ([1, 2] : List Byte), shape_of (by decide +kernel), by unfold State.Takes; decide +kernel, by decide +kernel⟩,
  ⟨(ow ⟨0, false, false⟩) State.reset, (3 : Fin 4), (eb 7 : List Byte), shape_of (by decide +kernel), by unfold State.Takes; decide +kernel, by decide +kernel⟩,
  ⟨(ow ⟨0, false, false⟩) State.reset, (3 : Fin 4), (rb 2 : List Byte), shape_of (by decide +kernel), by unfold State.Takes; decide +kernel, by decide +kernel⟩,
  ⟨(fun (s : State) => {ow ⟨0, false, false⟩ s with kcu := {s.kcu with bootRoll := 60}}) State.reset, (0x3#3 : BitVec 3), (0x1a#8 : BitVec 8), shape_of (by decide +kernel), by unfold State.Takes; decide +kernel, by decide +kernel⟩,
  ⟨(fun (s : State) => {ow ⟨0, false, false⟩ s with kcu := {s.kcu with bootRoll := 60}}) State.reset, (0x3#3 : BitVec 3), (0x44#8 : BitVec 8), shape_of (by decide +kernel), by unfold State.Takes; decide +kernel, by decide +kernel⟩⟩

/-- Sessions shake hands, quotes are signed, verdict keys are read once, and health failures stop the draws: states that meet the hypotheses of its clauses. -/
theorem test_SessionsQuotesAndDraws :
  (∃ (s : State) (n : Fin 8), s.Shape ∧ s.Takes 23 ∧ s.hostMay 0 = true ∧ (s.sessOf n.val).endo.isSome = true ∧ (s.sessOf n.val).st ≠ 1 ∧
    s.noDraws = false) ∧
  (∃ (s : State) (n : Fin 8), s.Shape ∧ s.Takes 23 ∧ s.hostMay 0 = true ∧ (s.sessOf n.val).endo = none) ∧
  (∃ (s : State) (n : Fin 8), s.Shape ∧ s.Takes 23 ∧ s.hostMay 0 = true ∧ (s.sessOf n.val).st = 1 ∧ (s.sessOf n.val).hello ≠ []) ∧
  (∃ (s : State) (n : Fin 8), s.Shape ∧ s.Takes 23 ∧ 2 ≤ (s.sessOf n.val).st) ∧
  (∃ (s : State) (n : Fin 8) (key : Nat) (at_ : Nat) (rest : List (Nat × Nat)), s.Shape ∧ (s.sessOf n.val).st = 2 ∧
    (s.sessOf n.val).next = (key, at_) :: rest ∧ s.kcu.wait = []) ∧
  (∃ (s : State), s.Shape ∧ s.kcu.entFails = []) ∧
  (∃ (s : State), s.Shape ∧ s.kcu.entFails = [s.cyc, s.cyc]) ∧
  (∃ (s : State), s.Shape ∧ s.rd F.KCU_STAT_DRBG = 2) ∧
  (∃ (s : State), s.Shape ∧ 2 ^ 20 ≤ s.kcu.draws) ∧
  (∃ (s : State), s.Shape ∧ s.kcu.draws < 2 ^ 20) :=
  ⟨⟨(fun (s : State) => ws [(F.KCU_STAT_DRBG, 0, 1)] (se {Sess.reset with endo := some enO, st := 2} s)) State.reset, (3 : Fin 8), shape_of (by decide +kernel), by unfold State.Takes; decide +kernel, by decide +kernel⟩,
  ⟨(se {Sess.reset with st := 2, next := [(100,100)]}) State.reset, (3 : Fin 8), shape_of (by decide +kernel), by unfold State.Takes; decide +kernel, by decide +kernel⟩,
  ⟨(se {Sess.reset with endo := some enO, st := 1, prev := 3, hello := [1], helloAt := 7}) State.reset, (3 : Fin 8), shape_of (by decide +kernel), by unfold State.Takes; decide +kernel, by decide +kernel⟩,
  ⟨(se {Sess.reset with st := 2, next := [(100,100)]}) State.reset, (3 : Fin 8), shape_of (by decide +kernel), by unfold State.Takes; decide +kernel, by decide +kernel⟩,
  ⟨(se {Sess.reset with st := 2, next := [(100,100), (1,200)]}) State.reset, (3 : Fin 8), (100 : Nat), (100 : Nat), ([(1, 200)] : List (Nat × Nat)), shape_of (by decide +kernel), by decide +kernel⟩,
  ⟨(se {Sess.reset with st := 2, next := [(100,100)]}) State.reset, shape_of (by decide +kernel), by decide +kernel⟩,
  ⟨(fun (s : State) => {hm s with kcu := {s.kcu with entFails := [s.cyc, s.cyc]}}) State.reset, shape_of (by decide +kernel), by decide +kernel⟩,
  ⟨(fun (s : State) => ws [(F.KCU_STAT_DRBG, 0, 2)] (se {Sess.reset with endo := some enO, st := 1} s)) State.reset, shape_of (by decide +kernel), by decide +kernel⟩,
  ⟨(fun (s : State) => { s with kcu := { s.kcu with draws := 2 ^ 20 } }) State.reset, shape_of (by decide +kernel), by decide +kernel⟩,
  ⟨(se {Sess.reset with st := 2, next := [(100,100)]}) State.reset, shape_of (by decide +kernel), by decide +kernel⟩⟩

/-- Power states change where allowed; the cap, reference, PLL and domain monitors act: states that meet the hypotheses of its clauses. -/
theorem test_PowerAndClocksAreKept :
  (∃ (s : State) (r : BitVec 2), s.Shape ∧ s.Takes 1 ∧ (r.toNat = 1 ∨ r.toNat = 2) ∧ s.pwrOk = true) ∧
  (∃ (s : State) (r : BitVec 2), s.Shape ∧ s.Takes 1 ∧ (r.toNat = 1 ∨ r.toNat = 2) ∧ s.pwrOk = false) ∧
  (∃ (s : State) (r : BitVec 2), s.Shape ∧ s.Takes 1 ∧ r.toNat = 0 ∧ s.rd F.CLK_PWR_STATE ≠ 0 ∧ s.clk.testing = false) ∧
  (∃ (s : State), s.Shape ∧ s.clk.testing = true) ∧
  (∃ (s : State), s.Shape ∧ s.clk.bursts = []) ∧
  (∃ (s : State) (cnt : Nat) (d : Fin 40), s.Shape ∧ s.domRuns d.val = true ∧ 0 < d.val ∧ 1024 * domMhz d.val / 800 = cnt) ∧
  (∃ (s : State) (cnt : Nat) (d : Fin 40), s.Shape ∧ s.domRuns d.val = true ∧ 0 < d.val ∧ 1024 * domMhz d.val / 800 + 2 < cnt ∧ 8 ≤ d.val) ∧
  (∃ (s : State) (cnt : Nat) (d : Fin 40) (e : Fin 4), s.Shape ∧ s.domRuns d.val = true ∧ 0 < d.val ∧ 1024 * domMhz d.val / 800 + 2 < cnt ∧
    d.val = e.val + 2 ∧ s.roleOf e.val ≠ 0 ∧ s.roleOf e.val ≠ 6) ∧
  (∃ (s : State) (d : Fin 40), s.Shape ∧ d.val = 0) :=
  ⟨⟨ok State.reset, (0x2#2 : BitVec 2), shape_of (by decide +kernel), by unfold State.Takes; decide +kernel, by decide +kernel⟩,
  ⟨(ck id) State.reset, (0x2#2 : BitVec 2), shape_of (by decide +kernel), by unfold State.Takes; decide +kernel, by decide +kernel⟩,
  ⟨(fun (s : State) => ws [(F.CLK_PWR_STATE, 0, 1),(F.TE_CTRL_EN, 3, 1), (F.TE_STAT_ROLE, 3, 1)] (ck id s)) State.reset, (0x0#2 : BitVec 2), shape_of (by decide +kernel), by unfold State.Takes; decide +kernel, by decide +kernel⟩,
  ⟨tst State.reset, shape_of (by decide +kernel), by decide +kernel⟩,
  ⟨tst State.reset, shape_of (by decide +kernel), by decide +kernel⟩,
  ⟨btP State.reset, (1536 : Nat), (9 : Fin 40), shape_of (by decide +kernel), by decide +kernel⟩,
  ⟨btP State.reset, (1540 : Nat), (9 : Fin 40), shape_of (by decide +kernel), by decide +kernel⟩,
  ⟨btP State.reset, (26000 : Nat), (5 : Fin 40), (3 : Fin 4), shape_of (by decide +kernel), by decide +kernel⟩,
  ⟨ok State.reset, (0 : Fin 40), shape_of (by decide +kernel), by decide +kernel⟩⟩

/-- Temperatures, thermal factor, maintenance slots and late work act at their times: states that meet the hypotheses of its clauses. -/
theorem test_HeatAndMaintenanceAreTimed :
  (∃ (s : State) (c : Nat), s.Shape ∧ s.clk.hotAt = some c ∧ 1 < s.rd F.CLK_STAT_FTH) ∧
  (∃ (s : State) (c : Nat), s.Shape ∧ s.clk.hotAt = none ∧ s.clk.lowAt = some c ∧ s.rd F.CLK_STAT_FTH < 8) ∧
  (∃ (s : State) (c : Nat), s.Shape ∧ s.clk.coolAt = some c ∧ s.clk.ended = true) ∧
  (∃ (s : State), s.Shape ∧ s.on F.BOOT_STAT_READY = true ∧ s.balls.coreLoss = false) ∧
  (∃ (s : State), s.Shape ∧ s.mna.slots ≠ 0 ∧ s.mna.late = []) ∧
  (∃ (s : State), s.Shape ∧ s.mna.started = true) ∧
  (∃ (s : State), s.Shape ∧ (∀ (y : Nat), y < 4 → s.roleOf y = 1)) :=
  ⟨⟨(ck (fun c => {c with hotAt := some 1536})) State.reset, (1536 : Nat), shape_of (by decide +kernel), by decide +kernel⟩,
  ⟨(fun (s : State) => ws [(F.CLK_STAT_FTH, 0, 4)] (ck (fun c => {c with lowAt := some 20000}) s)) State.reset, (20000 : Nat), shape_of (by decide +kernel), by decide +kernel⟩,
  ⟨(ck (fun c => {c with coolAt := some 20000, ended := true})) State.reset, (20000 : Nat), shape_of (by decide +kernel), by decide +kernel⟩,
  ⟨(fun (s : State) => ws [(F.BOOT_STAT_READY, 0, 1)] {s with balls := Balls.reset}) State.reset, shape_of (by decide +kernel), by decide +kernel⟩,
  ⟨(fun (s : State) => {s with mna := {s.mna with slots := 3, late := []}}) State.reset, shape_of (by decide +kernel), by decide +kernel⟩,
  ⟨(fun (s : State) => {s with mna := {s.mna with started := true, cmpAt := 9}}) State.reset, shape_of (by decide +kernel), by decide +kernel⟩,
  ⟨(fun (s : State) => ws [(F.TE_STAT_ROLE, 0, 1), (F.TE_STAT_ROLE, 1, 1), (F.TE_STAT_ROLE, 2, 1), (F.TE_STAT_ROLE, 3, 1)] s) State.reset, shape_of (by decide +kernel), by decide +kernel⟩⟩

/-- Records take their sequence numbers, losses are recorded, and annotations append and replace: states that meet the hypotheses of its clauses. -/
theorem test_RecorderKeepsAndAnnotates :
  (∃ (s : State) (e : EvRec) (q : List EvRec), s.Shape ∧ s.on F.ERC_RINGCFG_EN = false ∧ s.erc.queue = e :: q ∧ s.erc.lost = 0) ∧
  (∃ (s : State) (e : EvRec) (q : List EvRec), s.Shape ∧ s.on F.ERC_RINGCFG_EN = false ∧ s.erc.queue = e :: q ∧ s.erc.lost ≠ 0 ∧ q.length < 1024) ∧
  (∃ (s : State) (a : Fin 3) (c : Bool), s.Shape ∧ s.on F.ERC_RINGCFG_EN = false ∧ (c = false ∨ a.val ≠ 1)) ∧
  (∃ (s : State) (e : EvRec) (a : Fin 3) (c : Bool), s.Shape ∧ (c = false ∨ a.val ≠ 1) ∧ s.erc.mram = [e] ∧ e.typ = 145 ∧ e.eseq = s.ercIdx a.val) ∧
  (∃ (s : State) (a : Fin 3) (c : Bool), s.Shape ∧ (c = false ∨ a.val ≠ 1) ∧ (∀ (x : EvRec), x ∈ s.erc.mram → x.eseq ≠ s.ercIdx a.val)) ∧
  (∃ (s : State) (i : Instr), s.Shape ∧ i ∈ [Instr.annAppend 1 true, Instr.annReplace 1 true]) :=
  ⟨⟨(er (fun e => {e with queue := [evQ, evQ]})) State.reset, ({ typ := 145, lvl := Level.u, esc := false, src := 19, n := 0, t := 6, page := 3, code := 0, chan := 0, eseq := 4, stream := 255, aux := 0, unit := 0, ref := 0, detail := [], ue := false, lock := 0 } : EvRec), ([{ typ := 145, lvl := Level.u, esc := false, src := 19, n := 0, t := 6, page := 3, code := 0, chan := 0, eseq := 4, stream := 255, aux := 0, unit := 0, ref := 0, detail := [], ue := false, lock := 0 }] : List EvRec), shape_of (by decide +kernel), by decide +kernel⟩,
  ⟨(er (fun e => {e with queue := [evQ, evQ], lost := 3})) State.reset, ({ typ := 145, lvl := Level.u, esc := false, src := 19, n := 0, t := 6, page := 3, code := 0, chan := 0, eseq := 4, stream := 255, aux := 0, unit := 0, ref := 0, detail := [], ue := false, lock := 0 } : EvRec), ([{ typ := 145, lvl := Level.u, esc := false, src := 19, n := 0, t := 6, page := 3, code := 0, chan := 0, eseq := 4, stream := 255, aux := 0, unit := 0, ref := 0, detail := [], ue := false, lock := 0 }] : List EvRec), shape_of (by decide +kernel), by decide +kernel⟩,
  ⟨(er (fun e => {e with queue := [evQ, evQ]})) State.reset, (0 : Fin 3), (true : Bool), shape_of (by decide +kernel), by decide +kernel⟩,
  ⟨(fun (s : State) => (List.range 3).foldl (fun s a => (s.setWord R.ERC_IDX_LO 4 a).setWord R.ERC_IDX_HI 0 a) (er (fun e => {e with mram := [evQ]}) s)) State.reset, ({ typ := 145, lvl := Level.u, esc := false, src := 19, n := 0, t := 6, page := 3, code := 0, chan := 0, eseq := 4, stream := 255, aux := 0, unit := 0, ref := 0, detail := [], ue := false, lock := 0 } : EvRec), (0 : Fin 3), (true : Bool), shape_of (by decide +kernel), by decide +kernel⟩,
  ⟨(er (fun e => {e with queue := [evQ, evQ]})) State.reset, (0 : Fin 3), (true : Bool), shape_of (by decide +kernel), by decide +kernel⟩,
  ⟨(er (fun e => {e with queue := [evQ, evQ]})) State.reset, (Instr.annAppend 1 true : Instr), shape_of (by decide +kernel), by decide +kernel⟩⟩

/-- Service frames and test-port instructions answer, and do nothing where they are not allowed: states that meet the hypotheses of its clauses. -/
theorem test_ServiceAndTestPortsAnswer :
  (∃ (s : State), s.on F.BOOT_STAT_READY = false ∧ s.on F.BOOT_STAT_STUCK = false) ∧
  (∃ (s : State) (nw : BitVec 8), (s.on F.BOOT_STAT_READY = true ∨ s.on F.BOOT_STAT_STUCK = true) ∧ (nw.toNat = 0 ∨ 64 < nw.toNat)) ∧
  (∃ (s : State) (ad : BitVec 24), (s.on F.BOOT_STAT_READY = true ∨ s.on F.BOOT_STAT_STUCK = true) ∧ svcPage (ad.toNat / 65536) = true) ∧
  (∃ (s : State) (op : BitVec 8) (ws : List (BitVec 32)), (s.on F.BOOT_STAT_READY = true ∨ s.on F.BOOT_STAT_STUCK = true) ∧
    (op ≠ 2 ∨ ws = [] ∨ 64 < ws.length)) ∧
  (∃ (s : State) (ad : BitVec 24) (b7 : BitVec 8) (w : BitVec 32) (crc : BitVec 16), (s.on F.BOOT_STAT_READY = true ∨ s.on F.BOOT_STAT_STUCK = true) ∧
    crcOf crc16 (natBe 1 2 ++ natBe 3 ad.toNat ++ natBe 2 65535 ++ natBe 1 1 ++ natBe 1 b7.toNat ++ natLe 4 w.toNat) ≠ crc.toNat) ∧
  (∃ (s : State) (ad : BitVec 24) (b7 : BitVec 8) (w : BitVec 32) (crc : BitVec 16), (s.on F.BOOT_STAT_READY = true ∨ s.on F.BOOT_STAT_STUCK = true) ∧
    crcOf crc16 (natBe 1 2 ++ natBe 3 ad.toNat ++ natBe 2 65535 ++ natBe 1 1 ++ natBe 1 b7.toNat ++ natLe 4 w.toNat) = crc.toNat ∧
    mayWrite 1 (ad.toNat / 4 * 4) = false) ∧
  (∃ (s : State) (ad : BitVec 24) (b7 : BitVec 8) (w : BitVec 32) (crc : BitVec 16), (s.on F.BOOT_STAT_READY = true ∨ s.on F.BOOT_STAT_STUCK = true) ∧
    crcOf crc16 (natBe 1 2 ++ natBe 3 ad.toNat ++ natBe 2 65535 ++ natBe 1 1 ++ natBe 1 b7.toNat ++ natLe 4 w.toNat) = crc.toNat ∧
    mayWrite 1 (ad.toNat / 4 * 4) = true ∧ ad.toNat / 4 * 4 ≠ 1639576) ∧
  (∃ (s : State), s.otp.life ≤ 1) ∧
  (∃ (s : State), 1 < s.otp.life) ∧
  (∃ (s : State) (b : List Byte) (c : Instr), s.on F.KCU_LIFE_PUFOK = false ∧ c ∈ [Instr.challenge, Instr.token b]) ∧
  (∃ (s : State), s.Shape ∧ s.on F.KCU_LIFE_PUFOK = true ∧ s.on F.KCU_LIFE_DBGOPEN = false) ∧
  (∃ (s : State), s.debugMay false = true) ∧
  (∃ (s : State), s.debugMay false = false) ∧
  (∃ (s : State), s.debugMay true = true) :=
  ⟨⟨(fun (s : State) => ws [(F.BOOT_STAT_READY, 0, 0), (F.BOOT_STAT_STUCK, 0, 0)] s) State.reset, by decide +kernel⟩,
  ⟨(fun (s : State) => ws [(F.BOOT_STAT_READY, 0, 1)] s) State.reset, (0xc3#8 : BitVec 8), by decide +kernel⟩,
  ⟨(fun (s : State) => ws [(F.BOOT_STAT_READY, 0, 1)] s) State.reset, (0x190490#24 : BitVec 24), by decide +kernel⟩,
  ⟨(fun (s : State) => ws [(F.BOOT_STAT_READY, 0, 1)] s) State.reset, (0xc3#8 : BitVec 8), ([0x0007ffff#32] : List (BitVec 32)), by decide +kernel⟩,
  ⟨(fun (s : State) => ws [(F.BOOT_STAT_READY, 0, 1)] s) State.reset, (0x190490#24 : BitVec 24), (0x00#8 : BitVec 8), (0x00000005#32 : BitVec 32), (0x0000#16 : BitVec 16), by decide +kernel⟩,
  ⟨(fun (s : State) => ws [(F.BOOT_STAT_READY, 0, 1)] s) State.reset, (0x050004 : BitVec 24), (0xC3 : BitVec 8), (5 : BitVec 32), (BitVec.ofNat 16 (crcOf crc16 (natBe 1 2 ++ natBe 3 0x50004 ++ natBe 2 0xFFFF ++ natBe 1 1 ++ natBe 1 0xC3 ++ natLe 4 5)) : BitVec 16), by decide +kernel⟩,
  ⟨(fun (s : State) => ws [(F.BOOT_STAT_READY, 0, 1)] s) State.reset, (0x190490#24 : BitVec 24), (0xc3#8 : BitVec 8), (0x00000005#32 : BitVec 32), (0xf921#16 : BitVec 16), by decide +kernel⟩,
  ⟨(fun (s : State) => ws [(F.BOOT_STAT_READY, 0, 1)] s) State.reset, by decide +kernel⟩,
  ⟨(lf 3) State.reset, by decide +kernel⟩,
  ⟨(fun (s : State) => ws [(F.BOOT_STAT_READY, 0, 1)] s) State.reset, ([] : List Byte), (Instr.challenge : Instr), by decide +kernel⟩,
  ⟨(fun (s : State) => ws [(F.KCU_LIFE_PUFOK, 0, 1), (F.KCU_LIFE_DBGOPEN, 0, 0)] (lf 2 s)) State.reset, shape_of (by decide +kernel), by decide +kernel⟩,
  ⟨(fun (s : State) => ws [(F.BOOT_STAT_READY, 0, 1)] s) State.reset, by decide +kernel⟩,
  ⟨(lf 3) State.reset, by decide +kernel⟩,
  ⟨(fun (s : State) => ws [(F.BOOT_STAT_READY, 0, 1)] s) State.reset, by decide +kernel⟩⟩

/-! ### Commands that no board can send -/

/-- Each check of WellFormed refuses a term that breaks it, and passes the same term mended. -/
theorem test_ill_formed_commands_are_refused :
    (Instr.bootStepDone ⟨true, true, true, [], List.replicate 4097 0, 0, 0⟩).check = false ∧
    (Instr.regWrite 2 0 true []).check = false ∧ (Instr.regWrite 4 0 true []).check = true ∧
    (Instr.txnChecksDone [(1, []), (1, [])]).check = false ∧ (Instr.txnChecksDone [(1, []), (2, [])]).check = true ∧
    (Instr.applyIncomplete [3, 3]).check = false ∧ (Instr.applyIncomplete [3, 4]).check = true ∧
    (Instr.faultOccurrence 0 31 0 none 0 0 false).check = false ∧ (Instr.faultOccurrence 0 0 0 none 0 0 false).check = true ∧
    (Instr.tapRingWrite 0 0 [] true).check = false ∧ (Instr.tapRingWrite 0 0xFFFFFF [1, 2] true).check = false ∧
    (Instr.tapRingWrite 0 0xFFFFFF [1] true).check = true ∧
    (Instr.takeoverCopyDone 0 [5, 5] []).check = false ∧ (Instr.takeoverCopyDone 0 [] [7, 7]).check = false ∧
    (Instr.sioTick 0 0 0 0 [(112, 0)]).check = false ∧ (Instr.sioTick 0 0 0 0 [(111, 0)]).check = true ∧
    (Instr.reedXval ⟨0, true, 0, 0, 0, 0, false, 0, 0⟩ 0 0 0 0 0 0 []).check = false ∧
    (Instr.reedXval ⟨0, true, 0, 0, 0, 0, false, 0, 0⟩ 0 0 0 0 0 0 (List.replicate 9 (0, 0))).check = false ∧
    (Instr.tempConversion [(0, 0)]).check = false ∧ (Instr.tempConversion (List.replicate 8 (0, 0))).check = true ∧
    (Instr.mnaSlot [⟨0, 0, 0, 31⟩]).check = false ∧ (Instr.mnaSlot [⟨0, 0, 0, 0⟩]).check = true ∧
    (Instr.svcWrite 2 0 0 0 (List.replicate 256 0) 0 false).check = false := by decide +kernel

/-! ### Values that the spec gives -/

def digits : List Byte := [0x31, 0x32, 0x33, 0x34, 0x35, 0x36, 0x37, 0x38, 0x39]

/-- The check value of the trace CRC (the table of R137, 04_trace_ingress.md). -/
theorem test_trace_crc : crcOf crc32c digits = 0xE3069283 := by decide +kernel

/-- The check values of the four algorithms (R610, 16_time_network_guard.md). -/
theorem test_check_values : (List.range 4).map (fun a => crcOf (crcAlgs a) digits) =
    [0xE3069283, 0xCBF43926, 0x29B1, 0x6C40DF5F0B497347] := by decide +kernel

/-- Twice the largest finite value of the formats INT4 to FP8 E5M2 and FP16 (R116, 03_checking_principle.md). -/
theorem test_largest_values : ([0, 1, 2, 3, 4, 5, 6, 7, 9].zip [14, 254, 4294967294, 12, 15, 56, 896, 114688, 131008]).all (fun (c, v) =>
    ((fmtMax c false).mul ⟨2, 0⟩).eq ⟨v, 0⟩) = true := by decide +kernel

/-- GLB_DEVID reads PART 0x0640 and FAMILY 1 (R81, 02_control_model.md). -/
theorem test_devid : (State.reset.word R.GLB_DEVID) % 2 ^ 24 = 0x010640 := by decide +kernel

/-! ### Steps -/

/-- A state with a command in its queue meets every invariant and has a step; so do the reset state, which idles. -/
theorem test_invariants_and_steps :
    (∃ s t : State, s.pending ≠ [] ∧ s.Canon ∧ s.Shape ∧ s.LevelsOk ∧ s.Sized ∧ Steps s t) ∧ ∃ t : State, Steps State.reset t ∧ t.cyc = 1 :=
  ⟨⟨{ State.reset with pending := [.resetRelease] }, _, by decide +kernel, by unfold State.Canon; decide +kernel,
    shape_of (by decide +kernel), by unfold State.LevelsOk; decide +kernel, by unfold State.Sized; decide +kernel, rfl⟩, _, rfl, by decide +kernel⟩

end Sys2Proof.Tests
end

/-! Proofs for the statements of the control model (02_control_model.md). -/

namespace Sys2Proof.Machine

/-! ### What a fault report leaves of the GLB page -/

/-- From `s` to `t` no _FLT bit of the GLB page has cleared and GLB_TXN_ID has kept its value. -/
structure State.KeepsGlb (s t : State) : Prop where
  flags : ∀ n, s.flt ⟨0, n⟩ = true → t.flt ⟨0, n⟩ = true
  txnId : t.rd F.GLB_TXN_ID_ID = s.rd F.GLB_TXN_ID_ID

namespace State.KeepsGlb

variable {s t : State}

theorem refl (s : State) : s.KeepsGlb s := ⟨fun _ h => h, rfl⟩

theorem trans {u : State} (h : s.KeepsGlb t) (h' : t.KeepsGlb u) : s.KeepsGlb u :=
  ⟨fun n hn => h'.flags n (h.flags n hn), h'.txnId.trans h.txnId⟩

/-- An update that leaves the register store. -/
theorem of_regs {u : State} (h : s.KeepsGlb t) (e : u.regs = t.regs) : s.KeepsGlb u := by
  refine h.trans ⟨fun n hn => ?_, ?_⟩
  · simpa only [State.flt, State.word, e] using hn
  · simp only [State.rd, State.word, e]

/-- The same for an update given as a function, which the kernel then compares without computing the state it is applied to. -/
theorem update (h : s.KeepsGlb t) (g : State → State) (hg : ∀ u, (g u).regs = u.regs) : s.KeepsGlb (g t) :=
  h.of_regs (hg t)

theorem ite {c : Prop} [Decidable c] {u : State} (ht : s.KeepsGlb t) (hu : s.KeepsGlb u) :
    s.KeepsGlb (if c then t else u) := by split <;> assumption

theorem setWord_of_key (h : s.KeepsGlb t) {r : Reg} {a b : Nat} (hf : r.key a b ≠ R.HEAD_FLT.base)
    (hi : r.key a b ≠ R.GLB_TXN_ID.base) (v : Nat) : s.KeepsGlb (t.setWord r v a b) := by
  refine h.trans ⟨fun n hn => ?_, rd_setWord_other t (Ne.symm hi) v⟩
  rwa [State.flt, word_setWord_other t (Ne.symm hf)]

/-- Every register listed past GLB_TXN_ID may be written, at any index. -/
theorem setWord (h : s.KeepsGlb t) {r : Reg} (hr : R.GLB_TXN_ID.base < r.base) (v a b : Nat) :
    s.KeepsGlb (t.setWord r v a b) := by
  have hk : r.base ≤ r.key a b := by unfold Reg.key; omega
  have hb : R.HEAD_FLT.base < R.GLB_TXN_ID.base := by decide
  exact h.setWord_of_key (by omega) (by omega) v

theorem wr (h : s.KeepsGlb t) {f : Fld} (hr : R.GLB_TXN_ID.base < f.reg.base) (v a b : Nat) :
    s.KeepsGlb (t.wr f v a b) := h.setWord hr _ a b

theorem upto {f : Nat → State → State} (h : s.KeepsGlb t) (hf : ∀ i (u : State), u.KeepsGlb (f i u)) (n : Nat) :
    s.KeepsGlb (t.upto f n) := by
  unfold State.upto
  induction List.range n generalizing t with
  | nil => exact h
  | cons i l ih => exact ih (h.trans (hf i t))

theorem when {c : Bool} {f : State → State} (h : s.KeepsGlb t) (hf : ∀ u : State, u.KeepsGlb (f u)) :
    s.KeepsGlb (t.when c f) := by
  unfold State.when; split
  · exact h.trans (hf t)
  · exact h

theorem add64 (h : s.KeepsGlb t) {lo hi : Reg} (h0 : R.GLB_TXN_ID.base < lo.base)
    (h1 : R.GLB_TXN_ID.base < hi.base) (n a b : Nat) : s.KeepsGlb (t.add64 lo hi n a b) :=
  (h.setWord h0 _ a b).setWord h1 _ a b

theorem wrTime (h : s.KeepsGlb t) {ns lo hi : Reg} (h0 : R.GLB_TXN_ID.base < ns.base)
    (h1 : R.GLB_TXN_ID.base < lo.base) (h2 : R.GLB_TXN_ID.base < hi.base) (v a b : Nat) :
    s.KeepsGlb (t.wrTime ns lo hi v a b) := ((h.setWord h0 _ a b).setWord h1 _ a b).setWord h2 _ a b

end State.KeepsGlb

theorem bit_eq_testBit (n v : Nat) : bit n v = v.testBit n := by
  rw [Nat.testBit_eq_decide_div_mod_eq]
  rfl

/-- A _FLT bit that reads 1 is one of the register's 32. -/
theorem num_lt_of_flt {s : State} {x : Src} (h : s.flt x = true) : x.num < 32 := by
  refine Nat.lt_of_not_le fun hx => Bool.false_ne_true ?_
  rw [State.flt, bit_eq_testBit] at h
  rw [← h]
  exact (Nat.testBit_lt_two_pow (Nat.lt_of_lt_of_le (word_lt s _ _ _) (Nat.pow_le_pow_right (by decide) hx))).symm

/-- Setting a source's bit sets no other bit of its page and clears none. -/
theorem flt_setFlt_page (s : State) (x : Src) {n : Nat} (hn : n < 32) :
    (s.setFlt x true).flt ⟨x.page, n⟩ = (decide (n = x.num) || s.flt ⟨x.page, n⟩) := by
  simp only [State.flt, State.setFlt, bit_eq_testBit]
  rw [word_setWord_same, Nat.testBit_mod_two_pow, setBits_testBit (Nat.le_refl _)]
  by_cases e : n = x.num
  · subst e; simp [b2n, hn]
  · rw [if_neg (by omega)]; simp [e, hn]

theorem flt_setFlt_same (s : State) {x : Src} (hx : x.num < 32) : (s.setFlt x true).flt x = true := by
  simpa using flt_setFlt_page s x hx

namespace State.KeepsGlb

variable {s t : State}

/-- Setting a _FLT bit, of the GLB page or of another. -/
theorem setFlt (h : s.KeepsGlb t) (x : Src) : s.KeepsGlb (t.setFlt x true) := by
  refine h.trans ⟨fun n hn => ?_, ?_⟩
  · by_cases hp : x.page = 0
    · have := flt_setFlt_page t x (num_lt_of_flt hn)
      rw [hp] at this
      rw [this, hn, Bool.or_true]
    · have hk : R.HEAD_FLT.key 0 0 ≠ R.HEAD_FLT.key x.page 0 := by
        simp only [Reg.key, R.HEAD_FLT]; omega
      rwa [State.flt, State.setFlt, word_setWord_other t hk]
  · have hk : F.GLB_TXN_ID_ID.reg.key 0 0 ≠ R.HEAD_FLT.key x.page 0 := by
      simp only [Reg.key, F.GLB_TXN_ID_ID, R.GLB_TXN_ID, R.HEAD_FLT]; omega
    exact rd_setWord_other t hk _

theorem setLevel (h : s.KeepsGlb t) (x : Src) (l : Level) : s.KeepsGlb (t.setLevel x l) := by
  unfold State.setLevel; split <;> exact h.setWord (by decide) _ _ _

theorem queueRec (h : s.KeepsGlb t) (e : EvRec) : s.KeepsGlb (t.queueRec e).1 := by
  unfold State.queueRec
  split
  · exact h.of_regs rfl
  · have hd : s.KeepsGlb (t.inc F.ERC_DROP_N) := h.wr (by decide) _ _ _
    dsimp only
    split <;> exact hd.of_regs rfl

theorem putRec (h : s.KeepsGlb t) (e : EvRec) : s.KeepsGlb (t.putRec e).1 := by
  unfold State.putRec
  exact queueRec (h.of_regs (by rfl)) e

theorem msix (h : s.KeepsGlb t) (pf vec : Nat) : s.KeepsGlb (t.msix pf vec) := by
  unfold State.msix
  split
  · exact h
  · split
    · exact h
    · split <;> exact h.of_regs rfl

theorem recordOcc (h : s.KeepsGlb t) (r : Report) (l : Level) (esc : Bool) : s.KeepsGlb (t.recordOcc r l esc).1 := by
  unfold State.recordOcc
  extract_lets x w last timed counted first noted told
  have htimed : s.KeepsGlb timed :=
    (h.setWord (by decide) _ _ _).wrTime (by decide) (by decide) (by decide) _ _ _
  have hcounted : s.KeepsGlb counted := (htimed.wr (by decide) _ _ _).when fun u => (refl u).wr (by decide) _ _ _
  have hnoted : s.KeepsGlb noted := hcounted.when fun u => (((refl u).setWord (by decide) _ _ _).wrTime
    (by decide) (by decide) (by decide) _ _ _).of_regs rfl
  have htold : s.KeepsGlb told := hnoted.when fun u => (refl u).msix _ _
  exact htold.putRec _

/-- An occurrence sets its own bit and, whatever its level, clears none. -/
theorem occur {r : Report} (h : s.KeepsGlb (t.setFlt r.src true)) : s.KeepsGlb (t.occur r).1 := by
  unfold State.occur
  split
  · exact h
  · extract_lets l esc lvl
    have hlvl : s.KeepsGlb (lvl.noteNow r.src) := (h.setLevel r.src l).of_regs rfl
    have hrec := hlvl.recordOcc r l esc
    generalize (lvl.noteNow r.src).recordOcc r l esc = p at hrec
    obtain ⟨u, lost⟩ := p
    dsimp only at hrec ⊢
    split
    · exact ite (hrec.of_regs rfl) hrec
    · exact hrec

theorem txnDescs (h : s.KeepsGlb t) (res : Nat) : s.KeepsGlb (t.txnDescs res) := by
  unfold State.txnDescs
  extract_lets pld
  have hpld : s.KeepsGlb pld := h.upto (fun _ u => (refl u).when fun u => (refl u).setWord (by decide) _ _ _) 4
  exact hpld.upto (fun _ u => (refl u).when fun u => (refl u).setWord (by decide) _ _ _) 2

theorem wr_txnStat (h : s.KeepsGlb t) {f : Fld} (hf : f.reg = R.GLB_TXN_STAT) (v : Nat) : s.KeepsGlb (t.wr f v) :=
  h.setWord_of_key (by rw [hf]; decide) (by rw [hf]; decide) _

theorem wr_lock (h : s.KeepsGlb t) {f : Fld} (hf : f.reg = R.GLB_LOCK) (v : Nat) : s.KeepsGlb (t.wr f v) :=
  h.setWord_of_key (by rw [hf]; decide) (by rw [hf]; decide) _

theorem wr_inj (h : s.KeepsGlb t) (p v : Nat) : s.KeepsGlb (t.wr F.HEAD_INJ_ARMED v p) :=
  h.setWord_of_key (by simp only [Reg.key, F.HEAD_INJ_ARMED, R.HEAD_INJ, R.HEAD_FLT]; omega)
    (by simp only [Reg.key, F.HEAD_INJ_ARMED, R.HEAD_INJ, R.GLB_TXN_ID]; omega) _

/-- The end of a transaction leaves its ID. -/
theorem txnEnd (h : s.KeepsGlb t) (last : Nat) : s.KeepsGlb (t.txnEnd last) := by
  unfold State.txnEnd
  extract_lets descs idle locked
  have hdescs : s.KeepsGlb descs := h.txnDescs _
  have hidle : s.KeepsGlb idle :=
    (((hdescs.wr_txnStat rfl _).wr_txnStat rfl _).wr_txnStat rfl _).wr_txnStat rfl _
  have hlocked : s.KeepsGlb locked := hidle.when fun u => ((refl u).wr_lock rfl _).wr_lock rfl _
  exact hlocked.update (fun u => { u with txn := Txn.reset, before := none }) fun _ => rfl

theorem forceOutputs (h : s.KeepsGlb t) : s.KeepsGlb t.forceOutputs := by
  have fall (f g : Fld) (hf : R.GLB_TXN_ID.base < f.reg.base) (n : Nat) (u : State) :
      u.KeepsGlb (u.when (u.on g n) fun u => u.wr f 0 n) := (refl u).when fun u => (refl u).wr hf _ _ _
  unfold State.forceOutputs
  extract_lets outs stop
  have houts : s.KeepsGlb outs := h.upto (fun n u =>
    KeepsGlb.wr (((fall _ _ (by decide) n u).wr (by decide) _ _ _).trans (fall _ _ (by decide) n _)) (by decide) _ _ _) 24
  have hstop : s.KeepsGlb stop := houts.when fun u => (refl u).of_regs rfl
  exact hstop.wr (by decide) _ _ _

theorem acbLedger (h : s.KeepsGlb t) (outcome cause : Nat) : s.KeepsGlb (t.acbLedger outcome cause).1 := by
  unfold State.acbLedger
  exact putRec (h.of_regs (by rfl)) _

theorem acbAbort (h : s.KeepsGlb t) (outcome : Nat) : s.KeepsGlb (t.acbAbort outcome).1 := by
  unfold State.acbAbort
  split
  · exact h
  · extract_lets ended lv run seen
    have hrun : s.KeepsGlb run := (h.acbLedger outcome 0).wr (by decide) _ _ _
    have hrba : s.KeepsGlb (run.wr F.ACB_STAT_RBA lv) := hrun.wr (by decide) _ _ _
    have hseen : s.KeepsGlb seen := ite (hrba.wr (by decide) _ _ _) hrun
    exact (hseen.update (fun u => { u with acb := { u.acb with rst := false } }) fun _ => rfl).wr (by decide) _ _ _

/-- The fatal latch forces outputs and drops expected injections, without a write to the GLB page's own registers. -/
theorem latchFatal (h : s.KeepsGlb t) : s.KeepsGlb t.latchFatal.1 := by
  have hforced := (((h.wr (f := F.FCU_STAT_LATCH) (by decide) 1 0 0).wr (f := F.SSC_STAT_SAFE) (by decide) 1 0 0).wr
    (f := F.VDU_STAT_FORCE) (by decide) 1 0 0).forceOutputs
  have hlow := hforced.update
    (fun u => { u with balls := { u.balls with safeN := false, cicada := false }, inj := [] }) fun _ => rfl
  have hdisarmed := (hlow.upto (fun p u => (refl u).wr_inj p 0) 28).wr (f := F.FCU_STAT_NARMED) (by decide) 0 0 0
  have hended := (hdisarmed.wr (f := F.SSC_STAT_RESTART) (by decide) 0 0 0).acbAbort 3
  exact hended.update
    (fun u => { u with ssc := { u.ssc with restartAt := none }, tsn := u.tsn.dropHold u.ns }) fun _ => rfl

theorem faultTxn (h : s.KeepsGlb t) : s.KeepsGlb t.faultTxn.1 := by
  have hlate : s.KeepsGlb (if t.timedOut then (t.txnEnd 3).occur { src := S.GLB_TXN_TIMEOUT }
      else (t.txnEnd (if t.expired then 9 else 11)).occur { src := S.GLB_COMMIT_FAIL }).1 := by
    split <;> exact ((h.txnEnd _).setFlt _).occur
  unfold State.faultTxn
  extract_lets st
  split
  · exact h
  · split
    · exact h.txnEnd 11
    · exact hlate

theorem rput (h : s.KeepsGlb t) (p : Nat) (f : RFlit) : s.KeepsGlb (t.rput p f) := by
  unfold State.rput
  split
  · exact h
  · extract_lets sent counted
    have hsent : s.KeepsGlb sent := h.of_regs rfl
    have hcounted : s.KeepsGlb counted := hsent.add64 (by decide) (by decide) 1 p 0
    exact hcounted.of_regs rfl

theorem rsend (h : s.KeepsGlb t) (p : Nat) (f : RFlit) : s.KeepsGlb (t.rsend p f) := by
  unfold State.rsend
  split
  · exact h
  · split
    · exact h.of_regs rfl
    · split
      · exact h
      · split
        · exact h.rput p f
        · exact h.of_regs rfl

theorem broadcast (h : s.KeepsGlb t) (typ reason attempt : Nat) : s.KeepsGlb (t.broadcast typ reason attempt) := by
  unfold State.broadcast
  extract_lets f
  exact upto (h.of_regs (by rfl)) (fun p u => (refl u).rsend p f) 4

theorem fatalEffects (h : s.KeepsGlb t) : s.KeepsGlb t.fatalEffects.1 := by
  have hended : s.KeepsGlb t.latchFatal.1.faultTxn.1 := h.latchFatal.faultTxn
  exact ite hended (hended.broadcast 0x22 2 0)

/-- The full reaction to a genuine report, up to the fatal one and the fault of a lost record: past the setting of the
source's own bit it clears none. -/
theorem genuine {r : Report} (h : s.KeepsGlb (t.setFlt r.src true)) : s.KeepsGlb (t.genuine r) := by
  have hocc : s.KeepsGlb (t.occur r).1 := h.occur
  unfold State.genuine
  generalize t.occur r = o at hocc
  obtain ⟨occ, f, lost⟩ := o
  have hfatal : s.KeepsGlb (if f then occ.fatalEffects else (occ, false)).1 := by
    split
    · exact hocc.fatalEffects
    · exact hocc
  dsimp only
  generalize (if f then occ.fatalEffects else (occ, false)) = e at hfatal
  obtain ⟨fatal, lost2⟩ := e
  have hdrop : s.KeepsGlb (fatal.occur { src := S.ERC_REC_DROP }).1 := (hfatal.setFlt _).occur
  dsimp only
  generalize fatal.occur { src := S.ERC_REC_DROP } = d at hdrop
  obtain ⟨drop, g, lost3⟩ := d
  exact ite (ite hdrop.fatalEffects hdrop) hfatal

end State.KeepsGlb

/-- A source of the GLB page that is raised shows its _FLT bit, at whatever level. -/
theorem flt_raise_glb (s : State) {n : Nat} (hn : n < 32) (chan : Nat) : (s.raise ⟨0, n⟩ chan).flt ⟨0, n⟩ = true :=
  (State.KeepsGlb.genuine (State.KeepsGlb.refl _)).flags n (flt_setFlt_same s hn)

/-- A fault raised leaves GLB_TXN_ID. -/
theorem keepsGlb_raise (s : State) (x : Src) (chan : Nat) : s.KeepsGlb (s.raise x chan) :=
  State.KeepsGlb.genuine ((State.KeepsGlb.refl s).setFlt x)

/-! ### BEGIN -/

theorem look_wr_other (s : State) {f : Fld} {a b k : Nat} (h : k ≠ f.reg.key a b) (v : Nat) :
    Store.look (s.wr f v a b).regs k = Store.look s.regs k := by
  simp [State.wr, State.setWord, h]

/-- The state that an accepted BEGIN leaves, short of the count of the ID. -/
def State.opened (s : State) : State :=
  ((({ s with txn := { Txn.reset with openAt := s.cyc, timeoutMs := s.rd F.GLB_TXN_TIMEOUT_MS } } : State).wr
    F.GLB_TXN_STAT_STATE 1).wr F.GLB_TXN_STAT_NSTG 0).wr F.GLB_TXN_STAT_OVF 0

theorem opTxnBegin_idle {s : State} (h : s.rd F.GLB_TXN_STAT_STATE = 0) :
    opTxnBegin s = s.opened.wr F.GLB_TXN_ID_ID (s.opened.rd F.GLB_TXN_ID_ID + 1) := by
  unfold opTxnBegin
  rw [if_neg (by rw [State.txnSt, h]; decide)]
  rfl

theorem opTxnBegin_busy {s : State} (h : s.rd F.GLB_TXN_STAT_STATE ≠ 0) : opTxnBegin s = s.raise S.GLB_TXN_BUSY :=
  if_pos h

theorem opened_state (s : State) : s.opened.rd F.GLB_TXN_STAT_STATE = 1 := by
  unfold State.opened
  rw [rd_wr_beside _ (by decide) (by decide) (by rfl) (by decide), rd_wr_beside _ (by decide) (by decide) (by rfl) (by decide),
    rd_wr_same _ (by decide) (by decide)]
  rfl

theorem opened_nstg (s : State) : s.opened.rd F.GLB_TXN_STAT_NSTG = 0 := by
  unfold State.opened
  rw [rd_wr_beside _ (by decide) (by decide) (by rfl) (by decide), rd_wr_same _ (by decide) (by decide), Nat.zero_mod]

theorem opened_ovf (s : State) : s.opened.rd F.GLB_TXN_STAT_OVF = 0 := by
  unfold State.opened
  rw [rd_wr_same _ (by decide) (by decide), Nat.zero_mod]

theorem opened_last (s : State) : s.opened.rd F.GLB_TXN_STAT_LAST = s.rd F.GLB_TXN_STAT_LAST := by
  unfold State.opened
  rw [rd_wr_beside _ (by decide) (by decide) (by rfl) (by decide), rd_wr_beside _ (by decide) (by decide) (by rfl) (by decide),
    rd_wr_beside _ (by decide) (by decide) (by rfl) (by decide)]
  rfl

theorem look_opened (s : State) {k : Nat} (h : k ≠ R.GLB_TXN_STAT.base) :
    Store.look s.opened.regs k = Store.look s.regs k := by
  unfold State.opened
  rw [look_wr_other _ h, look_wr_other _ h, look_wr_other _ h]

theorem opened_id (s : State) : s.opened.rd F.GLB_TXN_ID_ID = s.rd F.GLB_TXN_ID_ID := by
  have hk : F.GLB_TXN_ID_ID.reg.key 0 0 ≠ R.GLB_TXN_STAT.base := by decide
  simp only [State.rd, State.word, look_opened s hk]

/-- A command of the GLB page acts where its clock domain runs. -/
theorem exec_txnBegin {s : State} (h : s.Takes 0) : exec .txnBegin s = .next (opTxnBegin s) :=
  congrArg Host.Outcome.next (if_neg (by rw [State.Takes] at h; rw [h]; decide))

/-- A field write keeps all of `s` outside the registers and the transaction. -/
theorem wr_rest {s t : State} (h : t = { s with regs := t.regs, txn := t.txn }) (f : Fld) (v : Nat) :
    t.wr f v = { s with regs := (t.wr f v).regs, txn := (t.wr f v).txn } :=
  congrArg (fun u : State => { u with regs := (t.wr f v).regs, txn := t.txn }) h

theorem opened_rest (s : State) : s.opened = { s with regs := s.opened.regs, txn := s.opened.txn } :=
  wr_rest (wr_rest (wr_rest rfl _ _) _ _) _ _

/-- Settles O8: from IDLE the fields of GLB_TXN_STAT and the ID are read off the writes of BEGIN; otherwise TXN_BUSY is
raised, whose reaction, up to the fatal one, clears no _FLT bit and writes no GLB_TXN_ID. -/
theorem beginOpensATransaction : Obligations.BeginOpensATransaction := by
  unfold Obligations.BeginOpensATransaction
  intro s hs
  refine ⟨fun hidle => ⟨_, exec_txnBegin hs, ?_⟩, fun hbusy => ⟨_, exec_txnBegin hs, ?_⟩, by decide, by decide⟩
  · have hstat : R.GLB_TXN_STAT.key 0 0 ≠ R.GLB_TXN_ID.key 0 0 := by decide
    rw [opTxnBegin_idle hidle]
    refine ⟨?_, ?_, ?_, ?_, ?_, rfl, rfl, rfl, wr_rest (opened_rest s) _ _, fun k hk hk' => ?_⟩
    · rw [rd_wr_other _ hstat, opened_state]
    · rw [rd_wr_other _ hstat, opened_nstg]
    · rw [rd_wr_other _ hstat, opened_ovf]
    · rw [rd_wr_same _ (by decide) (by decide), opened_id]; rfl
    · rw [rd_wr_other _ hstat, opened_last]
    · rw [look_wr_other _ hk', look_opened s hk]
  · rw [opTxnBegin_busy hbusy]
    exact ⟨flt_raise_glb s (by decide) 0, (keepsGlb_raise s S.GLB_TXN_BUSY 0).txnId⟩

/-! ### A suppressed report -/

/-- R71, as far as the report goes: one of a disabled source sets its bit and does nothing more. -/
theorem report_disabled {s : State} {r : Report} (hi : r.inj = false) (he : s.enabled r.src = false) :
    s.report r = s.setFlt r.src true := by
  simp [State.report, State.genuine, State.occur, hi, he]

/-- No unit reacts to a fault of the GLB page. -/
theorem unitReaction_glb (s : State) {o : Occ} (h : o.page = 0) : s.unitReaction o = s := by
  obtain ⟨page, src, chan, stream, unit, ref, inj⟩ := o
  subst h
  rfl

/-- The command of a disabled GLB source sets the bit, but then settles, as the command of an enabled source does. -/
theorem exec_faultOccurrence_disabled {s : State} {n : Fin 32} (hn : n.val < 11) (he : s.enabled ⟨0, n⟩ = false)
    (chan unit : BitVec 16) (ref : BitVec 64) :
    exec (.faultOccurrence 0 n chan none unit ref false) s = .next (s.setFlt ⟨0, n⟩ true).settle := by
  have hsrc : ¬ nsrc 0 ≤ n.val := by rw [show nsrc 0 = 11 from rfl]; omega
  refine congrArg Host.Outcome.next ?_
  simp [opFaultOccurrence, State.mismatch, State.when, Occ.sboCause, hsrc, unitReaction_glb, report_disabled, he]

/-- C-class source 3 of the GLB page is disabled, no result is open, and one XVAL (R666) still waits, for a peer that has
announced DOWN. -/
def waitingXvalState : State :=
  { State.reset.setWord R.HEAD_FLTDIS 8 with
    reed := { Reed.reset with
      down := [1],
      xwait := [{ peer := 1, stream := 0, resseq := 0, xid := 0, token := 0, dst := 0, kgen := 0, wins := [], notDone := false,
                  producers := [] }] } }

/-- Refutes O13: its premises leave room for an XVAL that waits without an open result. The report itself only sets the
_FLT bit (`report_disabled`), but the command then settles, and the XVAL, whose peer is unreachable, is counted in REED_XDROP. -/
theorem not_disabledSourceOnlySetsItsBit : ¬ Obligations.DisabledSourceOnlySetsItsBit := by
  unfold Obligations.DisabledSourceOnlySetsItsBit
  intro h
  have hoff : waitingXvalState.enabled ⟨0, (3 : Fin 32)⟩ = false := by decide +kernel
  obtain ⟨⟨t, ht, -, -, hregs⟩, -⟩ := h waitingXvalState 0 3 0 0 0 rfl (by decide) rfl hoff
  rw [exec_faultOccurrence_disabled (by decide) hoff] at ht
  cases ht
  have hdrop : Store.look (waitingXvalState.setFlt ⟨0, (3 : Fin 32)⟩ true).settle.regs R.REED_XDROP.base = 1 := by
    decide +kernel
  have hzero : Store.look waitingXvalState.regs R.REED_XDROP.base = 0 := by decide +kernel
  have hkept := hregs R.REED_XDROP.base (by decide)
  rw [hdrop, hzero] at hkept
  exact absurd hkept (by decide)

end Sys2Proof.Machine

/-! Proofs for the statements of trace ingress (04_trace_ingress.md). -/

namespace Sys2Proof.Machine

/-! ### Keys of the tap ports' pages -/

/-- A register of the pages of the two tap ports, HEAD_INJ apart, whose ARMED the fatal latch clears (R551). -/
abbrev tapKey (k : Nat) : Prop := 0x60000 ≤ k ∧ k < 0x80000 ∧ k % 0x10000 ≠ 0x20

/-- A register of another page, whatever its indices. -/
abbrev Reg.offTaps (r : Reg) : Prop :=
  0x80000 ≤ r.base ∨ r.base < 0x60000 ∧ (r.sa = 0 ∨ r.sa = chanStep) ∧ r.sb = 0

theorem not_tapKey_of_offTaps {r : Reg} (h : r.offTaps) (a b : Nat) : ¬ tapKey (r.key a b) := by
  unfold tapKey Reg.key
  obtain h | ⟨hb, ha, h0⟩ := h
  · omega
  · rcases ha with ha | ha <;> rw [ha, h0]
    · omega
    · unfold chanStep; omega

theorem tapKey_key {r : Reg} (h : 0x60000 ≤ r.base ∧ r.base < 0x70000 ∧ r.base % 0x10000 ≠ 0x20 ∧ r.sa = 0x10000)
    {p : Nat} (hp : p < 2) : tapKey (r.key p 0) := by
  obtain ⟨hlo, hhi, hinj, hsa⟩ := h
  unfold tapKey Reg.key
  rw [hsa]
  omega

/-- Every copy of a register has the same place within its page. -/
abbrev Reg.paged (r : Reg) : Prop := r.sa % 0x10000 = 0 ∧ r.sb % 0x10000 = 0

/-- Registers have different places within a page. -/
abbrev Reg.apart (r r' : Reg) : Prop := r.base % 0x10000 ≠ r'.base % 0x10000

theorem key_mod_of_paged {r : Reg} (h : r.paged) (a b : Nat) : r.key a b % 0x10000 = r.base % 0x10000 := by
  simp [Reg.key, Nat.add_mod, Nat.mul_mod, h.1, h.2]

/-- Registers whose places within a page differ have different keys, on whatever pages. -/
theorem key_ne_key {r r' : Reg} (hr : r.paged) (hr' : r'.paged) (h : r.apart r') (a b a' b' : Nat) :
    r.key a b ≠ r'.key a' b' :=
  fun he => h (by rw [← key_mod_of_paged hr a b, he, key_mod_of_paged hr'])

/-! ### What a fault report leaves of the ports -/

/-- `s` with the parts taken from `t` that the reaction to a fault which names no stream may change: the registers, what leaves, the
transaction, expected injections and the blocks that the fatal latch forces (R533). -/
def State.withReaction (s t : State) : State :=
  { s with regs := t.regs, out := t.out, txn := t.txn, before := t.before, inj := t.inj, ssc := t.ssc, acb := t.acb,
           erc := t.erc, host := t.host, balls := t.balls, reed := t.reed, sio := t.sio, tsn := t.tsn }

/-- From `s` to `t` a fault report has had its reaction, past the setting of a port's own _FLT bit. -/
structure State.Reacted (s t : State) : Prop where
  keys : ∀ k, tapKey k → Store.look t.regs k = Store.look s.regs k
  rest : t = s.withReaction t
  outs : s.out ⊆ t.out

namespace State.Reacted

variable {s t : State}

theorem refl (s : State) : s.Reacted s := ⟨fun _ _ => rfl, rfl, fun _ h => h⟩

theorem trans {u : State} (h : s.Reacted t) (h' : t.Reacted u) : s.Reacted u where
  keys k hk := (h'.keys k hk).trans (h.keys k hk)
  rest := calc
    u = t.withReaction u := h'.rest
    _ = (s.withReaction t).withReaction u := congrArg (·.withReaction u) h.rest
  outs := List.Subset.trans h.outs h'.outs

/-- An update of parts that a reaction may change, short of the registers. -/
theorem update (h : s.Reacted t) (g : State → State) (hr : ∀ u, (g u).regs = u.regs := by intro; rfl)
    (hg : ∀ u, g u = u.withReaction (g u) := by intro; rfl) (ho : ∀ u, u.out ⊆ (g u).out := by exact fun _ _ ho => ho) :
    s.Reacted (g t) :=
  h.trans ⟨fun _ _ => by rw [hr], hg t, ho t⟩

theorem ite {c : Prop} [Decidable c] {u : State} (ht : s.Reacted t) (hu : s.Reacted u) :
    s.Reacted (if c then t else u) := by split <;> assumption

theorem setWord_of_key (h : s.Reacted t) {r : Reg} {a b : Nat} (hk : ¬ tapKey (r.key a b)) (v : Nat) :
    s.Reacted (t.setWord r v a b) := by
  refine h.trans ⟨fun k hk' => ?_, rfl, fun _ ho => ho⟩
  have hne : k ≠ r.key a b := fun e => hk (e ▸ hk')
  simp [State.setWord, hne]

theorem setWord (h : s.Reacted t) {r : Reg} (hr : r.offTaps) (v a b : Nat) : s.Reacted (t.setWord r v a b) :=
  h.setWord_of_key (not_tapKey_of_offTaps hr a b) v

theorem wr (h : s.Reacted t) {f : Fld} (hr : f.reg.offTaps) (v a b : Nat) : s.Reacted (t.wr f v a b) :=
  h.setWord hr _ a b

theorem wr_inj (h : s.Reacted t) (p v : Nat) : s.Reacted (t.wr F.HEAD_INJ_ARMED v p) :=
  h.setWord_of_key (by simp only [tapKey, Reg.key, F.HEAD_INJ_ARMED, R.HEAD_INJ]; omega) _

theorem upto {f : Nat → State → State} (h : s.Reacted t) (hf : ∀ i (u : State), u.Reacted (f i u)) (n : Nat) :
    s.Reacted (t.upto f n) := by
  unfold State.upto
  induction List.range n generalizing t with
  | nil => exact h
  | cons i l ih => exact ih (h.trans (hf i t))

theorem when {c : Bool} {f : State → State} (h : s.Reacted t) (hf : ∀ u : State, u.Reacted (f u)) :
    s.Reacted (t.when c f) := by
  unfold State.when; split
  · exact h.trans (hf t)
  · exact h

theorem wrTime (h : s.Reacted t) {ns lo hi : Reg} (h0 : ns.offTaps) (h1 : lo.offTaps) (h2 : hi.offTaps) (v a b : Nat) :
    s.Reacted (t.wrTime ns lo hi v a b) := ((h.setWord h0 _ a b).setWord h1 _ a b).setWord h2 _ a b

theorem setLevel (h : s.Reacted t) (x : Src) (l : Level) : s.Reacted (t.setLevel x l) := by
  unfold State.setLevel; split <;> exact h.setWord (by decide) _ _ _

theorem queueRec (h : s.Reacted t) (e : EvRec) : s.Reacted (t.queueRec e).1 := by
  have store (u : State) (hu : s.Reacted u) (q : List EvRec) :
      s.Reacted { u with erc := { u.erc with queue := q } } :=
    hu.update fun u => { u with erc := { u.erc with queue := q } }
  unfold State.queueRec
  split
  · exact store t h _
  · have hdrop : s.Reacted (t.inc F.ERC_DROP_N) := h.wr (by decide) _ _ _
    generalize t.inc F.ERC_DROP_N = dropped at hdrop ⊢
    have hlost := hdrop.update (fun u => { u with erc := { u.erc with lost := u.erc.lost + 1 } })
    dsimp only at hlost ⊢
    split
    · exact store _ hlost _
    · exact hlost

theorem putRec (h : s.Reacted t) (e : EvRec) : s.Reacted (t.putRec e).1 :=
  queueRec (h.update (fun u => { u with erc := { u.erc with count := u.erc.count + 1 } })) e

theorem emit (h : s.Reacted t) (o : Out) : s.Reacted (t.emit o) :=
  h.update (fun u => u.emit o) (ho := fun u => List.subset_cons_self o u.out)

theorem msix (h : s.Reacted t) (pf vec : Nat) : s.Reacted (t.msix pf vec) := by
  unfold State.msix
  split
  · exact h
  · split
    · exact h
    · split
      · extract_lets vs
        exact h.update (fun u => { u with host := { u.host with vectors := vs } })
      · exact h.emit _

theorem recordOcc (h : s.Reacted t) (r : Report) (l : Level) (esc : Bool) : s.Reacted (t.recordOcc r l esc).1 := by
  unfold State.recordOcc
  extract_lets x w last timed counted first noted told
  have htimed : s.Reacted timed :=
    (h.setWord (by decide) _ _ _).wrTime (by decide) (by decide) (by decide) _ _ _
  have hcounted : s.Reacted counted := (htimed.wr (by decide) _ _ _).when fun u => (refl u).wr (by decide) _ _ _
  have hnoted : s.Reacted noted := hcounted.when fun u => (((refl u).setWord (by decide) _ _ _).wrTime
    (by decide) (by decide) (by decide) _ _ _).update
    (fun v => { v with ssc := { v.ssc with firstFAt := some v.cyc } })
  have htold : s.Reacted told := hnoted.when fun u => (refl u).msix _ _
  exact htold.putRec _

/-- An occurrence that names no stream and comes from no joint marks no result. -/
theorem occur {r : Report} (hs : r.stream = none) (hp : r.src.page ≠ 17) (h : s.Reacted (t.setFlt r.src true)) :
    s.Reacted (t.occur r).1 := by
  unfold State.occur
  split
  · exact h
  · extract_lets l esc lvl
    have hnow : s.Reacted (lvl.noteNow r.src) := (h.setLevel r.src l).update (fun u => u.noteNow r.src)
    have hrec := hnow.recordOcc r l esc
    generalize (lvl.noteNow r.src).recordOcc r l esc = q at hrec
    obtain ⟨u, lost⟩ := q
    have hnone : u.affected r = none := by simp [State.affected, hs, hp]
    dsimp only at hrec ⊢
    rw [hnone]
    cases l <;> exact hrec

/-- A _FLT bit of a page that is no tap port's. -/
theorem setFlt (h : s.Reacted t) {x : Src} (hx : ¬ tapKey (R.HEAD_FLT.key x.page 0)) : s.Reacted (t.setFlt x true) :=
  h.setWord_of_key hx _

theorem txnDescs (h : s.Reacted t) (res : Nat) : s.Reacted (t.txnDescs res) := by
  unfold State.txnDescs
  extract_lets pld
  have hpld : s.Reacted pld := h.upto (fun _ u => (refl u).when fun u => (refl u).setWord (by decide) _ _ _) 4
  exact hpld.upto (fun _ u => (refl u).when fun u => (refl u).setWord (by decide) _ _ _) 2

theorem txnEnd (h : s.Reacted t) (last : Nat) : s.Reacted (t.txnEnd last) := by
  unfold State.txnEnd
  extract_lets descs idle locked
  have hidle : s.Reacted idle := ((((h.txnDescs _).wr (by decide) _ _ _).wr (by decide) _ _ _).wr (by decide) _ _ _).wr
    (by decide) _ _ _
  have hlocked : s.Reacted locked := hidle.when fun u => ((refl u).wr (by decide) _ _ _).wr (by decide) _ _ _
  exact hlocked.update (fun u => { u with txn := Txn.reset, before := none })

theorem forceOutputs (h : s.Reacted t) : s.Reacted t.forceOutputs := by
  have fall (f g : Fld) (hf : f.reg.offTaps) (n : Nat) (u : State) :
      u.Reacted (u.when (u.on g n) fun u => u.wr f 0 n) := (refl u).when fun u => (refl u).wr hf _ _ _
  unfold State.forceOutputs
  extract_lets outs stop
  have houts : s.Reacted outs := h.upto (fun n u =>
    Reacted.wr (((fall _ _ (by decide) n u).wr (by decide) _ _ _).trans (fall _ _ (by decide) n _)) (by decide) _ _ _) 24
  have hstop : s.Reacted stop := houts.when fun u => (refl u).update
    (fun u => { u with sio := { u.sio with bt := { u.sio.bt with stop := some (7, false) } } })
  exact hstop.wr (by decide) _ _ _

theorem acbLedger (h : s.Reacted t) (outcome cause : Nat) : s.Reacted (t.acbLedger outcome cause).1 := by
  unfold State.acbLedger
  extract_lets e acb entered r
  have hentered : s.Reacted entered := h.update
    (fun u => { u with acb := { u.acb with ledger := (e :: u.acb.ledger).take 8 } })
  exact hentered.putRec _

theorem acbAbort (h : s.Reacted t) (outcome : Nat) : s.Reacted (t.acbAbort outcome).1 := by
  unfold State.acbAbort
  split
  · exact h
  · extract_lets ended lv run seen
    have hrun : s.Reacted run := (h.acbLedger outcome 0).wr (by decide) _ _ _
    have hseen : s.Reacted seen := ite ((hrun.wr (by decide) _ _ _).wr (by decide) _ _ _) hrun
    exact (hseen.update (fun u => { u with acb := { u.acb with rst := false } })).wr (by decide) _ _ _

theorem latchFatal (h : s.Reacted t) : s.Reacted t.latchFatal.1 := by
  have hforced := (((h.wr (f := F.FCU_STAT_LATCH) (by decide) 1 0 0).wr (f := F.SSC_STAT_SAFE) (by decide) 1 0 0).wr
    (f := F.VDU_STAT_FORCE) (by decide) 1 0 0).forceOutputs
  have hlow := hforced.update (fun u => { u with balls := { u.balls with safeN := false, cicada := false }, inj := [] })
  have hdisarmed := (hlow.upto (fun p u => (refl u).wr_inj p 0) 28).wr (f := F.FCU_STAT_NARMED) (by decide) 0 0 0
  have hended := (hdisarmed.wr (f := F.SSC_STAT_RESTART) (by decide) 0 0 0).acbAbort 3
  exact hended.update (fun u => { u with ssc := { u.ssc with restartAt := none }, tsn := u.tsn.dropHold u.ns })

/-- An occurrence of a page that is no tap port's. -/
theorem occur_elsewhere {r : Report} (h : s.Reacted t) (hs : r.stream = none) (hp : r.src.page ≠ 17)
    (hk : ¬ tapKey (R.HEAD_FLT.key r.src.page 0)) : s.Reacted (t.occur r).1 :=
  (h.setFlt hk).occur hs hp

theorem faultTxn (h : s.Reacted t) : s.Reacted t.faultTxn.1 := by
  have hlate : s.Reacted (if t.timedOut then (t.txnEnd 3).occur { src := S.GLB_TXN_TIMEOUT }
      else (t.txnEnd (if t.expired then 9 else 11)).occur { src := S.GLB_COMMIT_FAIL }).1 := by
    split <;> exact (h.txnEnd _).occur_elsewhere rfl (by decide) (by decide)
  unfold State.faultTxn
  extract_lets st
  split
  · exact h
  · split
    · exact h.txnEnd 11
    · exact hlate

theorem rport (h : s.Reacted t) (p : Nat) (f : RPort → RPort) : s.Reacted (t.rport p f) :=
  h.update (fun u => u.rport p f)

theorem rput (h : s.Reacted t) (p : Nat) (f : RFlit) : s.Reacted (t.rput p f) := by
  unfold State.rput
  split
  · exact h
  · exact (((h.emit _).setWord (by decide) _ _ _).setWord (by decide) _ _ _).rport _ _

theorem rsend (h : s.Reacted t) (p : Nat) (f : RFlit) : s.Reacted (t.rsend p f) := by
  unfold State.rsend
  split
  · exact h
  · split
    · exact h.rport _ _
    · split
      · exact h
      · split
        · exact h.rput p f
        · exact h.rport _ _

theorem broadcast (h : s.Reacted t) (typ reason attempt : Nat) : s.Reacted (t.broadcast typ reason attempt) :=
  upto (h.update (fun u => { u with reed := { u.reed with bseq := (u.reed.bseq + 1) % 2 ^ 32 } })) (fun p u => (refl u).rsend p _) 4

theorem fatalEffects (h : s.Reacted t) : s.Reacted t.fatalEffects.1 := by
  have hended : s.Reacted t.latchFatal.1.faultTxn.1 := h.latchFatal.faultTxn
  exact ite hended (hended.broadcast 0x22 2 0)

/-- The full reaction to a genuine report, up to the fatal one and the fault of a lost record. -/
theorem genuine {r : Report} (hs : r.stream = none) (hp : r.src.page ≠ 17) (h : s.Reacted (t.setFlt r.src true)) :
    s.Reacted (t.genuine r) := by
  have hocc : s.Reacted (t.occur r).1 := h.occur hs hp
  unfold State.genuine
  generalize t.occur r = o at hocc
  obtain ⟨occ, f, lost⟩ := o
  have hfatal : s.Reacted (if f then occ.fatalEffects else (occ, false)).1 := by
    split
    · exact hocc.fatalEffects
    · exact hocc
  dsimp only
  generalize (if f then occ.fatalEffects else (occ, false)) = e at hfatal
  obtain ⟨fatal, lost2⟩ := e
  have hdrop : s.Reacted (fatal.occur { src := S.ERC_REC_DROP }).1 :=
    hfatal.occur_elsewhere rfl (by decide) (by decide)
  dsimp only
  generalize fatal.occur { src := S.ERC_REC_DROP } = d at hdrop
  obtain ⟨drop, g, lost3⟩ := d
  exact ite (ite hdrop.fatalEffects hdrop) hfatal

end State.Reacted

/-- A source that is raised, short of a joint's, sets its _FLT bit and has the reaction to a fault. -/
theorem reacted_raise (s : State) {x : Src} (hx : x.page ≠ 17) (chan : Nat) : (s.setFlt x true).Reacted (s.raise x chan) :=
  State.Reacted.genuine rfl hx (State.Reacted.refl _)

/-! ### A fault of a tap port -/

theorem reacted_raise_tap (s : State) {p : Nat} (hp : p < 2) (n : Nat) :
    (s.setFlt ⟨6 + p, n⟩ true).Reacted (s.raise ⟨6 + p, n⟩) :=
  reacted_raise s (x := ⟨6 + p, n⟩) (show 6 + p ≠ 17 by omega) 0

/-- A fault raised on a port's page shows its bit, whatever its level. -/
theorem flt_raise_tap (s : State) {p n : Nat} (hp : p < 2) (hn : n < 32) : (s.raise ⟨6 + p, n⟩).flt ⟨6 + p, n⟩ = true := by
  have hk : tapKey (R.HEAD_FLT.key (6 + p) 0) := by unfold tapKey Reg.key R.HEAD_FLT; dsimp only; omega
  rw [← flt_setFlt_same (x := ⟨6 + p, n⟩) s hn]
  simp only [State.flt, State.word, (reacted_raise_tap s hp n).keys _ hk]

/-- A fault raised on a port's page leaves every register of the ports' pages past HEAD_FLT and HEAD_INJ. -/
theorem word_raise_tap (s : State) {p q : Nat} (hp : p < 2) (hq : q < 2) (n : Nat) {r : Reg}
    (hr : 0x60000 ≤ r.base ∧ r.base < 0x70000 ∧ r.base % 0x10000 ≠ 0x20 ∧ r.sa = 0x10000) (hf : r.base % 0x10000 ≠ 0x10) :
    (s.raise ⟨6 + p, n⟩).word r q = s.word r q := by
  obtain ⟨-, -, -, hsa⟩ := id hr
  have hne : r.key q 0 ≠ R.HEAD_FLT.key (6 + p) 0 := by
    rw [Reg.key, Reg.key, hsa, R.HEAD_FLT]; dsimp only; omega
  rw [State.word, (reacted_raise_tap s hp n).keys _ (tapKey_key hr hq)]
  exact word_setWord_other s hne _

theorem taps_raise_tap (s : State) {p : Nat} (hp : p < 2) (n : Nat) : (s.raise ⟨6 + p, n⟩).taps = s.taps :=
  (congrArg State.taps (reacted_raise_tap s hp n).rest :)

/-- A fault raised on a port's page changes neither what the port holds nor its cursor nor its state. -/
theorem port_raise_tap (s : State) {p : Nat} (hp : p < 2) (n : Nat) :
    (s.raise ⟨6 + p, n⟩).tap p = s.tap p ∧ (s.raise ⟨6 + p, n⟩).word R.TAP_CURSOR p = s.word R.TAP_CURSOR p ∧
      (s.raise ⟨6 + p, n⟩).rd F.TAP_STAT_PSTATE p = s.rd F.TAP_STAT_PSTATE p :=
  ⟨congrArg (·.getD p TapPort.reset) (taps_raise_tap s hp n), word_raise_tap s hp hp n (by decide) (by decide),
    congrArg (bits _ _) (word_raise_tap s hp hp n (by decide) (by decide))⟩

/-- Settles O17: both accesses only raise RING_RD, whose reaction, up to the fatal one, writes no other register of the port's
page and touches nothing that the port holds. -/
theorem ringAnswersNoRead : Obligations.RingAnswersNoRead := by
  unfold Obligations.RingAnswersNoRead
  intro s p _
  have hp : p.val < 2 := p.isLt
  refine ⟨⟨_, rfl, ?_, flt_raise_tap _ hp (by decide), port_raise_tap (s.emit (.ur p.val)) hp _⟩,
    ⟨_, rfl, flt_raise_tap s hp (by decide), port_raise_tap s hp _⟩⟩
  exact (reacted_raise_tap (s.emit (.ur p.val)) hp _).outs (by simp [State.setFlt])

/-! ### The tap ports -/

theorem getD_updAt_same {α : Type} (f : α → α) (d : α) {i : Nat} {xs : List α} (h : i < xs.length) :
    (updAt f i xs).getD i d = f (xs.getD i d) := by
  induction xs generalizing i with
  | nil => exact absurd h (Nat.not_lt_zero i)
  | cons x xs ih =>
    cases i with
    | zero => rfl
    | succ i => simpa [updAt] using ih (Nat.lt_of_succ_lt_succ h)

theorem getD_updAt_other {α : Type} (f : α → α) (d : α) {i j : Nat} (h : j ≠ i) (xs : List α) :
    (updAt f i xs).getD j d = xs.getD j d := by
  induction xs generalizing i j with
  | nil => simp [updAt]
  | cons x xs ih =>
    cases i with
    | zero => cases j with
      | zero => exact absurd rfl h
      | succ j => rfl
    | succ i => cases j with
      | zero => rfl
      | succ j => simpa [updAt] using ih (i := i) (j := j) fun e => h (congrArg _ e)

/-- What an update of an element keeps of it, it keeps of every element. -/
theorem getD_updAt_part {α β : Type} {f : α → α} (g : α → β) (hg : ∀ x, g (f x) = g x) (d : α) (i j : Nat) (xs : List α) :
    g ((updAt f i xs).getD j d) = g (xs.getD j d) := by
  induction xs generalizing i j with
  | nil => simp [updAt]
  | cons x xs ih =>
    cases i <;> cases j <;> simp only [updAt, List.getD_cons_zero, List.getD_cons_succ, hg, ih]

theorem tap_updTap_same (s : State) (f : TapPort → TapPort) {p : Nat} (h : p < s.taps.length) :
    (s.updTap p f).tap p = f (s.tap p) := getD_updAt_same f _ h

theorem tap_updTap_other (s : State) (f : TapPort → TapPort) {p q : Nat} (h : q ≠ p) : (s.updTap p f).tap q = s.tap q :=
  getD_updAt_other f _ h _

theorem tap_updTap_part {α : Type} (s : State) {f : TapPort → TapPort} (g : TapPort → α) (hg : ∀ x, g (f x) = g x) (p q : Nat) :
    g ((s.updTap p f).tap q) = g (s.tap q) := getD_updAt_part g hg _ p q _

theorem tap_wr (s : State) (f : Fld) (v a b q : Nat) : (s.wr f v a b).tap q = s.tap q := rfl

theorem tap_add64 (s : State) (lo hi : Reg) (n a b q : Nat) : (s.add64 lo hi n a b).tap q = s.tap q := rfl

theorem tap_peak (s : State) (f : Fld) (v a b q : Nat) : (s.peak f v a b).tap q = s.tap q := by
  unfold State.peak; split <;> rfl

/-! ### Backpressure -/

/-- To the backpressure of port `q` the states look alike. -/
structure State.StallsAlike (s t : State) (q : Nat) : Prop where
  recs : (t.tap q).recs = (s.tap q).recs
  buf : (t.tap q).buf = (s.tap q).buf
  whole : (t.tap q).whole = (s.tap q).whole
  pool : t.rd F.TAP_POOL_BYTES q = s.rd F.TAP_POOL_BYTES q
  streams : t.streams = s.streams
  slots : t.slots = s.slots
  ctxs : t.ctxs = s.ctxs
  lqs : t.lqs = s.lqs

theorem State.StallsAlike.backpressure {s t : State} {q : Nat} (h : s.StallsAlike t q) :
    t.backpressure q = s.backpressure q := by
  obtain ⟨hrecs, hbuf, hwhole, hpool, hstreams, hslots, hctxs, hlqs⟩ := h
  have hst (i : Nat) : t.st i = s.st i := by unfold State.st; rw [hstreams]
  have hctx (c : Nat) : t.ctx c = s.ctx c := by unfold State.ctx; rw [hctxs]
  have hlq (c : Nat) : t.lq c = s.lq c := by unfold State.lq; rw [hlqs]
  have hfull : t.poolFull q = s.poolFull q := by unfold State.poolFull; rw [hbuf, hwhole, hpool]
  have hplan (i : Nat) : t.planOf i = s.planOf i := by unfold State.planOf; rw [hst, hctx]
  have hgroups (r : Slot) (k : Nat) : t.readyGroups r k = s.readyGroups r k := by
    unfold State.readyGroups; rw [hctx, hst]
  have hfit (r : Slot) (gs : List GroupD) (k : Nat) : t.groupsFit r gs k = s.groupsFit r gs k := by
    unfold State.groupsFit; simp only [hctx, hlq]
  have hpart (i : Nat) (r : HeldRec) (sl : Slot) : t.partStall i r sl = s.partStall i r sl := by
    unfold State.partStall; simp only [hplan, hgroups, hfit]
  have hdisp (i : Nat) : t.dispatchStall q i = s.dispatchStall q i := by
    unfold State.dispatchStall State.nextRec State.slotOf; simp only [hrecs, hst, hslots, hpart]
  unfold State.backpressure State.portOf
  simp only [hfull, hst, hdisp]

/-- Bringing the backpressure of port `q` up to date takes no bytes and accepts no record: no whole record waits, and either
the buffer is empty or no episode of backpressure ends. -/
def State.Quiet (s : State) (q : Nat) : Prop :=
  (s.tap q).whole = [] ∧ ((s.tap q).buf = [] ∨ (s.tap q).bpAt = none ∨ s.backpressure q = true)

theorem State.Quiet.of_alike {s t : State} {q : Nat} (h : s.Quiet q) (ha : s.StallsAlike t q)
    (hb : (t.tap q).bpAt = (s.tap q).bpAt) : t.Quiet q := by
  unfold State.Quiet
  rwa [ha.whole, ha.buf, hb, ha.backpressure]

/-- The episode of a port goes on, begins, or ends, after which its time is counted. -/
theorem bpMark_cases (s : State) (p : Nat) :
    s.bpMark p = s ∨
    s.bpMark p = (s.updTap p fun t => { t with bpAt := some s.cyc, bpLong := false, bpFrom := s.cyc }).wr F.TAP_STAT_BP 1 p ∨
    ∃ (n : Nat) (late : TapPort → Nat),
      s.bpMark p = (((s.add64 R.TAP_BPTIME_LO R.TAP_BPTIME_HI n p).peak F.TAP_BPMAX_NS n p).updTap p fun t =>
        { t with bpAt := none, lastAt := t.lastAt + late t }).wr F.TAP_STAT_BP 0 p := by
  unfold State.bpMark
  dsimp only
  split
  · exact .inr (.inl rfl)
  · exact .inr (.inr ⟨_, _, rfl⟩)
  · exact .inl rfl

/-- Registers that count the backpressure of a port. -/
def bpCounters : List Reg := [R.TAP_BPTIME_LO, R.TAP_BPTIME_HI, R.TAP_BPMAX]

/-- These and the register of the BP bit. -/
def bpRegs : List Reg := R.TAP_STAT :: bpCounters

/-- From `s` to `t` only the accounts of backpressure and the deadlock timer may have moved. -/
structure State.Marked (s t : State) : Prop where
  rest : t = { s with regs := t.regs, taps := t.taps, sem := { s.sem with since := t.sem.since } }
  words : ∀ r, r.paged → (∀ x ∈ bpRegs, r.apart x) → ∀ a b, t.word r a b = s.word r a b
  stat : ∀ f, f.reg = R.TAP_STAT → f.hi < 13 ∨ 13 < f.lo → ∀ q, t.rd f q = s.rd f q
  held : ∀ q, (t.tap q).recs = (s.tap q).recs ∧ (t.tap q).buf = (s.tap q).buf ∧ (t.tap q).whole = (s.tap q).whole

namespace State.Marked

variable {s t : State}

theorem refl (s : State) : s.Marked s := ⟨rfl, fun _ _ _ _ _ => rfl, fun _ _ _ _ => rfl, fun _ => ⟨rfl, rfl, rfl⟩⟩

theorem trans {u : State} (h : s.Marked t) (h' : t.Marked u) : s.Marked u where
  rest := calc
    u = { t with regs := u.regs, taps := u.taps, sem := { t.sem with since := u.sem.since } } := h'.rest
    _ = { s with regs := u.regs, taps := u.taps, sem := { s.sem with since := u.sem.since } } :=
      congrArg (fun x : State => { x with regs := u.regs, taps := u.taps, sem := { x.sem with since := u.sem.since } }) h.rest
  words r hr hx a b := (h'.words r hr hx a b).trans (h.words r hr hx a b)
  stat f hf hd q := (h'.stat f hf hd q).trans (h.stat f hf hd q)
  held q := by
    obtain ⟨hr, hb, hw⟩ := h.held q
    obtain ⟨hr', hb', hw'⟩ := h'.held q
    exact ⟨hr'.trans hr, hb'.trans hb, hw'.trans hw⟩

/-- A counter of backpressure takes a word. -/
theorem setWord (h : s.Marked t) {r : Reg} (hr : r ∈ bpCounters) (v p : Nat) : s.Marked (t.setWord r v p) := by
  obtain ⟨hrp, hs⟩ : r.paged ∧ R.TAP_STAT.apart r := (by decide : ∀ x ∈ bpCounters, x.paged ∧ R.TAP_STAT.apart x) r hr
  refine h.trans ⟨rfl, fun r' hr' hx a b => word_setWord_other t (key_ne_key hr' hrp (hx r (.tail _ hr)) a b p 0) v,
    fun f hf _ q => rd_setWord_other t ?_ v, fun _ => ⟨rfl, rfl, rfl⟩⟩
  rw [hf]
  exact key_ne_key (by decide) hrp hs q 0 p 0

theorem add64 (h : s.Marked t) {lo hi : Reg} (hl : lo ∈ bpCounters) (hh : hi ∈ bpCounters) (n p : Nat) :
    s.Marked (t.add64 lo hi n p) := (h.setWord hl _ p).setWord hh _ p

theorem peak (h : s.Marked t) {f : Fld} (hf : f.reg ∈ bpCounters) (v p : Nat) : s.Marked (t.peak f v p) := by
  unfold State.peak
  split
  · exact h.setWord hf _ p
  · exact h

theorem wr_bp (h : s.Marked t) (v p : Nat) : s.Marked (t.wr F.TAP_STAT_BP v p) := by
  refine h.trans ⟨rfl, fun r' hr' hx a b => word_wr_other t (key_ne_key hr' (by decide) (hx R.TAP_STAT (.head _)) a b p 0) v,
    fun f hf hd q => ?_, fun _ => ⟨rfl, rfl, rfl⟩⟩
  by_cases hq : q = p
  · subst hq
    exact rd_wr_beside t (by decide) (by decide) hf hd v q 0
  · refine rd_wr_other t ?_ v
    rw [hf]
    simp only [Reg.key, R.TAP_STAT, F.TAP_STAT_BP]
    omega

theorem updTap (h : s.Marked t) {f : TapPort → TapPort} (hr : ∀ x, (f x).recs = x.recs) (hb : ∀ x, (f x).buf = x.buf)
    (hw : ∀ x, (f x).whole = x.whole) (p : Nat) : s.Marked (t.updTap p f) :=
  h.trans ⟨rfl, fun _ _ _ _ _ => rfl, fun _ _ _ _ => rfl, fun q =>
    ⟨tap_updTap_part t TapPort.recs hr p q, tap_updTap_part t TapPort.buf hb p q, tap_updTap_part t TapPort.whole hw p q⟩⟩

theorem bpMark (s : State) (p : Nat) : s.Marked (s.bpMark p) := by
  obtain e | e | ⟨n, late, e⟩ := bpMark_cases s p <;> rw [e]
  · exact refl s
  · exact ((refl s).updTap (by simp) (by simp) (by simp) p).wr_bp 1 p
  · have hcounted : s.Marked ((s.add64 R.TAP_BPTIME_LO R.TAP_BPTIME_HI n p).peak F.TAP_BPMAX_NS n p) :=
      ((refl s).add64 (by simp [bpCounters]) (by simp [bpCounters]) n p).peak (by simp [bpCounters, F.TAP_BPMAX_NS]) n p
    exact (hcounted.updTap (by simp) (by simp) (by simp) p).wr_bp 0 p

/-- The deadlock timer takes a value. -/
theorem since (s : State) (c : Option Nat) : s.Marked { s with sem := { s.sem with since := c } } :=
  ⟨rfl, fun _ _ _ _ _ => rfl, fun _ _ _ _ => rfl, fun _ => ⟨rfl, rfl, rfl⟩⟩

theorem stallsAlike (h : s.Marked t) (q : Nat) : s.StallsAlike t q := by
  obtain ⟨hrecs, hbuf, hwhole⟩ := h.held q
  have hpool : t.word R.TAP_POOL q = s.word R.TAP_POOL q := h.words _ (by decide) (by decide) q 0
  exact ⟨hrecs, hbuf, hwhole, congrArg (bits _ _) hpool, (congrArg State.streams h.rest :), (congrArg State.slots h.rest :),
    (congrArg State.ctxs h.rest :), (congrArg State.lqs h.rest :)⟩

end State.Marked

/-- The mark of a port is made without a change to the other's. -/
theorem tap_bpMark_other (s : State) {p q : Nat} (h : q ≠ p) : (s.bpMark p).tap q = s.tap q := by
  obtain e | e | ⟨n, late, e⟩ := bpMark_cases s p <;> rw [e]
  · rw [tap_wr, tap_updTap_other _ _ h]
  · rw [tap_wr, tap_updTap_other _ _ h, tap_peak, tap_add64]

/-- An episode begins with backpressure only. -/
theorem bpMark_idle {s : State} {p : Nat} (hn : (s.tap p).bpAt = none) (hb : s.backpressure p = false) : s.bpMark p = s := by
  simp only [State.bpMark, hn, hb]

/-- An episode lasts while there is backpressure. -/
theorem bpMark_lasting {s : State} {p c : Nat} (hn : (s.tap p).bpAt = some c) (hb : s.backpressure p = true) :
    s.bpMark p = s := by
  simp only [State.bpMark, hn, hb]

theorem State.Quiet.bpMark {s : State} {q : Nat} (h : s.Quiet q) (p : Nat) : (s.bpMark p).Quiet q := by
  have ha := (State.Marked.bpMark s p).stallsAlike q
  unfold State.Quiet at h ⊢
  rw [ha.whole, ha.buf, ha.backpressure]
  obtain ⟨hw, hb | hn | hb⟩ := h
  · exact ⟨hw, .inl hb⟩
  · by_cases hbp : s.backpressure q = true
    · exact ⟨hw, .inr (.inr hbp)⟩
    · refine ⟨hw, .inr (.inl ?_)⟩
      by_cases hq : q = p
      · subst hq
        rw [bpMark_idle hn (by simpa using hbp), hn]
      · rw [tap_bpMark_other s hq, hn]
  · exact ⟨hw, .inr (.inr hb)⟩

theorem parse_empty {s : State} {p : Nat} (h : (s.tap p).buf = []) (n : Nat) : s.parse p n = s := by
  cases n <;> simp [State.parse, h]

/-- The update of a quiet port only marks its backpressure. -/
theorem bpUpdate_of_quiet {s : State} {p : Nat} (h : s.Quiet p) :
    s.bpUpdate p = s.bpMark p ∨ s.bpUpdate p = (s.bpMark p).bpMark p := by
  obtain ⟨hw, hcase⟩ := h
  have hupd : s.bpUpdate p = if (s.tap p).bpAt.isSome && ((s.bpMark p).tap p).bpAt.isNone then
      ((s.bpMark p).parse p (((s.bpMark p).tap p).buf.length + 1)).bpMark p else s.bpMark p := by
    unfold State.bpUpdate
    rw [hw]
    rfl
  rw [hupd]
  split
  · next hends =>
    simp only [Bool.and_eq_true, Option.isSome_iff_exists, Option.isNone_iff_eq_none] at hends
    obtain ⟨⟨c, hc⟩, hnone⟩ := hends
    right
    rw [parse_empty]
    obtain ⟨-, hbuf, -⟩ := (State.Marked.bpMark s p).held p
    rw [hbuf]
    obtain hb | hn | hb := hcase
    · exact hb
    · rw [hn] at hc; cases hc
    · rw [bpMark_lasting hc hb, hc] at hnone; cases hnone
  · exact .inl rfl

theorem State.Marked.bpUpdate {s : State} {p : Nat} (h : s.Quiet p) : s.Marked (s.bpUpdate p) := by
  obtain e | e := bpUpdate_of_quiet h <;> rw [e]
  · exact .bpMark s p
  · exact (State.Marked.bpMark s p).trans (.bpMark _ p)

theorem State.Quiet.bpUpdate {s : State} {p q : Nat} (h : s.Quiet q) (hp : s.Quiet p) : (s.bpUpdate p).Quiet q := by
  obtain e | e := bpUpdate_of_quiet hp <;> rw [e]
  · exact h.bpMark p
  · exact (h.bpMark p).bpMark p

theorem State.Marked.watch {s : State} (h0 : s.Quiet 0) (h1 : s.Quiet 1) (stir : Bool) : s.Marked (s.watch stir) := by
  have hall : s.Marked s.bpAll := (State.Marked.bpUpdate h0).trans (.bpUpdate (h1.bpUpdate h0))
  exact hall.trans (.since _ _)

/-- What a command does at its end on a port that it has stopped. -/
theorem marked_bpUpdate_watch {s : State} {p : Nat} (hp : p < 2) (h : s.Quiet p) (ho : s.Quiet (1 - p)) :
    s.Marked (s.bpUpdate p).watch := by
  have hq := h.bpUpdate h
  have hqo := ho.bpUpdate h
  obtain rfl | rfl : p = 0 ∨ p = 1 := by omega
  · exact (State.Marked.bpUpdate h).trans (.watch hq hqo false)
  · exact (State.Marked.bpUpdate h).trans (.watch hqo hq false)

/-! ### Dropping what is partial -/

/-- The port drops what it holds in part; `ws` came whole and waits on. -/
def TapPort.emptied (t : TapPort) (ws : List (Nat × Nat × List Byte)) : TapPort :=
  { t with buf := [], hdr := false, ovr := false, whole := t.whole ++ ws }

/-- The records that are whole in the buffer of a port. -/
def State.wholeNow (s : State) (p : Nat) : List (Nat × Nat × List Byte) :=
  wholeRecs p (s.recStart p) (s.tap p).stamp (s.tap p).tlpAt (s.tap p).buf (s.tap p).buf.length

/-- The registers that a drop may write. -/
def dropRegs : List Reg := [R.TAP_DISC_LO, R.TAP_DISC_HI, R.TAP_PARTDROP]

/-- From `s` to `t` only registers that count dropped bytes and records have been written. -/
structure State.Counted (s t : State) : Prop where
  rest : t = { s with regs := t.regs }
  words : ∀ r, r.paged → (∀ x ∈ dropRegs, r.apart x) → ∀ a b, t.word r a b = s.word r a b

theorem State.Counted.setWord {s t : State} (h : s.Counted t) {r : Reg} (hr : r ∈ dropRegs) (v a b : Nat) :
    s.Counted (t.setWord r v a b) where
  rest := congrArg (fun u : State => { u with regs := (t.setWord r v a b).regs }) h.rest
  words r' hr' hx a' b' := by
    have hp : r.paged := (by decide : ∀ x ∈ dropRegs, x.paged) r hr
    rw [word_setWord_other t (key_ne_key hr' hp (hx r hr) a' b' a b), h.words r' hr' hx]

theorem State.Counted.wr {s t : State} (h : s.Counted t) {f : Fld} (hf : f.reg ∈ dropRegs) (v a b : Nat) :
    s.Counted (t.wr f v a b) := h.setWord hf _ a b

theorem State.Counted.add64 {s t : State} (h : s.Counted t) {lo hi : Reg} (hl : lo ∈ dropRegs) (hh : hi ∈ dropRegs)
    (n a b : Nat) : s.Counted (t.add64 lo hi n a b) := (h.setWord hl _ a b).setWord hh _ a b

/-- What is dropped is counted, and the port is emptied. -/
theorem dropPartial_eq (s : State) (p : Nat) (w : Bool) :
    ∃ u, s.Counted u ∧ s.dropPartial p w = u.updTap p (·.emptied (s.wholeNow p)) := by
  refine ⟨_, ?_, rfl⟩
  have hdisc (n : Nat) : s.Counted (s.discard p n) :=
    State.Counted.add64 ⟨rfl, fun _ _ _ _ _ => rfl⟩ (by simp [dropRegs]) (by simp [dropRegs]) n p 0
  unfold State.when
  split
  · exact (hdisc _).wr (by simp [dropRegs, F.TAP_PARTDROP_N]) _ p 0
  · exact hdisc _

theorem word_dropPartial (s : State) (p : Nat) (w : Bool) {r : Reg} (hr : r.paged) (hx : ∀ x ∈ dropRegs, r.apart x) (a b : Nat) :
    (s.dropPartial p w).word r a b = s.word r a b := by
  obtain ⟨u, hu, e⟩ := dropPartial_eq s p w
  rw [e]
  exact hu.words r hr hx a b

theorem rest_dropPartial (s : State) (p : Nat) (w : Bool) :
    s.dropPartial p w = { s with regs := (s.dropPartial p w).regs, taps := updAt (·.emptied (s.wholeNow p)) p s.taps } := by
  obtain ⟨u, hu, e⟩ := dropPartial_eq s p w
  rw [e]
  exact congrArg (fun x : State => { x with regs := u.regs, taps := updAt (·.emptied (s.wholeNow p)) p x.taps }) hu.rest

/-- From `s` to `t` port `p` has dropped what it held in part, and only registers that do not bear on backpressure have been written. -/
structure State.Stopped (s t : State) (p : Nat) : Prop where
  rest : t = { s with regs := t.regs, taps := updAt (·.emptied (s.wholeNow p)) p s.taps }
  pool : ∀ q, t.word R.TAP_POOL q = s.word R.TAP_POOL q

namespace State.Stopped

variable {s t : State} {p : Nat}

theorem dropPartial (s : State) (p : Nat) (w : Bool) : s.Stopped (s.dropPartial p w) p :=
  ⟨rest_dropPartial s p w, fun q => word_dropPartial s p w (by decide) (by decide) q 0⟩

theorem setWord (h : s.Stopped t p) {r : Reg} (hr : r.paged ∧ R.TAP_POOL.apart r) (v a b : Nat) :
    s.Stopped (t.setWord r v a b) p :=
  ⟨congrArg (fun u : State => { u with regs := (t.setWord r v a b).regs }) h.rest, fun q =>
    (word_setWord_other t (key_ne_key (by decide) hr.1 hr.2 q 0 a b) v).trans (h.pool q)⟩

theorem wr (h : s.Stopped t p) {f : Fld} (hr : f.reg.paged ∧ R.TAP_POOL.apart f.reg) (v a b : Nat) :
    s.Stopped (t.wr f v a b) p := h.setWord hr _ a b

/-- A write before the drop, short of the cursor, which says where the buffer's first byte lies. -/
theorem of_wr {f : Fld} {v a b : Nat} (h : (s.wr f v a b).Stopped t p)
    (hr : f.reg.paged ∧ R.TAP_POOL.apart f.reg ∧ R.TAP_CURSOR.apart f.reg) : s.Stopped t p := by
  obtain ⟨hf, hpool, hcur⟩ := hr
  have hstart : (s.wr f v a b).wholeNow p = s.wholeNow p := by
    unfold State.wholeNow State.recStart
    rw [rd_wr_other s (key_ne_key (by decide) hf hcur p 0 a b)]
    rfl
  refine ⟨?_, fun q => (h.pool q).trans (word_wr_other s (key_ne_key (by decide) hf hpool q 0 a b) v)⟩
  rw [← hstart]
  exact h.rest

theorem tap (h : s.Stopped t p) (hp : p < s.taps.length) : t.tap p = (s.tap p).emptied (s.wholeNow p) := by
  have htaps : t.taps = updAt (·.emptied (s.wholeNow p)) p s.taps := (congrArg State.taps h.rest :)
  unfold State.tap
  rw [htaps]
  exact getD_updAt_same _ _ hp

theorem tap_other (h : s.Stopped t p) {q : Nat} (hq : q ≠ p) : t.tap q = s.tap q := by
  have htaps : t.taps = updAt (·.emptied (s.wholeNow p)) p s.taps := (congrArg State.taps h.rest :)
  unfold State.tap
  rw [htaps]
  exact getD_updAt_other _ _ hq _

/-- Where no whole record waited in the port, and the episode of the other port lasts, neither port takes bytes after the drop. -/
theorem quiet (h : s.Stopped t p) (hp : p < 2) (hl : s.taps.length = 2) (hc : s.Calm p) : t.Quiet p ∧ t.Quiet (1 - p) := by
  obtain ⟨hwhole, howhole, hoepisode⟩ := hc
  have hpl : p < s.taps.length := by omega
  have ho : t.tap (1 - p) = s.tap (1 - p) := h.tap_other (by omega)
  have halike : s.StallsAlike t (1 - p) :=
    ⟨by rw [ho], by rw [ho], by rw [ho], congrArg (bits _ _) (h.pool _), (congrArg State.streams h.rest :),
      (congrArg State.slots h.rest :), (congrArg State.ctxs h.rest :), (congrArg State.lqs h.rest :)⟩
  have hother : s.Quiet (1 - p) := ⟨howhole, .inr hoepisode⟩
  refine ⟨⟨?_, .inl ?_⟩, hother.of_alike halike (by rw [ho])⟩
  · rw [(dropPartial s p false).tap hpl] at hwhole
    rw [h.tap hpl, hwhole]
  · rw [h.tap hpl]
    rfl

/-- The end of a command that stops a port. -/
theorem watched (h : s.Stopped t p) (hp : p < 2) (hl : s.taps.length = 2) (hc : s.Calm p) :
    t.Marked (t.bpUpdate p).watch ∧ ((t.bpUpdate p).watch.tap p).buf = [] ∧
      ((t.bpUpdate p).watch.tap p).recs = (s.tap p).recs ∧
      (t.bpUpdate p).watch = { s with
        regs := (t.bpUpdate p).watch.regs, taps := (t.bpUpdate p).watch.taps,
        sem := { s.sem with since := (t.bpUpdate p).watch.sem.since } } := by
  obtain ⟨hq, hqo⟩ := h.quiet hp hl hc
  have hm : t.Marked (t.bpUpdate p).watch := marked_bpUpdate_watch hp hq hqo
  generalize (t.bpUpdate p).watch = u at hm
  obtain ⟨hrecs, hbuf, -⟩ := hm.held p
  rw [h.tap (by omega)] at hrecs hbuf
  exact ⟨hm, hbuf, hrecs, hm.rest.trans (congrArg
    (fun x : State => { x with regs := u.regs, taps := u.taps, sem := { x.sem with since := u.sem.since } }) h.rest)⟩

end State.Stopped

/-! ### RESYNC and QUIESCED -/

theorem rd_pstate_same (s : State) (p st : Nat) : (s.pstate p st).rd F.TAP_STAT_PSTATE p = st % 4 := by
  unfold State.pstate
  rw [rd_wr_beside _ (by decide) (by decide) (by rfl) (by decide), rd_wr_same _ (by decide) (by decide)]
  rfl

theorem rd_pstate_other (s : State) (p st : Nat) {f : Fld} (hf : f.reg.paged) (hs : f.reg.apart R.TAP_STAT) (a b : Nat) :
    (s.pstate p st).rd f a b = s.rd f a b := by
  have hne : f.reg.key a b ≠ R.TAP_STAT.key p 0 := key_ne_key hf (by decide) hs _ _ _ _
  unfold State.pstate
  rw [rd_wr_other _ hne, rd_wr_other _ hne]

/-- Entry to RESYNC shows its state and its cause. -/
theorem rd_resync (s : State) (p cause : Nat) :
    (s.resync p cause).rd F.TAP_STAT_PSTATE p = 1 ∧ (s.resync p cause).rd F.TAP_STAT_RSCAUSE p = cause % 8 := by
  have hne : R.TAP_STAT.key p 0 ≠ R.TAP_RSGEN.key p 0 := key_ne_key (by decide) (by decide) (by decide) _ _ _ _
  unfold State.resync
  constructor
  · rw [rd_setWord_other (f := F.TAP_STAT_PSTATE) _ hne, rd_wr_beside _ (by decide) (by decide) (by rfl) (by decide), rd_pstate_same]
  · rw [rd_setWord_other (f := F.TAP_STAT_RSCAUSE) _ hne, rd_wr_same _ (by decide) (by decide)]
    rfl

/-- Entry to RESYNC leaves LINKUP. -/
theorem rd_resync_linkup (s : State) (p cause : Nat) :
    (s.resync p cause).rd F.TAP_STAT_LINKUP p = s.rd F.TAP_STAT_LINKUP p := by
  unfold State.resync State.pstate
  rw [rd_setWord_other _ (key_ne_key (by decide) (by decide) (by decide) _ _ _ _),
    rd_wr_beside _ (by decide) (by decide) (by rfl) (by decide), rd_wr_beside _ (by decide) (by decide) (by rfl) (by decide),
    rd_wr_beside _ (by decide) (by decide) (by rfl) (by decide)]

/-- A register that a port's state does not show in. -/
theorem rd_resync_other (s : State) (p cause : Nat) {f : Fld} (hf : f.reg.paged) (hs : f.reg.apart R.TAP_STAT)
    (hg : f.reg.apart R.TAP_RSGEN) (a b : Nat) : (s.resync p cause).rd f a b = s.rd f a b := by
  unfold State.resync
  rw [rd_setWord_other _ (key_ne_key hf (by decide) hg _ _ _ _), rd_wr_other _ (key_ne_key hf (by decide) hs _ _ _ _),
    rd_pstate_other _ p 1 hf hs]

theorem dropToResync_of_run {s : State} {p : Nat} (h : s.rd F.TAP_STAT_PSTATE p = 2) (cause : Nat) :
    s.dropToResync p cause = (s.dropPartial p).resync p cause := by
  simp [State.dropToResync, State.when, h]

theorem dropToResync_of_resync {s : State} {p : Nat} (h : s.rd F.TAP_STAT_PSTATE p = 1) (cause : Nat) :
    s.dropToResync p cause = s.dropPartial p := by
  simp [State.dropToResync, State.when, h]

theorem State.Stopped.pstate {s t : State} {p : Nat} (h : s.Stopped t p) (st : Nat) : s.Stopped (t.pstate p st) p :=
  (h.wr (by decide) _ _ _).wr (by decide) _ _ _

theorem State.Stopped.resync {s t : State} {p : Nat} (h : s.Stopped t p) (cause : Nat) : s.Stopped (t.resync p cause) p :=
  ((h.pstate 1).wr (by decide) _ _ _).setWord (by decide) _ _ _

theorem State.Stopped.dropToResync (s : State) (p cause : Nat) : s.Stopped (s.dropToResync p cause) p := by
  unfold State.dropToResync State.when
  dsimp only
  split
  · exact (State.Stopped.dropPartial s p false).resync cause
  · exact .dropPartial s p false

/-- A flush is a restart with its own cause. -/
theorem opFlush_eq_tapRestart (p : Nat) (s : State) : opFlush p s = s.tapRestart p 1 := rfl

/-- A restart or a flush of a port in RUN or RESYNC drops what is partial and ends in RESYNC, which it enters from RUN alone. -/
theorem tapRestart_watch {s : State} {p : Nat} (hp : p < 2) (hl : s.taps.length = 2) (hc : s.Calm p)
    (hlive : s.rd F.TAP_STAT_PSTATE p = 1 ∨ s.rd F.TAP_STAT_PSTATE p = 2) (cause : Nat) :
    (s.tapRestart p cause).watch.rd F.TAP_STAT_PSTATE p = 1 ∧
      (s.rd F.TAP_STAT_PSTATE p = 2 → (s.tapRestart p cause).watch.rd F.TAP_STAT_RSCAUSE p = cause % 8) ∧
      ((s.tapRestart p cause).watch.tap p).buf = [] ∧ ((s.tapRestart p cause).watch.tap p).recs = (s.tap p).recs ∧
      (s.tapRestart p cause).watch = { s with
        regs := (s.tapRestart p cause).watch.regs, taps := (s.tapRestart p cause).watch.taps,
        sem := { s.sem with since := (s.tapRestart p cause).watch.sem.since } } := by
  have hrestart : s.tapRestart p cause = (s.dropToResync p cause).bpUpdate p := by
    obtain h | h := hlive <;> simp only [State.tapRestart, h]
  obtain ⟨hm, hkept⟩ := (State.Stopped.dropToResync s p cause).watched hp hl hc
  rw [hrestart, hm.stat _ rfl (by decide), hm.stat _ rfl (by decide)]
  refine ⟨?_, fun hrun => ?_, hkept⟩
  · obtain h | h := hlive
    · rw [dropToResync_of_resync h, State.rd, word_dropPartial s p false (by decide) (by decide)]
      exact h
    · rw [dropToResync_of_run h, (rd_resync _ p cause).1]
  · rw [dropToResync_of_run hrun, (rd_resync _ p cause).2]

/-- Loss of the link in RUN. -/
theorem opTapLinkDown_of_run {s : State} {p : Nat} (hup : s.on F.TAP_STAT_LINKUP p = true) (hrun : s.rd F.TAP_STAT_PSTATE p = 2) :
    opTapLinkDown p s =
      (((s.wr F.TAP_STAT_LINKUP 0 p).dropPartial p).resync p 6 |>.raise (S.TAP_LINK_DOWN.at p)).bpUpdate p := by
  have hrun' : (s.wr F.TAP_STAT_LINKUP 0 p).rd F.TAP_STAT_PSTATE p = 2 := by
    rw [rd_wr_beside s (by decide) (by decide) (by rfl) (by decide), hrun]
  rw [← dropToResync_of_run hrun']
  simp [opTapLinkDown, hup, hrun, State.when]

theorem stallsAlike_raise_tap (s : State) {p q : Nat} (hp : p < 2) (hq : q < 2) (n : Nat) :
    s.StallsAlike (s.raise ⟨6 + p, n⟩) q := by
  have htap : (s.raise ⟨6 + p, n⟩).tap q = s.tap q := congrArg (·.getD q TapPort.reset) (taps_raise_tap s hp n)
  have hrest := (reacted_raise_tap s hp n).rest
  exact ⟨by rw [htap], by rw [htap], by rw [htap], congrArg (bits _ _) (word_raise_tap s hp hq n (by decide) (by decide)),
    (congrArg State.streams hrest :), (congrArg State.slots hrest :), (congrArg State.ctxs hrest :), (congrArg State.lqs hrest :)⟩

theorem State.Quiet.raise_tap {s : State} {q : Nat} (h : s.Quiet q) {p : Nat} (hp : p < 2) (hq : q < 2) (n : Nat) :
    (s.raise ⟨6 + p, n⟩).Quiet q :=
  h.of_alike (stallsAlike_raise_tap s hp hq n) (congrArg (fun ts => (ts.getD q TapPort.reset).bpAt) (taps_raise_tap s hp n))

/-- The end of a command that stops a port and raises a fault of it. -/
theorem State.Stopped.raised_watched {s t : State} {p n : Nat} (h : s.Stopped t p) (hp : p < 2) (hn : n < 32)
    (hl : s.taps.length = 2) (hc : s.Calm p) :
    (∀ f, f.reg = R.TAP_STAT → f.hi < 13 ∨ 13 < f.lo → ((t.raise ⟨6 + p, n⟩).bpUpdate p).watch.rd f p = t.rd f p) ∧
      ((t.raise ⟨6 + p, n⟩).bpUpdate p).watch.flt ⟨6 + p, n⟩ = true ∧
      (((t.raise ⟨6 + p, n⟩).bpUpdate p).watch.tap p).buf = [] ∧
      (((t.raise ⟨6 + p, n⟩).bpUpdate p).watch.tap p).recs = (s.tap p).recs := by
  obtain ⟨hq, hqo⟩ := h.quiet hp hl hc
  have hm := marked_bpUpdate_watch hp (hq.raise_tap hp hp n) (hqo.raise_tap hp (by omega) n)
  obtain ⟨hrecs, hbuf, -⟩ := hm.held p
  rw [(port_raise_tap t hp n).1, h.tap (by omega)] at hrecs hbuf
  refine ⟨fun f hf hbp => ?_, ?_, hbuf, hrecs⟩
  · rw [hm.stat f hf hbp, State.rd, State.rd, hf, word_raise_tap t hp hp n (by decide) (by decide)]
  · rw [State.flt, hm.words R.HEAD_FLT (by decide) (by decide)]
    exact flt_raise_tap t hp hn

/-- R153, R189: the port of a link that is lost in RUN. -/
theorem linkDown_watch {s : State} {p : Nat} (hp : p < 2) (hl : s.taps.length = 2) (hc : s.Calm p)
    (hup : s.on F.TAP_STAT_LINKUP p = true) (hrun : s.rd F.TAP_STAT_PSTATE p = 2) :
    (opTapLinkDown p s).watch.rd F.TAP_STAT_LINKUP p = 0 ∧ (opTapLinkDown p s).watch.rd F.TAP_STAT_PSTATE p = 1 ∧
      (opTapLinkDown p s).watch.rd F.TAP_STAT_RSCAUSE p = 6 ∧
      (opTapLinkDown p s).watch.flt (S.TAP_LINK_DOWN.at p) = true ∧ ((opTapLinkDown p s).watch.tap p).buf = [] ∧
      ((opTapLinkDown p s).watch.tap p).recs = (s.tap p).recs := by
  have hstop : s.Stopped (((s.wr F.TAP_STAT_LINKUP 0 p).dropPartial p).resync p 6) p :=
    ((State.Stopped.dropPartial _ p false).resync 6).of_wr (by decide)
  have hlink : ((s.wr F.TAP_STAT_LINKUP 0 p).dropPartial p).rd F.TAP_STAT_LINKUP p = 0 := by
    rw [State.rd, word_dropPartial _ p false (by decide) (by decide)]
    exact rd_wr_same s (by decide) (by decide) 0 p 0
  obtain ⟨hst, hcause⟩ := rd_resync ((s.wr F.TAP_STAT_LINKUP 0 p).dropPartial p) p 6
  obtain ⟨hstat, hkept⟩ := hstop.raised_watched hp (n := S.TAP_LINK_DOWN.num) (by decide) hl hc
  rw [opTapLinkDown_of_run hup hrun]
  exact ⟨((hstat _ rfl (by decide)).trans (rd_resync_linkup _ _ _)).trans hlink, (hstat _ rfl (by decide)).trans hst,
    (hstat _ rfl (by decide)).trans hcause, hkept⟩

/-- R158: the host sets QUIESCE of a port that is not OFF. -/
theorem quiesceSet_watch {s : State} {p : Nat} (hp : p < 2) (hl : s.taps.length = 2) (hc : s.Calm p)
    (hon : s.rd F.TAP_STAT_PSTATE p ≠ 0) :
    (opQuiesceSet p s).watch.rd F.TAP_CTRL_QUIESCE p = 1 ∧ (opQuiesceSet p s).watch.rd F.TAP_STAT_PSTATE p = 3 ∧
      ((opQuiesceSet p s).watch.tap p).buf = [] ∧ ((opQuiesceSet p s).watch.tap p).recs = (s.tap p).recs ∧
      (opQuiesceSet p s).watch = { s with
        regs := (opQuiesceSet p s).watch.regs, taps := (opQuiesceSet p s).watch.taps,
        sem := { s.sem with since := (opQuiesceSet p s).watch.sem.since } } := by
  have hset : opQuiesceSet p s = (((s.wr F.TAP_CTRL_QUIESCE 1 p).dropPartial p).pstate p 3).bpUpdate p :=
    if_neg (by rwa [rd_wr_other s (key_ne_key (by decide) (by decide) (by decide) _ _ _ _)])
  have hstop : s.Stopped (((s.wr F.TAP_CTRL_QUIESCE 1 p).dropPartial p).pstate p 3) p :=
    ((State.Stopped.dropPartial _ p false).pstate 3).of_wr (by decide)
  obtain ⟨hm, hkept⟩ := hstop.watched hp hl hc
  rw [hset]
  refine ⟨?_, ?_, hkept⟩
  · rw [State.rd, hm.words _ (by decide) (by decide)]
    refine (rd_pstate_other _ p 3 (f := F.TAP_CTRL_QUIESCE) (by decide) (by decide) p 0).trans ?_
    rw [State.rd, word_dropPartial _ p false (by decide) (by decide)]
    exact rd_wr_same s (by decide) (by decide) 1 p 0
  · rw [hm.stat _ rfl (by decide), rd_pstate_same]

/-- The host clears QUIESCE: TAP_STAT keeps its fields, but for the request that an ended restart left (R583). -/
theorem quiesceCleared (s : State) (p : Nat) :
    ((s.wr F.TAP_CTRL_QUIESCE 0 p).dropAcbQ p).rd F.TAP_CTRL_QUIESCE p = 0 ∧
      ((s.wr F.TAP_CTRL_QUIESCE 0 p).dropAcbQ p).rd F.TAP_STAT_PSTATE p = s.rd F.TAP_STAT_PSTATE p ∧
      (s.rd F.TAP_STAT_ACB_Q p = 0 → ((s.wr F.TAP_CTRL_QUIESCE 0 p).dropAcbQ p).rd F.TAP_STAT_ACB_Q p = 0) ∧
      (s.rd F.ACB_STAT_STEP ≠ 0 →
        ((s.wr F.TAP_CTRL_QUIESCE 0 p).dropAcbQ p).rd F.TAP_STAT_ACB_Q p = s.rd F.TAP_STAT_ACB_Q p) := by
  have hctrl : R.TAP_STAT.key p 0 ≠ R.TAP_CTRL.key p 0 := key_ne_key (by decide) (by decide) (by decide) _ _ _ _
  have hq : (s.wr F.TAP_CTRL_QUIESCE 0 p).rd F.TAP_CTRL_QUIESCE p = 0 := rd_wr_same s (by decide) (by decide) 0 p 0
  have hst : (s.wr F.TAP_CTRL_QUIESCE 0 p).rd F.TAP_STAT_PSTATE p = s.rd F.TAP_STAT_PSTATE p := rd_wr_other s hctrl _
  have hacb : (s.wr F.TAP_CTRL_QUIESCE 0 p).rd F.TAP_STAT_ACB_Q p = s.rd F.TAP_STAT_ACB_Q p := rd_wr_other s hctrl _
  have hstep : (s.wr F.TAP_CTRL_QUIESCE 0 p).rd F.ACB_STAT_STEP = s.rd F.ACB_STAT_STEP :=
    rd_wr_other s (key_ne_key (by decide) (by decide) (by decide) _ _ _ _) _
  generalize s.wr F.TAP_CTRL_QUIESCE 0 p = u at hq hst hacb hstep
  unfold State.dropAcbQ
  split
  · next hidle =>
    refine ⟨?_, ?_, fun _ => rd_wr_same u (by decide) (by decide) 0 p 0, fun h => absurd (hstep ▸ hidle) h⟩
    · rw [rd_wr_other u hctrl.symm, hq]
    · rw [rd_wr_beside u (by decide) (by decide) (by rfl) (by decide), hst]
  · exact ⟨hq, hst, hacb.trans, fun _ => hacb⟩

/-- R153: with both requests clear, the port leaves QUIESCED. -/
theorem quiesceClear_leaves {s : State} {p : Nat} (hst : s.rd F.TAP_STAT_PSTATE p = 3) (hacb : s.on F.TAP_STAT_ACB_Q p = false) :
    (opQuiesceClear p s).rd F.TAP_CTRL_QUIESCE p = 0 ∧ (opQuiesceClear p s).rd F.TAP_STAT_PSTATE p = 1 ∧
      (opQuiesceClear p s).rd F.TAP_STAT_RSCAUSE p = 7 := by
  obtain ⟨hq, hst', hacb', -⟩ := quiesceCleared s p
  have hleaves : opQuiesceClear p s = ((s.wr F.TAP_CTRL_QUIESCE 0 p).dropAcbQ p).resync p 7 :=
    if_pos (by simp [State.on, hq, hst', hst, hacb' (by simpa [State.on] using hacb)])
  rw [hleaves]
  exact ⟨(rd_resync_other _ p 7 (by decide) (by decide) (by decide) p 0).trans hq, rd_resync _ p 7⟩

/-- R153: the request of a running restart attempt keeps the port QUIESCED. -/
theorem quiesceClear_stays {s : State} {p : Nat} (hst : s.rd F.TAP_STAT_PSTATE p = 3) (hacb : s.on F.TAP_STAT_ACB_Q p = true)
    (hstep : s.rd F.ACB_STAT_STEP ≠ 0) :
    (opQuiesceClear p s).rd F.TAP_CTRL_QUIESCE p = 0 ∧ (opQuiesceClear p s).rd F.TAP_STAT_PSTATE p = 3 := by
  obtain ⟨hq, hst', -, hacb'⟩ := quiesceCleared s p
  have hstays : opQuiesceClear p s = (s.wr F.TAP_CTRL_QUIESCE 0 p).dropAcbQ p :=
    if_neg (by rw [State.on] at hacb; simp [State.on, hacb' hstep, hacb])
  rw [hstays]
  exact ⟨hq, hst'.trans hst⟩

/-- A write to a page whose clock domain runs acts. -/
theorem onPage_of_takes {s : State} {p : Nat} (h : s.Takes p) (f : State → State) : s.onPage p f = f s :=
  if_neg (by rw [h]; decide)

/-- Settles O18: what is partial is dropped first, so that no port takes bytes when backpressure is brought up to date at the
end of the command; the rest is read off the writes of TAP_STAT and TAP_CTRL. -/
theorem portEntersResyncAndQuiesced : Obligations.PortEntersResyncAndQuiesced := by
  unfold Obligations.PortEntersResyncAndQuiesced
  intro s p hl hc
  have hp : p.val < 2 := p.isLt
  refine ⟨fun hup hrun => ⟨_, rfl, linkDown_watch hp hl hc hup hrun⟩, ⟨_, rfl, ?_, ?_, rfl, fun k hk => ?_⟩, fun hrun => ?_,
    fun htakes => ⟨fun hlive => ?_, fun hidle => ?_, fun hon => ?_, fun hst hacb => ?_, fun hst hacb hstep => ?_⟩⟩
  · exact rd_wr_same s (by decide) (by decide) 1 p.val 0
  · exact rd_wr_beside s (f := F.TAP_STAT_LINKUP) (g := F.TAP_STAT_PSTATE) (by decide) (by decide) rfl (by decide) 1 p.val 0
  · exact look_wr_other s (f := F.TAP_STAT_LINKUP) (fun e => hk (List.mem_singleton.mpr e)) 1
  · obtain ⟨hst, hcause, hkept⟩ := tapRestart_watch hp hl hc (.inr hrun) 0
    exact ⟨_, rfl, hst, hcause hrun, hkept⟩
  · refine ⟨_, congrArg Host.Outcome.next (onPage_of_takes htakes _), ?_⟩
    rw [opFlush_eq_tapRestart]
    exact tapRestart_watch hp hl hc hlive 1
  · refine ⟨_, congrArg Host.Outcome.next (onPage_of_takes htakes _), congrArg State.watch ?_⟩
    obtain h | h := hidle <;> simp only [opFlush, h]
  · exact ⟨_, congrArg Host.Outcome.next (onPage_of_takes htakes _), quiesceSet_watch hp hl hc hon⟩
  · exact ⟨_, congrArg Host.Outcome.next (onPage_of_takes htakes _), quiesceClear_leaves hst hacb⟩
  · exact ⟨_, congrArg Host.Outcome.next (onPage_of_takes htakes _), quiesceClear_stays hst hacb hstep⟩

end Sys2Proof.Machine

/-! Proofs for the statements of boot, reset and the recorder (20_boot_reset_recorder.md). -/

namespace Sys2Proof.Machine

/-- A part of the state that does not read the registers is, after a register write, as before. -/
theorem part_setWord {α : Type} (part : State → α) (h : ∀ (u : State) m, part { u with regs := m } = part u) (s : State) (r : Reg)
    (v a b : Nat) : part (s.setWord r v a b) = part s := h s _

/-! ### The warm reset -/

/-- The registers that a warm reset writes after all of them have been reset: those of which something survives, and the cause. -/
def warmRegs : List Reg :=
  [R.FCU_FIRSTF, R.FCU_FIRSTF_NS, R.FCU_FIRSTF_SEC_LO, R.FCU_FIRSTF_SEC_HI, R.ACB_RCNT, R.ACB_CTRL, R.ACB_STAT, R.BOOT_CAUSE]

theorem look_keepWords (s t : State) {l : List Reg} {k : Nat} (h : ∀ r ∈ l, k ≠ r.key 0 0) :
    Store.look (l.foldl (fun s r => s.keepWord t r) s).regs k = Store.look s.regs k := by
  induction l generalizing s with
  | nil => rfl
  | cons r l ih =>
    obtain ⟨hr, hl⟩ := List.forall_mem_cons.mp h
    exact (ih _ hl).trans (by simp only [State.keepWord, State.setWord, Store.look_put, if_neg hr])

/-- R751: a reset that keeps no page leaves no register with another value than its reset value. -/
theorem coreReset_regs (s : State) : (s.coreReset fun _ => false).regs = [] :=
  List.filter_eq_nil_iff.mpr fun _ _ => Bool.false_ne_true

/-- R751: a register of which nothing survives has its reset value. -/
theorem look_warmReset (s : State) (cause : Nat) {k : Nat} (h : ∀ r ∈ warmRegs, k ≠ r.key 0 0) :
    Store.look (s.warmReset cause).regs k = 0 := by
  have hctrl : k ≠ R.ACB_CTRL.key 0 0 := h _ (by simp only [warmRegs, List.mem_cons, true_or, or_true])
  have hstat : k ≠ R.ACB_STAT.key 0 0 := h _ (by simp only [warmRegs, List.mem_cons, true_or, or_true])
  have hcause : k ≠ R.BOOT_CAUSE.key 0 0 := h _ (by simp only [warmRegs, List.mem_cons, true_or, or_true])
  unfold State.warmReset
  extract_lets t reset erc unsnapped kept run variants loads seen
  have hreset : Store.look unsnapped.regs k = 0 := congrArg (Store.look · k) (coreReset_regs t)
  have hkept : Store.look kept.regs k = Store.look unsnapped.regs k :=
    look_keepWords _ _ fun r hr => h r (List.mem_append_left [R.ACB_CTRL, R.ACB_STAT, R.BOOT_CAUSE] hr)
  calc Store.look (seen.wr F.BOOT_CAUSE_CAUSE cause).regs k
    _ = Store.look seen.regs k := look_wr_other _ hcause _
    _ = Store.look loads.regs k := (look_wr_other _ hstat _).trans (look_wr_other _ hstat _)
    _ = Store.look variants.regs k := (look_wr_other _ hstat _).trans (look_wr_other _ hstat _)
    _ = Store.look run.regs k := (look_wr_other _ hstat _).trans (look_wr_other _ hstat _)
    _ = Store.look kept.regs k := look_wr_other _ hctrl _
    _ = 0 := hkept.trans hreset

/-- R752: BOOT_CAUSE shows what the reset was for. -/
theorem warmReset_cause (s : State) (cause : Nat) : (s.warmReset cause).rd F.BOOT_CAUSE_CAUSE = cause % 8 :=
  rd_wr_same _ (by decide) (by decide) cause 0 0

/-- R531, R751: a warm reset sets the fatal latch, which is the reset value of its bit. -/
theorem warmReset_fatal (s : State) (cause : Nat) : (s.warmReset cause).fatal = true := by
  rw [State.fatal, State.on, State.rd, State.word, look_warmReset s cause (by decide)]
  decide

/-- R751, R753: a warm reset takes every key and ends the key sequence. -/
theorem warmReset_keys (s : State) (cause : Nat) :
    (s.warmReset cause).kcu = Kcu.reset ∧ (s.warmReset cause).boot.wrstKeyAt = none := ⟨rfl, rfl⟩

/-- R751, R753: neither a warm reset nor the restart attempt that it ends touches the OTP or the time. -/
theorem warmReset_survivors (s : State) (cause : Nat) :
    (s.warmReset cause).otp = s.otp ∧ (s.warmReset cause).tbu = s.tbu := by
  have hreset : (s.warmReset cause).otp = (s.acbAbort 4).1.otp ∧ (s.warmReset cause).tbu = (s.acbAbort 4).1.tbu := by
    simp only [State.warmReset, State.keepWord, State.wr, List.foldl, part_setWord State.otp fun _ _ => rfl,
      part_setWord State.tbu fun _ _ => rfl, State.coreReset, and_self]
  obtain ⟨hotp, htbu⟩ := hreset
  rw [hotp, htbu, ((State.Reacted.refl s).acbAbort 4).rest]
  exact ⟨rfl, rfl⟩

/-! ### The start of a boot attempt -/

/-- R755: an attempt runs from B0. -/
theorem startAttempt_begins (s : State) : s.startAttempt.boot.running = true ∧ s.startAttempt.rd F.BOOT_STAT_STEP = 0 := by
  refine ⟨rfl, ?_⟩
  unfold State.startAttempt
  rw [rd_wr_other (g := F.BOOT_STAT_STEP) _ (by decide), rd_wr_beside _ (by decide) (by decide) (by rfl) (by decide),
    rd_wr_beside _ (by decide) (by decide) (by rfl) (by decide), rd_wr_same _ (by decide) (by decide), Nat.zero_mod]

/-- R755: an attempt shows its step, image and BFAIL in BOOT_STAT and the core out of reset in FCU_STAT; no other register
changes. -/
theorem word_startAttempt (s : State) {r : Reg} {a b : Nat} (hboot : r.key a b ≠ R.BOOT_STAT.key 0 0)
    (hcore : r.key a b ≠ R.FCU_STAT.key 0 0) : s.startAttempt.word r a b = s.word r a b := by
  unfold State.startAttempt
  rw [word_wr_other _ hcore, word_wr_other _ hboot, word_wr_other _ hboot, word_wr_other _ hboot]
  simp only [State.word, State.updEntry, State.updLed]

/-- R755: CORE_OK stands beside the fatal latch, which stays. -/
theorem startAttempt_fatal (s : State) : s.startAttempt.fatal = s.fatal := by
  have hlatch : s.startAttempt.rd F.FCU_STAT_LATCH = s.rd F.FCU_STAT_LATCH := by
    unfold State.startAttempt
    rw [rd_wr_beside _ (by decide) (by decide) (by rfl) (by decide), rd_wr_other _ (by decide), rd_wr_other _ (by decide),
      rd_wr_other _ (by decide)]
    simp only [State.rd, State.word, State.updEntry, State.updLed]
  rw [State.fatal, State.fatal, State.on, State.on, hlatch]

/-- An attempt takes no key, changes no key sequence, and leaves the OTP and the time. -/
theorem startAttempt_kept (s : State) :
    s.startAttempt.kcu = s.kcu ∧ s.startAttempt.boot.wrstKeyAt = s.boot.wrstKeyAt ∧ s.startAttempt.otp = s.otp ∧
      s.startAttempt.tbu = s.tbu := by
  simp only [State.startAttempt, State.wr, part_setWord State.kcu fun _ _ => rfl, part_setWord State.boot fun _ _ => rfl,
    part_setWord State.otp fun _ _ => rfl, part_setWord State.tbu fun _ _ => rfl, State.updEntry, State.updLed, and_self]

/-! ### The keys of a warm reset -/

/-- BOOT_WRST is written where the clock domain of its page runs. -/
theorem exec_bootWrst {s : State} (h : s.Takes 27) (key : BitVec 8) : exec (.bootWrst key) s = .next (opBootWrst key.toNat s) :=
  congrArg Host.Outcome.next (onPage_of_takes h _)

section

variable {s : State}

/-- R754: STUCK takes no key. -/
theorem opBootWrst_stuck (h : s.on F.BOOT_STAT_STUCK = true) (key : Nat) : opBootWrst key s = s := if_pos h

/-- R752: the first key arms the sequence, and arms it anew where one is pending (assumption log 146). -/
theorem opBootWrst_first (h : s.on F.BOOT_STAT_STUCK = false) {key : Nat} (hkey : key = 0xC3) :
    opBootWrst key s = { s with boot := { s.boot with wrstKeyAt := some s.cyc } } := by
  simp only [opBootWrst, h, Bool.false_eq_true, ↓reduceIte, hkey]

/-- R752: the second key within 1 ms of the first. -/
theorem opBootWrst_second (h : s.on F.BOOT_STAT_STUCK = false) {key : Nat} (hkey : key = 0x3C) {c : Nat}
    (hc : s.boot.wrstKeyAt = some c) (hdue : s.cyc ≤ c + msC 1) : opBootWrst key s = (s.warmReset 3).startAttempt := by
  simp only [opBootWrst, h, Bool.false_eq_true, ↓reduceIte, hkey, Nat.reduceEqDiff, decide_true, hc, hdue, Bool.and_self]

/-- R752: any other write, the second key too where no first key of the last 1 ms is pending, cancels. -/
theorem opBootWrst_cancel (h : s.on F.BOOT_STAT_STUCK = false) {key : Nat} (hfirst : key ≠ 0xC3)
    (hlate : key ≠ 0x3C ∨ ∀ c, s.boot.wrstKeyAt = some c → c + msC 1 < s.cyc) :
    opBootWrst key s = { s with boot := { s.boot with wrstKeyAt := none } } := by
  obtain hother | hlate := hlate
  · simp only [opBootWrst, h, Bool.false_eq_true, ↓reduceIte, hfirst, hother, decide_false, Bool.false_and]
  · cases hpend : s.boot.wrstKeyAt with
    | none => simp only [opBootWrst, h, Bool.false_eq_true, ↓reduceIte, hfirst, hpend, Bool.and_false]
    | some c =>
      have hover : ¬ s.cyc ≤ c + msC 1 := Nat.not_le_of_lt (hlate c hpend)
      simp only [opBootWrst, h, Bool.false_eq_true, ↓reduceIte, hfirst, hpend, hover, decide_false, Bool.and_false]

end

/-- R752: what the warm reset by the second key and its boot attempt leave. -/
theorem startAttempt_warmReset {s t : State} (h : t = (s.warmReset 3).startAttempt) :
    t.rd F.BOOT_CAUSE_CAUSE = 3 ∧ t.boot.running = true ∧ t.rd F.BOOT_STAT_STEP = 0 ∧ t.fatal = true ∧
      t.kcu = Kcu.reset ∧ t.boot.wrstKeyAt = none ∧ t.otp = s.otp ∧ t.tbu = s.tbu := by
  obtain ⟨hkcu, hseq⟩ := warmReset_keys s 3
  obtain ⟨hotp, htbu⟩ := warmReset_survivors s 3
  have hcause := warmReset_cause s 3
  have hfatal := warmReset_fatal s 3
  generalize s.warmReset 3 = u at *
  subst h
  obtain ⟨hrun, hstep⟩ := startAttempt_begins u
  obtain ⟨hkcu', hseq', hotp', htbu'⟩ := startAttempt_kept u
  refine ⟨?_, hrun, hstep, (startAttempt_fatal u).trans hfatal, hkcu'.trans hkcu, hseq'.trans hseq, hotp'.trans hotp,
    htbu'.trans htbu⟩
  rw [State.rd, word_startAttempt u (by decide) (by decide)]
  exact hcause

/-- Settles O2, by the four answers of BOOT_WRST: the warm reset returns FCU_STAT, with its latch, and the keys to their
reset values, and the boot attempt that follows starts B0 beside them. -/
theorem warmResetTakesTwoKeys : Obligations.WarmResetTakesTwoKeys := by
  unfold Obligations.WarmResetTakesTwoKeys
  intro s key htakes
  refine ⟨fun hstuck => ⟨_, exec_bootWrst htakes key, opBootWrst_stuck hstuck _⟩,
    fun hfree hkey => ⟨_, exec_bootWrst htakes key, opBootWrst_first hfree (congrArg BitVec.toNat hkey)⟩,
    fun hfree hkey c hc hdue => ⟨_, exec_bootWrst htakes key,
      startAttempt_warmReset (opBootWrst_second hfree (congrArg BitVec.toNat hkey) hc hdue)⟩,
    fun hfree hfirst hlate => ⟨_, exec_bootWrst htakes key, opBootWrst_cancel hfree ?_ ?_⟩⟩
  · exact fun h => hfirst (BitVec.eq_of_toNat_eq h)
  · exact hlate.imp_left fun hother h => hother (BitVec.eq_of_toNat_eq h)

end Sys2Proof.Machine
